-- ==== Sys2Proof/Word.lean ====
section
/-! DEFINITION. The word types of the part and the small index types that name its lanes, channels and slots
(chapter "Conventions"). -/

namespace Sys2Proof

/-- One byte of the register window. -/
abbrev Byte := BitVec 8

/-- A sixteen-bit quantity: a tag, an epoch number, a width, a count per window. -/
abbrev Half := BitVec 16

/-- A 32-bit position, taken modulo 2^32 ("Counts and Positions"), or a 32-bit wrapping counter. -/
abbrev Word := BitVec 32

/-- A sixteen-bit address of the register window: page in the high byte, offset in the low byte (chapter 10). -/
abbrev Addr := BitVec 16

/-- Lanes L0 to L3. -/
abbrev Lane := Fin 4

/-- Channels CH0 to CH15, each driving the line OUTn. -/
abbrev Channel := Fin 16

/-- Slots 0 to 255 of the tracking table (R38). -/
abbrev Slot := Fin 256

/-- A verdict class, 0 to 7. Class 0 is ACCEPT. -/
abbrev Class := BitVec 3

end Sys2Proof
end

