-- ==== Sys2Proof/Config.lean ====
section
/-! DEFINITION. What the guide leaves open: the order in which events that arrive together are taken. The orders
themselves are free values; nothing in Lean can evaluate them. -/

namespace Sys2Proof

/-- The pieces of work that one advance gives to the blocks. The guide orders them only in part (R17, R51, R53, R54, R99,
R125, R135): the order of the rest is open, and either order may occur. Each decision, each exit and each action handed to a
channel is an event of its own (R51, R53, R117), so three of the pieces can be taken in parts: a part takes one of the events
of its piece, and the piece takes those that are left. -/
inductive AdvanceWork where
  /-- Channel n takes its COUNTS pulse end and then its due actions, in that order (R135, R117). -/
  | channel (n : Channel)
  /-- A part of `channel n`: its COUNTS pulse end, or where none is due the first of its due actions. -/
  | channelEvent (n : Channel)
  /-- The detector of a lane compares H with its gap end or with the overlength position (R33, R34). -/
  | detector (l : Lane)
  /-- The table takes the decisions of the advance (R50, R51). -/
  | decisions
  /-- A part of `decisions`: the first decision that is still to come, in the order of R51. With it the table fixes the
  decisions of the advance. -/
  | decision
  /-- The table takes the exits of the advance, after its decisions (R52, R53). -/
  | exits
  /-- A part of `exits`: the first exit that is due, in belt order. -/
  | exit
  /-- The posting of the OUTCOME records that wait, after the exits. With an empty verdict FIFO the exits post them without being
  told to; while a verdict record waits, this names the moment of the advance at which they are posted, and where it is not named
  the posting is left to OUTCOME_POST (R56, R77, R162, assumption 13). -/
  | posts
  /-- The pitch mark: the commit attempt and the next M (R17, R18, R92). -/
  | mark
  /-- The PER_PITCH placement of the mark, once the attempt is over (R114). -/
  | pitchActions
  /-- The raw input change that a commit gives a lane whose active level it changes (R20). -/
  | levelChange (l : Lane)
  /-- The engine takes the completion of a drain at this advance (R17, R149). -/
  | drainCompletion
  deriving DecidableEq, Repr

/-- A free value (assumption 3): the order in which the part's own events that are ready together reach their blocks, as a
number that names a permutation, one for each value of the model's counter `freeCount`. -/
opaque Config.eventOrder : Nat → Nat

/-- A free value (assumption 2): the order of work at an advance that the part takes of its own accord. -/
opaque Config.advanceOrder : Nat → List AdvanceWork

end Sys2Proof
end

