-- ==== Sys2Proof/Syntax.lean ====
section
/-! DEFINITION. The commands of the part: one constructor for each row of spec/opcode_table.json. The table gives the rows no
operand fields; the operands here are what each row's rule needs (assumption 1). -/

namespace Sys2Proof

/-- One of the two encoder phases, ENCA and ENCB. -/
inductive EncoderPhase where
  | encA
  | encB
  deriving DecidableEq, Repr

/-- The levels of the input pins when RSTN rises (R1, R169, R175), true for a high level. -/
structure InputLevels where
  encA : Bool
  encB : Bool
  det : Vector Bool 4
  csn : Bool
  deriving DecidableEq, Repr

/-- One of the two bytes of the flag register or of the enable register (Table 10-9). -/
inductive RegisterHalf where
  | byte0
  | byte1
  deriving DecidableEq, Repr

/-- The four configuration bytes of a channel (Table 7-2). -/
inductive ConfigByte where
  | mode
  | lane
  | activeLevel
  | widthUnit
  deriving DecidableEq, Repr

/-- The commands, in the order of the opcode table. -/
inductive Instr where
  /-- PIN_RESET (R169): RSTN is asserted and rises with the given levels on the inputs. -/
  | pinReset (levels : InputLevels)
  /-- LEGAL_TRANSITION (R2): a sample that differs from the recorded sample in the one phase named. -/
  | legalTransition (phase : EncoderPhase)
  /-- ILLEGAL_TRANSITION (R6): a sample that differs from the recorded sample in both phases. -/
  | illegalTransition
  /-- ADVANCE (R9): `first` names the work that is taken first, in its order, where the guide leaves the order open. -/
  | advance (first : List AdvanceWork)
  /-- MICROSECONDS_PULSE_END (R136) of a channel. -/
  | microsecondsPulseEnd (n : Channel)
  /-- RECOVERY_EXPIRY (R137) of a channel. -/
  | recoveryExpiry (n : Channel)
  /-- SPEED_WINDOW_END (R16). -/
  | speedWindowEnd
  /-- RAW_INPUT_CHANGE (R22): the DET line of a lane takes a level. -/
  | rawInputChange (l : Lane) (high : Bool)
  /-- DEBOUNCE_EXPIRY (R23) of a lane's pending edge. -/
  | debounceExpiry (l : Lane)
  /-- FAULT_REPORT (R150): the engine takes the oldest fault report that the motion unit has raised. -/
  | faultReport
  /-- VERDICT_PUSH (R64): a completed write to the class byte at 0x0503. -/
  | verdictPush (value : Byte)
  /-- VERDICT_TAKE (R66). -/
  | verdictTake
  /-- OUTCOME_POST (R56). -/
  | outcomePost
  /-- DRAIN_COMPLETE (R149). -/
  | drainComplete
  /-- START (R147): a completed write of 1 to the command register. -/
  | start
  /-- STOP (R148): a completed write of 2. -/
  | stop
  /-- RESUME (R152): a completed write of 3; `first` names the lanes that resample first. -/
  | resume (first : List Lane)
  /-- FLUSH (R153): a completed write of 4. -/
  | flush
  /-- COMMIT_NOW (R101): a completed write of 5. -/
  | commitNow
  /-- ENGINE_RESET (R155): a completed write of 6. -/
  | engineReset
  /-- POP (R164): a completed write of 7. -/
  | pop
  /-- FRAME_BEGIN (R170): CSN falls. -/
  | frameBegin
  /-- CONTROL_BYTE (R170): the control byte completes. -/
  | controlByte (value : Byte)
  /-- FRAME_END (R170): CSN rises. -/
  | frameEnd
  /-- STAGED_WRITE (R87): a completed write to a STAGED address. -/
  | stagedWrite (addr : Addr) (value : Byte)
  /-- STAGE_HOLD_WRITE (R89): a completed write to 0x0200. -/
  | stageHoldWrite (value : Byte)
  /-- VIEW_SELECT_WRITE (R88): a completed write to 0x0201. -/
  | viewSelectWrite (value : Byte)
  /-- FLAG_REGISTER_WRITE (R167): a completed write to a byte of 0x0014 and 0x0015. -/
  | flagRegisterWrite (which : RegisterHalf) (value : Byte)
  /-- ENABLE_REGISTER_WRITE (R168): a completed write to a byte of 0x0016 and 0x0017. -/
  | enableRegisterWrite (which : RegisterHalf) (value : Byte)
  /-- REPORT_THRESHOLD_WRITE (R165): a completed write to 0x0611. -/
  | reportThresholdWrite (value : Byte)
  /-- INSPECTION_SLOT_SELECT (R60): a completed write to 0x0800. -/
  | inspectionSlotSelect (value : Byte)
  /-- LANE_ENABLE_MASK_WRITE (R21): a completed write to 0x0110. -/
  | laneEnableMaskWrite (value : Byte)
  /-- CHANNEL_CONFIGURATION_WRITE (R127): a completed write to a byte of page 0x03. -/
  | channelConfigurationWrite (n : Channel) (which : ConfigByte) (value : Byte)
  /-- SNAPSHOT_READ (R174): the read of a byte in a READ frame. -/
  | snapshotRead (addr : Addr)
  /-- REGISTER_WRITE (R172): a completed write of a byte at any address. -/
  | registerWrite (addr : Addr) (value : Byte)
  /-- ADDRESS_BYTE (R170): an address byte completes. -/
  | addressByte (value : Byte)
  deriving DecidableEq, Repr

end Sys2Proof
end

