-- ==== Sys2Proof/Decode.lean ====
section
/-! DEFINITION. The command that a word spells by the bits of the opcode table. The table gives no row any bits, so no word
spells a command. -/

namespace Sys2Proof

/-- The command that an opcode-table word spells: none, since no row of spec/opcode_table.json has "fixed" bits or fields. -/
def decodeTableWord (_nbits _w : Nat) : Option Instr := none

end Sys2Proof
end

