-- ==== Sys2Proof/Machine/State.lean ====
section
/-! DEFINITION. The state of the part, block by block, as plain data, and its values after pin reset. -/

namespace Sys2Proof.Machine

/-! ### The motion unit (chapter 1) -/

/-- One pair of levels on ENCA and ENCB, true for high (R1). -/
structure Phases where
  encA : Bool
  encB : Bool
  deriving DecidableEq, Repr

/-- The decode mode (Table 1-3). -/
inductive DecodeMode where
  | x1
  | x2
  | x4
  deriving DecidableEq, Repr

/-- The cause of a fault, with the codes of Table 8-1. -/
inductive FaultCause where
  | none
  | reversal
  | encoderPhase
  deriving DecidableEq, Repr

/-- A fault report on its way from the motion unit to the engine (R12). -/
structure FaultReport where
  cause : FaultCause
  p : Word
  h : Word
  deriving DecidableEq, Repr

/-- The last four window counts, oldest first (R16). -/
structure SpeedHistory where
  w0 : Half
  w1 : Half
  w2 : Half
  w3 : Half
  deriving DecidableEq, Repr

/-- Table 1-1, with the microsecond tick of R13. The reversal condition is computed (`reversalHolds`). -/
structure Motion where
  recorded : Phases
  decodeMode : DecodeMode
  invert : Bool
  backlash : Byte
  phaseLimit : BitVec 4
  p : Word
  h : Word
  m : Word
  phaseErrors : Byte
  windowCount : Half
  history : SpeedHistory
  speed : Half
  /-- Microsecond ticks since RSTN rose (R13). -/
  tick : Nat
  /-- The tick on which the speed window under way ends (R15). -/
  windowEnd : Nat
  /-- Fault reports raised and not yet taken by the engine, oldest first (R12). -/
  reports : List FaultReport
  deriving DecidableEq, Repr

/-! ### The lane detectors (chapter 2) -/

/-- Table 2-2. The taken level is ACTIVE in COVERED and BLOCKED and INACTIVE in CLEAR and GAP (R20). -/
inductive DetectorState where
  | clear
  | covered
  | blocked
  | gap
  deriving DecidableEq, Repr

/-- A change under debounce (R22). The remaining debounce is `expires` less the tick. -/
structure PendingEdge where
  latched : Word
  expires : Nat
  inGap : Bool
  deriving DecidableEq, Repr

/-- The last trailing position and the min gap copied with it (R29, R33). -/
structure GapReference where
  trailing : Word
  minGap : Half
  deriving DecidableEq, Repr

/-- Table 2-1, for one lane. -/
structure Detector where
  state : DetectorState
  edge : Option PendingEdge
  gap : Option GapReference
  nextTag : Half
  deriving DecidableEq, Repr

/-- The lane enable mask and the four detectors. -/
structure Detectors where
  enabled : BitVec 4
  lane : Vector Detector 4
  deriving DecidableEq, Repr

/-! ### The tracking table (chapter 3) -/

/-- One of the two stored profile sets (R84). -/
inductive Bank where
  | a
  | b
  deriving DecidableEq, Repr

/-- The states of a non-FREE entry (Table 3-3); a FREE slot is one that the table does not list. -/
inductive EntryState where
  | opening
  | tracked
  | held
  | scheduled
  | done
  deriving DecidableEq, Repr

/-- Where a verdict came from (R41). -/
inductive VerdictSource where
  | host
  | laneDefault
  | forced
  deriving DecidableEq, Repr

/-- A verdict class and its source, set together (R41). -/
structure Verdict where
  cls : Class
  source : VerdictSource
  deriving DecidableEq, Repr

/-- The ten entry flags (Table 3-2). -/
structure EntryFlags where
  overlength : Bool := false
  lateVerdict : Bool := false
  lateStart : Bool := false
  collision : Bool := false
  deferred : Bool := false
  joined : Bool := false
  cut : Bool := false
  missed : Bool := false
  scheduleFull : Bool := false
  abandoned : Bool := false
  deriving DecidableEq, Repr

/-- Table 3-1, for a non-FREE slot. The pending count is computed (`pendingCount`, R44). -/
structure Entry where
  state : EntryState
  lane : Lane
  tag : Option Half
  epoch : Half
  bank : Bank
  leading : Word
  length : Option Half
  verdict : Option Verdict
  flags : EntryFlags
  /-- The set of channels that have driven a pulse for the entry, bit n for channel n (R43). -/
  fired : BitVec 16
  deriving DecidableEq, Repr

/-- Table 3-6, for one lane. -/
structure LaneCounters where
  confirmed : Word
  outcomes : Word
  dropped : Word
  deriving DecidableEq, Repr

/-- The inspection select and snapshot (R60, R61): the slot selected, its entry as copied (none for FREE) and its pending
count as copied. -/
structure Inspection where
  slot : Slot
  entry : Option Entry
  pendingCount : Nat
  deriving DecidableEq, Repr

/-- The tracking table. `entries` lists the non-FREE slots, slots strictly rising (`Table.wf`). -/
structure Table where
  entries : List (Slot × Entry)
  laneList : Vector (List Slot) 4
  doneList : List Slot
  counters : Vector LaneCounters 4
  inspection : Inspection
  deriving DecidableEq, Repr

/-! ### The verdict unit (chapter 4) -/

/-- One verdict record (section 4.1). -/
structure VerdictRecord where
  lane : Byte
  tag : Half
  cls : Class
  deriving DecidableEq, Repr

/-- Table 4-1: the staging bytes, the FIFO oldest first, and the exception count. -/
structure Verdicts where
  laneByte : Byte
  tagLow : Byte
  tagHigh : Byte
  classByte : Class
  fifo : List VerdictRecord
  exceptionCount : Half
  deriving DecidableEq, Repr

/-! ### The epoch unit (chapter 5) -/

/-- Table 5-2. -/
structure LaneProfile where
  decisionOffset : Word
  exitOffset : Word
  minLength : Half
  maxLength : Half
  minGap : Half
  debounce : Byte
  activeHigh : Bool
  defaultClass : Class
  overlengthClass : Class
  deriving DecidableEq, Repr

/-- What a channel does with a newcomer that finds it busy (Table 7-4). -/
inductive Policy where
  | refuse
  | join
  deriving DecidableEq, Repr

/-- Table 5-3. -/
structure ChannelProfile where
  offset : Word
  width : Half
  lead : Half
  recovery : Half
  policy : Policy
  classMask : Byte
  deriving DecidableEq, Repr

/-- Table 5-1: one complete profile set. -/
structure ProfileSet where
  pitch : Word
  lanes : Vector LaneProfile 4
  channels : Vector ChannelProfile 16
  deriving DecidableEq, Repr

/-- Table 5-8. -/
inductive CommitResult where
  | none
  | committed
  | deferredFrame
  | deferredReferenced
  | rejected
  | currentInvalid
  deriving DecidableEq, Repr

/-- What a read of a STAGED address returns (R88). -/
inductive View where
  | shadow
  | active
  deriving DecidableEq, Repr

/-- A check code: the check number 1 to 9 and the lane or channel index, 0 and 0 when there is none (R91). -/
structure CheckCode where
  number : Nat
  index : Nat
  deriving DecidableEq, Repr

/-- The epoch unit. The live count of each bank is computed (`liveCount`, R86). -/
structure EpochUnit where
  shadow : ProfileSet
  bankA : ProfileSet
  bankB : ProfileSet
  current : Bank
  epoch : Half
  pending : Bool
  rejected : Bool
  deferral : Bool
  lastResult : CommitResult
  check : CheckCode
  hold : Bool
  view : View
  deriving DecidableEq, Repr

/-! ### The action schedule (chapter 6) and the output channels (chapter 7) -/

/-- The width unit of a channel. -/
inductive WidthUnit where
  | counts
  | microseconds
  deriving DecidableEq, Repr

/-- The end of an ACTIVE action: a position, or a time on the microsecond tick (Table 6-1). -/
inductive PulseEnd where
  | position (a : Word)
  | time (t : Nat)
  deriving DecidableEq, Repr

/-- PENDING with its deferred mark, or ACTIVE with its end (Table 6-1). -/
inductive ActionState where
  | pending (deferred : Bool)
  | active (finish : PulseEnd)
  deriving DecidableEq, Repr

/-- Table 6-1. -/
structure Action where
  channel : Channel
  item : Option Slot
  start : Word
  width : Half
  unit : WidthUnit
  policy : Policy
  recovery : Half
  state : ActionState
  deriving DecidableEq, Repr

/-- The mode of a channel, with the codes of Table 7-2. -/
inductive ChannelMode where
  | off
  | perItem
  | perPitch
  | verdict
  deriving DecidableEq, Repr

/-- The configuration of a channel (Table 7-2). -/
structure ChannelConfig where
  mode : ChannelMode
  lane : Lane
  activeHigh : Bool
  unit : WidthUnit
  deriving DecidableEq, Repr

/-- Table 7-3. In ACTIVE the channel's ACTIVE action is the one the schedule holds for it (R128). In RECOVERY the remaining
recovery is `expires` less the tick (R129). -/
inductive ChannelState where
  | idle
  | active
  | recovery (expires : Nat)
  deriving DecidableEq, Repr

/-- Table 7-1, for one channel. -/
structure OutputChannel where
  config : ChannelConfig
  state : ChannelState
  deriving DecidableEq, Repr

/-! ### The engine (chapter 8) -/

/-- The engine states, with the codes of Table 8-1. -/
inductive EngineState where
  | stopped
  | running
  | draining
  | frozen
  deriving DecidableEq, Repr

/-- Table 8-3. -/
inductive CommandResult where
  | none
  | accepted
  | refusedState
  | refusedInvalid
  | refusedPosition
  | refusedHold
  | refusedEmpty
  deriving DecidableEq, Repr

/-- The fault record (Table 8-1, Table 10-12). -/
structure FaultRecord where
  cause : FaultCause
  prior : EngineState
  further : Byte
  p : Word
  h : Word
  deriving DecidableEq, Repr

/-- Table 8-1. -/
structure Engine where
  state : EngineState
  frozenFrom : Option EngineState
  lastCommand : Byte
  lastResult : CommandResult
  fault : FaultRecord
  deriving DecidableEq, Repr

/-! ### The report queue and the interrupt unit (chapter 9) -/

/-- Table 9-4. -/
inductive ExceptionCode where
  | shortItem
  | gapShort
  | tableFull
  | edgeWhileDraining
  | verdictLate
  | verdictUnknown
  | verdictDuplicate
  | verdictLocked
  | pitchScheduleFull
  | pitchCollision
  deriving DecidableEq, Repr

/-- Table 9-3: the five kinds of record. -/
inductive Report where
  | detect (lane : Lane) (tag epoch : Half) (leading : Word) (length : Half) (overlength : Bool)
  | outcome (lane : Lane) (tag epoch : Half) (leading : Word) (verdict : Option Verdict) (fired : BitVec 16)
      (flags : EntryFlags)
  | exception (code : ExceptionCode) (lane : Option Lane) (tag : Option Half) (position : Word)
  | fault (cause : FaultCause) (prior : EngineState) (p h : Word)
  | commit (epoch : Half) (h : Word)
  deriving DecidableEq, Repr

/-- Table 9-1. -/
structure ReportQueue where
  records : List Report
  threshold : Byte
  lost : Half
  deriving DecidableEq, Repr

/-- The thirteen interrupt flags (Table 9-6). -/
inductive Flag where
  | powerOn
  | reportLevel
  | lost
  | exception
  | fault
  | commitDone
  | commitDeferred
  | commitRejected
  | verdictErr
  | verdictFull
  | cmdRefused
  | accessErr
  | stoppedReached
  deriving DecidableEq, Repr

/-- The sticky flags and the enables, one bit for each flag in the order of Table 10-9. The position of REPORT_LEVEL in
`sticky` is not used: that flag is live and is computed (R165). -/
structure Interrupts where
  sticky : BitVec 13
  enables : BitVec 13
  deriving DecidableEq, Repr

/-! ### The register window (chapter 10) -/

/-- Direction of a frame and its INCREMENT bit (R170). -/
structure FrameMode where
  read : Bool
  increment : Bool
  deriving DecidableEq, Repr

/-- The frame state of Table 10-1. `ignored` is a frame whose ignore mark is set; the current address is in `data`. -/
inductive Frame where
  | idle
  | control
  | ignored
  | addressHigh (mode : FrameMode)
  | addressLow (mode : FrameMode) (high : Byte)
  | data (mode : FrameMode) (addr : Addr)
  deriving DecidableEq, Repr

/-- One read snapshot for each quantity of Table 10-3. Each counter of `counters` is a snapshot of its own. -/
structure Snapshots where
  fault : FaultRecord
  lastRefused : Addr
  p : Word
  h : Word
  speed : Half
  epoch : Half
  verdictExceptions : Half
  lost : Half
  counters : Vector LaneCounters 4
  deriving DecidableEq, Repr

/-- Table 10-1, with the level of CSN and the byte last put in the shift register of SDO. -/
structure Window where
  csn : Bool
  frame : Frame
  frameOpen : Bool
  lastRefused : Addr
  snapshots : Snapshots
  /-- The byte that SDO shifts out while CSN is low (R170, R171). -/
  shiftOut : Byte
  deriving DecidableEq, Repr

/-! ### The part -/

/-- Everything the guide gives the part, block by block, and the queue of commands waiting. -/
structure State where
  motion : Motion
  /-- The levels on DET0 to DET3, true for high. -/
  det : Vector Bool 4
  detectors : Detectors
  table : Table
  verdicts : Verdicts
  epochUnit : EpochUnit
  /-- The action schedule, in schedule order (R109). -/
  schedule : List Action
  channels : Vector OutputChannel 16
  engine : Engine
  queue : ReportQueue
  interrupts : Interrupts
  window : Window
  /-- The commands that are waiting, first in first out. -/
  pending : List Instr
  /-- The MODEL's own counter, to which the free values of Config are applied (assumption 3). -/
  freeCount : Nat
  deriving DecidableEq, Repr

/-- No command of the part ends in a fault: the guide gives every access and every event its effect (R172, R173). The type
has no constructor. -/
inductive Fault where
  deriving DecidableEq, Repr

/-- Why a command has no meaning in the model. -/
inductive Refusal where
  /-- Raised by `exec` for a command whose meaning is not written. Safe: the machine stops. No arm raises it. -/
  | notModelled (mnemonic : String)
  deriving DecidableEq, Repr

/-! ### Values after pin reset -/

/-- The defaults of Table 5-2. -/
def LaneProfile.defaults : LaneProfile :=
  { decisionOffset := 256, exitOffset := 4096, minLength := 1, maxLength := 200, minGap := 1, debounce := 0,
    activeHigh := true, defaultClass := 1, overlengthClass := 1 }

/-- The defaults of Table 5-3. -/
def ChannelProfile.defaults : ChannelProfile :=
  { offset := 0, width := 1, lead := 0, recovery := 0, policy := .refuse, classMask := 0xFE }

/-- The default profile set (R82). -/
def ProfileSet.defaults : ProfileSet :=
  { pitch := 1024, lanes := Vector.replicate 4 LaneProfile.defaults,
    channels := Vector.replicate 16 ChannelProfile.defaults }

/-- The fault record when no fault is recorded (R151). -/
def FaultRecord.empty : FaultRecord :=
  { cause := .none, prior := .stopped, further := 0, p := 0, h := 0 }

/-- Counters at zero (Table 3-6). -/
def LaneCounters.zero : LaneCounters := { confirmed := 0, outcomes := 0, dropped := 0 }

/-- Table 1-8 and Table 1-4. The recorded sample is the levels present when RSTN rises. -/
def Motion.reset (recorded : Phases) : Motion :=
  { recorded := recorded, decodeMode := .x4, invert := false, backlash := 8, phaseLimit := 4, p := 0, h := 0, m := 1024,
    phaseErrors := 0, windowCount := 0, history := { w0 := 0, w1 := 0, w2 := 0, w3 := 0 }, speed := 0, tick := 0,
    windowEnd := 1024, reports := [] }

/-- Table 2-5, for one lane. -/
def Detector.reset : Detector := { state := .clear, edge := none, gap := none, nextTag := 0 }

/-- Table 2-5. -/
def Detectors.reset : Detectors := { enabled := 0xF, lane := Vector.replicate 4 Detector.reset }

/-- Table 3-7. -/
def Table.reset : Table :=
  { entries := [], laneList := Vector.replicate 4 [], doneList := [], counters := Vector.replicate 4 LaneCounters.zero,
    inspection := { slot := 0, entry := none, pendingCount := 0 } }

/-- Table 4-6. -/
def Verdicts.reset : Verdicts :=
  { laneByte := 0, tagLow := 0, tagHigh := 0, classByte := 0, fifo := [], exceptionCount := 0 }

/-- Table 5-10. -/
def EpochUnit.reset : EpochUnit :=
  { shadow := ProfileSet.defaults, bankA := ProfileSet.defaults, bankB := ProfileSet.defaults, current := .a, epoch := 0,
    pending := false, rejected := false, deferral := false, lastResult := .none, check := { number := 0, index := 0 },
    hold := false, view := .shadow }

/-- R127 and R142. -/
def OutputChannel.reset : OutputChannel :=
  { config := { mode := .off, lane := 0, activeHigh := true, unit := .counts }, state := .idle }

/-- Table 8-7. -/
def Engine.reset : Engine :=
  { state := .stopped, frozenFrom := none, lastCommand := 0, lastResult := .none, fault := FaultRecord.empty }

/-- Table 9-5. -/
def ReportQueue.reset : ReportQueue := { records := [], threshold := 1, lost := 0 }

/-- R169: POWER_ON set; the enables of REPORT_LEVEL and FAULT set. -/
def Interrupts.reset : Interrupts := { sticky := 0x0001, enables := 0x0012 }

/-- R174: the snapshots are 0 after pin reset. -/
def Snapshots.reset : Snapshots :=
  { fault := FaultRecord.empty, lastRefused := 0, p := 0, h := 0, speed := 0, epoch := 0, verdictExceptions := 0, lost := 0,
    counters := Vector.replicate 4 LaneCounters.zero }

/-- R172, R174, R175. -/
def Window.reset (csn : Bool) : Window :=
  { csn := csn, frame := .idle, frameOpen := false, lastRefused := 0, snapshots := Snapshots.reset, shiftOut := 0 }

/-- Every block at its pin reset values, with the given levels on the inputs when RSTN rises (R169). -/
def State.afterPinReset (levels : InputLevels) : State :=
  { motion := Motion.reset { encA := levels.encA, encB := levels.encB }, det := levels.det, detectors := Detectors.reset,
    table := Table.reset, verdicts := Verdicts.reset, epochUnit := EpochUnit.reset, schedule := [],
    channels := Vector.replicate 16 OutputChannel.reset, engine := Engine.reset, queue := ReportQueue.reset,
    interrupts := Interrupts.reset, window := Window.reset levels.csn, pending := [], freeCount := 0 }

/-- The input levels of `State.reset` (assumption 4): both phases and every DET line low, CSN high. -/
def InputLevels.atReset : InputLevels :=
  { encA := false, encB := false, det := Vector.replicate 4 false, csn := true }

/-- The part right after pin reset. -/
def State.reset : State := State.afterPinReset InputLevels.atReset

end Sys2Proof.Machine
end

