-- ==== Sys2Proof/Machine/Operands.lean ====
section
/-! DEFINITION. Operands of the commands: positions and counts, bytes of a quantity, the codes of the tables, and the small
list and vector helpers the blocks share. -/

namespace Sys2Proof.Machine

/-! ### Positions and counts ("Counts and Positions") -/

/-- Position `a` has been reached: (H - a) mod 2^32 is less than 2^31. -/
def reached (h a : Word) : Bool := decide ((h - a).toNat < 2 ^ 31)

/-- P is ahead of H: (P - H) mod 2^32 lies from 1 to 2^31 - 1 (R9). -/
def isAhead (p h : Word) : Bool := decide (1 ≤ (p - h).toNat ∧ (p - h).toNat < 2 ^ 31)

/-- A saturating counter one step on. -/
def satSucc (v : BitVec n) : BitVec n := if v = BitVec.allOnes n then v else v + 1

/-- The distance of a start from H, read as a signed number (R109). -/
def distance (h start : Word) : Int := (start - h).toInt

/-! ### Bytes (little-endian, "Numbers and Units") -/

/-- Byte `k` of a quantity, byte 0 the least significant. -/
def byteOf (v : BitVec n) (k : Nat) : Byte := (v >>> (8 * k)).setWidth 8

/-- The quantity with byte `k` replaced, the other bytes kept (R87). -/
def setByte (v : BitVec n) (k : Nat) (b : Byte) : BitVec n :=
  (v &&& ~~~((0xFF : BitVec n) <<< (8 * k))) ||| ((b.setWidth n) <<< (8 * k))

/-- A byte holding one bit at the position named. -/
def bitAt (k : Nat) (b : Bool) : Byte := if b then 1#8 <<< k else 0

/-- A byte holding a number. -/
def byteNat (n : Nat) : Byte := BitVec.ofNat 8 n

/-! ### The work of an advance -/

/-- The piece of work that a part belongs to; a whole piece is its own. -/
def wholeWork : AdvanceWork → AdvanceWork
  | .channelEvent n => .channel n
  | .decision => .decisions
  | .exit => .exits
  | .channel n => .channel n
  | .detector l => .detector l
  | .decisions => .decisions
  | .exits => .exits
  | .posts => .posts
  | .mark => .mark
  | .pitchActions => .pitchActions
  | .levelChange l => .levelChange l
  | .drainCompletion => .drainCompletion

/-! ### Vectors and lists -/

/-- The vector with one component changed. -/
def updateAt (v : Vector α n) (i : Fin n) (f : α → α) : Vector α n := v.set i (f v[i])

/-- The vector with every component changed. -/
def mapAll (v : Vector α n) (f : α → α) : Vector α n :=
  ⟨(v.toArray.toList.map f).toArray, by simp⟩

/-- The first element that satisfies `q`, changed by `f`. -/
def modifyFirst (q : α → Bool) (f : α → α) : List α → List α
  | [] => []
  | x :: xs => if q x then f x :: xs else x :: modifyFirst q f xs

/-- One element put in a list at a place. -/
def insertAt : Nat → α → List α → List α
  | _, x, [] => [x]
  | 0, x, y :: ys => x :: y :: ys
  | n + 1, x, y :: ys => y :: insertAt n x ys

/-- The permutation of a list that a number names. Every permutation has a number. -/
def reorder : Nat → List α → List α
  | _, [] => []
  | code, x :: xs => insertAt (code % (xs.length + 1)) x (reorder (code / (xs.length + 1)) xs)

/-- The members of `all`, those that `first` names taken first and in its order. -/
def preferred [DecidableEq α] (first all : List α) : List α :=
  (first.eraseDups.filter fun x => all.contains x) ++ all.filter fun x => !first.contains x

/-- Insertion before the first element that need not come earlier; elements that tie keep their order. -/
def insertSorted (before : α → α → Bool) (x : α) : List α → List α
  | [] => [x]
  | y :: ys => if before x y then x :: y :: ys else y :: insertSorted before x ys

/-- A list sorted by `before`, ties in their order in the list. -/
def sortBy (before : α → α → Bool) : List α → List α
  | [] => []
  | x :: xs => insertSorted before x (sortBy before xs)

/-- The lanes in ascending order. -/
def allLanes : List Lane := [0, 1, 2, 3]

/-- The channels in ascending order. -/
def allChannels : List Channel := [0, 1, 2, 3, 4, 5, 6, 7, 8, 9, 10, 11, 12, 13, 14, 15]

/-! ### The slots of the tracking table: a list of the non-FREE slots, slots strictly rising -/

/-- The entry in a slot, none where the slot is FREE. -/
def findEntry (slot : Slot) : List (Slot × Entry) → Option Entry
  | [] => none
  | (k, e) :: rest => if k = slot then some e else findEntry slot rest

/-- The slots with one of them holding an entry. -/
def putEntry (slot : Slot) (e : Entry) : List (Slot × Entry) → List (Slot × Entry)
  | [] => [(slot, e)]
  | (k, d) :: rest =>
    if slot < k then (slot, e) :: (k, d) :: rest
    else if k = slot then (slot, e) :: rest
    else (k, d) :: putEntry slot e rest

/-- The slots with one of them FREE. -/
def dropEntry (slot : Slot) (l : List (Slot × Entry)) : List (Slot × Entry) := l.filter fun x => x.1 ≠ slot

/-- Search for a FREE slot upward from slot `n`. -/
def freeSlotFrom (l : List (Slot × Entry)) : Nat → Nat → Option Slot
  | 0, _ => none
  | fuel + 1, n =>
    if h : n < 256 then
      if (findEntry ⟨n, h⟩ l).isNone then some ⟨n, h⟩ else freeSlotFrom l fuel (n + 1)
    else none

/-- The lowest-numbered FREE slot (R38). -/
def lowestFreeSlot (l : List (Slot × Entry)) : Option Slot := freeSlotFrom l 256 0

/-- The canonical form of the slots: slots strictly rising, so that equal tables are equal data. -/
def slotsRising (l : List (Slot × Entry)) : Bool := decide (l.Pairwise fun x y => x.1 < y.1)

/-- The canonical form of the table. -/
def Table.wf (t : Table) : Bool := slotsRising t.entries

/-! ### Codes -/

/-- Table 8-1. -/
def EngineState.code : EngineState → Byte
  | .stopped => 0
  | .running => 1
  | .draining => 2
  | .frozen => 3

/-- Table 8-3. -/
def CommandResult.code : CommandResult → Byte
  | .none => 0
  | .accepted => 1
  | .refusedState => 2
  | .refusedInvalid => 3
  | .refusedPosition => 4
  | .refusedHold => 5
  | .refusedEmpty => 6

/-- Table 10-12. -/
def FaultCause.code : FaultCause → Byte
  | .none => 0
  | .reversal => 1
  | .encoderPhase => 2

/-- Table 5-8. -/
def CommitResult.code : CommitResult → Byte
  | .none => 0
  | .committed => 1
  | .deferredFrame => 2
  | .deferredReferenced => 3
  | .rejected => 4
  | .currentInvalid => 5

/-- Table 9-4. -/
def ExceptionCode.code : ExceptionCode → Byte
  | .shortItem => 1
  | .gapShort => 2
  | .tableFull => 3
  | .edgeWhileDraining => 4
  | .verdictLate => 5
  | .verdictUnknown => 6
  | .verdictDuplicate => 7
  | .verdictLocked => 8
  | .pitchScheduleFull => 9
  | .pitchCollision => 10

/-- Table 10-13. -/
def EntryState.code : EntryState → Byte
  | .opening => 1
  | .tracked => 2
  | .held => 3
  | .scheduled => 4
  | .done => 5

/-- Table 10-13. -/
def VerdictSource.code : VerdictSource → Byte
  | .host => 1
  | .laneDefault => 2
  | .forced => 3

/-- Table 10-13. -/
def Bank.code : Bank → Byte
  | .a => 0
  | .b => 1

/-- The codes of page 0x01, offset 0x0C. -/
def DecodeMode.code : DecodeMode → Byte
  | .x1 => 0
  | .x2 => 1
  | .x4 => 2

/-- The codes of Table 7-2. -/
def ChannelMode.code : ChannelMode → Byte
  | .off => 0
  | .perItem => 1
  | .perPitch => 2
  | .verdict => 3

/-- The codes of Table 7-2. -/
def WidthUnit.code : WidthUnit → Byte
  | .counts => 0
  | .microseconds => 1

/-- The codes of Table 5-3. -/
def Policy.code : Policy → Byte
  | .refuse => 0
  | .join => 1

/-- The decode mode that a code names (R4). -/
def decodeModeOf (v : Byte) : Option DecodeMode :=
  if v = 0 then some .x1 else if v = 1 then some .x2 else if v = 2 then some .x4 else none

/-- The channel mode that a code names (R127). -/
def channelModeOf (v : Byte) : Option ChannelMode :=
  if v = 0 then some .off else if v = 1 then some .perItem else if v = 2 then some .perPitch
  else if v = 3 then some .verdict else none

/-- The lane that a byte names (R127, R72). -/
def laneOf (v : Byte) : Option Lane := if h : v.toNat < 4 then some ⟨v.toNat, h⟩ else none

/-- The entry flag set in two bytes (Table 10-10). -/
def EntryFlags.bits (f : EntryFlags) : Half :=
  (if f.overlength then 0x0001 else 0) ||| (if f.lateVerdict then 0x0002 else 0) |||
  (if f.lateStart then 0x0004 else 0) ||| (if f.collision then 0x0008 else 0) |||
  (if f.deferred then 0x0010 else 0) ||| (if f.joined then 0x0020 else 0) |||
  (if f.cut then 0x0040 else 0) ||| (if f.missed then 0x0080 else 0) |||
  (if f.scheduleFull then 0x0100 else 0) ||| (if f.abandoned then 0x0200 else 0)

/-- The bit of a class in a class mask, or of a channel in a fired set (R176). -/
def inMask (mask : BitVec n) (k : Nat) : Bool := mask.getLsbD k

/-- The other bank. -/
def Bank.other : Bank → Bank
  | .a => .b
  | .b => .a

end Sys2Proof.Machine
end

