-- ==== Sys2Proof/Machine/Flags.lean ====
section
/-! DEFINITION. The interrupt flags, the report threshold and IRQN (sections 9.3 and 9.4), and the summary byte. -/

namespace Sys2Proof.Machine

/-- The position of a flag in the flag register, bit 8 the first of byte 1 (Table 10-9). -/
def Flag.position : Flag → Nat
  | .powerOn => 0
  | .reportLevel => 1
  | .lost => 2
  | .exception => 3
  | .fault => 4
  | .commitDone => 5
  | .commitDeferred => 6
  | .commitRejected => 7
  | .verdictErr => 8
  | .verdictFull => 9
  | .cmdRefused => 10
  | .accessErr => 11
  | .stoppedReached => 12

/-- One flag as a set of flags. -/
def Flag.bit (f : Flag) : BitVec 13 := 1#13 <<< f.position

/-- A sticky flag sets, and stays set where it was set already (R167). -/
def setFlag (f : Flag) (s : State) : State :=
  { s with interrupts := { s.interrupts with sticky := s.interrupts.sticky ||| f.bit } }

/-- The depth of the report queue (R165). -/
def depth (s : State) : Nat := s.queue.records.length

/-- REPORT_LEVEL is true while the depth is at least the threshold (R165). -/
def reportLevel (s : State) : Bool := decide (s.queue.threshold.toNat ≤ depth s)

/-- The thirteen flags as the flag register shows them: the sticky flags and the live REPORT_LEVEL (R167). -/
def flagBits (s : State) : BitVec 13 :=
  (s.interrupts.sticky &&& ~~~Flag.reportLevel.bit) ||| (if reportLevel s then Flag.reportLevel.bit else 0)

/-- A flag as the flag register shows it. -/
def flagSet (f : Flag) (s : State) : Bool := (flagBits s).getLsbD f.position

/-- IRQN is low while at least one flag is set whose enable is set (R168). -/
def irqActive (s : State) : Bool := flagBits s &&& s.interrupts.enables != 0

/-- A byte of the flag or enable register, its place among the thirteen flags. -/
def halfShift : RegisterHalf → Nat
  | .byte0 => 0
  | .byte1 => 8

/-- The thirteen positions that a byte of the flag or enable register covers, with that byte in place (Table 10-9). -/
def halfBits (half : RegisterHalf) (v : Byte) : BitVec 13 := (v.setWidth 13) <<< halfShift half

/-- The byte of thirteen positions that a half shows; positions that carry nothing read 0 (R173). -/
def halfByte (half : RegisterHalf) (bits : BitVec 13) : Byte := (bits >>> halfShift half).setWidth 8

/-- A write to the flag register clears every sticky flag whose position is written 1 (R167). -/
def writeFlags (half : RegisterHalf) (v : Byte) (s : State) : State :=
  { s with interrupts := { s.interrupts with sticky := s.interrupts.sticky &&& ~~~halfBits half v } }

/-- A write to the enable register: each position of the byte takes the written value (R168). -/
def writeEnables (half : RegisterHalf) (v : Byte) (s : State) : State :=
  { s with interrupts := { s.interrupts with
      enables := (s.interrupts.enables &&& ~~~halfBits half 0xFF) ||| halfBits half v } }

/-- The summary byte (Table 10-6), fixed when CSN falls. -/
def summaryByte (s : State) : Byte :=
  s.engine.state.code ||| bitAt 2 (irqActive s) ||| bitAt 3 (!s.queue.records.isEmpty) |||
  bitAt 4 (decide (s.verdicts.fifo.length = 16)) ||| bitAt 5 s.epochUnit.pending ||| bitAt 6 s.epochUnit.hold |||
  bitAt 7 (flagSet .powerOn s)

end Sys2Proof.Machine
end

