-- ==== Sys2Proof/Machine/Ops.lean ====
section
/-! DEFINITION. The operations that several blocks share: the profile banks, the slots of the table, the report queue with
its admission, exceptions, and the record of a command's result. -/

namespace Sys2Proof.Machine

/-! ### Engine and motion -/

/-- H advances, edges are taken and actions fall due only in RUNNING and DRAINING (Table 8-5). -/
def tracking (s : State) : Bool := s.engine.state = .running || s.engine.state = .draining

/-- The tick reaches the time named; it does not run back (R13, assumption 7). -/
def elapseTo (t : Nat) (s : State) : State := { s with motion := { s.motion with tick := max s.motion.tick t } }

/-! ### Profile banks (R84) -/

/-- The profile set in a bank. -/
def bankOf (bank : Bank) (s : State) : ProfileSet :=
  match bank with
  | .a => s.epochUnit.bankA
  | .b => s.epochUnit.bankB

/-- The profile set that new items are bound to. -/
def currentBank (s : State) : ProfileSet := bankOf s.epochUnit.current s

/-- The lane profile of an entry, from the entry's bank (R85). -/
def laneProfileOf (e : Entry) (s : State) : LaneProfile := (bankOf e.bank s).lanes[e.lane]

/-- The decision position D of an entry (section 3.1). -/
def decisionPosition (e : Entry) (s : State) : Word := e.leading + (laneProfileOf e s).decisionOffset

/-- The exit position X of an entry (section 3.1). -/
def exitPosition (e : Entry) (s : State) : Word := e.leading + (laneProfileOf e s).exitOffset

/-! ### Slots -/

/-- The entry in a slot. -/
def entryAt (slot : Slot) (s : State) : Option Entry := findEntry slot s.table.entries

/-- An entry takes a new value. -/
def setEntry (slot : Slot) (e : Entry) (s : State) : State :=
  { s with table := { s.table with entries := putEntry slot e s.table.entries } }

/-- An entry changes in place; a FREE slot stays FREE. -/
def modifyEntry (slot : Slot) (f : Entry → Entry) (s : State) : State :=
  match entryAt slot s with
  | none => s
  | some e => setEntry slot (f e) s

/-- An entry gains flags (R42). -/
def addFlags (slot : Slot) (f : EntryFlags → EntryFlags) (s : State) : State :=
  modifyEntry slot (fun e => { e with flags := f e.flags }) s

/-- A channel joins an entry's fired set (R43). -/
def addFired (slot : Slot) (n : Channel) (s : State) : State :=
  modifyEntry slot (fun e => { e with fired := e.fired ||| (1#16 <<< n.val) }) s

/-- What happens to the entry of a linked action; an unlinked action tells no entry (R116, R119). -/
def onItem (item : Option Slot) (f : Slot → State → State) (s : State) : State :=
  match item with
  | none => s
  | some slot => f slot s

/-- An entry is live in every non-FREE state but DONE (Table 3-3). -/
def isLive (e : Entry) : Bool := e.state ≠ .done

/-- The number of live entries (R49). -/
def liveEntries (s : State) : Nat := s.table.entries.countP fun x => isLive x.2

/-- The live count of a bank (R86). -/
def liveCount (bank : Bank) (s : State) : Nat :=
  s.table.entries.countP fun x => isLive x.2 && x.2.bank = bank

/-- The pending count of an entry: the number of actions linked to it (R44). -/
def pendingCount (slot : Slot) (s : State) : Nat := s.schedule.countP fun a => a.item = some slot

/-- The slot of the lane's OPENING entry, with the entry (R48: there is at most one). -/
def openingEntry (l : Lane) (s : State) : Option (Slot × Entry) :=
  s.table.entries.find? fun x => x.2.lane = l && x.2.state = .opening

/-- The non-FREE entry with a lane and tag (R40). -/
def taggedEntry (l : Lane) (tag : Half) (s : State) : Option (Slot × Entry) :=
  s.table.entries.find? fun x => x.2.lane = l && x.2.tag = some tag

/-- An entry leaves its lane list (R48). -/
def leaveLaneList (l : Lane) (slot : Slot) (s : State) : State :=
  { s with table := { s.table with laneList := updateAt s.table.laneList l (·.filter (· ≠ slot)) } }

/-- The counters of a lane change (R59). -/
def modifyCounters (l : Lane) (f : LaneCounters → LaneCounters) (s : State) : State :=
  { s with table := { s.table with counters := updateAt s.table.counters l f } }

/-! ### Report queue (sections 9.2, 9.3) -/

/-- The least number of free places with which a kind of record is admitted (R159). -/
def placesNeeded : Report → Nat
  | .outcome .. => 1
  | .fault .. => 1
  | .detect .. => 9
  | .exception .. => 9
  | .commit .. => 9

/-- A record offered to the queue is admitted or lost (R159, R160). -/
def offer (r : Report) (s : State) : State :=
  if placesNeeded r ≤ 64 - depth s then
    { s with queue := { s.queue with records := s.queue.records ++ [r] } }
  else
    setFlag .lost { s with queue := { s.queue with lost := satSucc s.queue.lost } }

/-- A producer raises an exception at the present H: the EXCEPTION flag sets and the record is offered (R158, R160). -/
def raise (code : ExceptionCode) (l : Option Lane) (tag : Option Half) (s : State) : State :=
  offer (.exception code l tag s.motion.h) (setFlag .exception s)

/-- The OUTCOME record of an entry as it stands (R57). -/
def outcomeRecord (e : Entry) : Report :=
  .outcome e.lane (e.tag.getD 0) e.epoch e.leading e.verdict e.fired e.flags

/-- An entry's OUTCOME is offered, its lane's outcomes count rises and its slot becomes FREE (R56). -/
def postEntry (slot : Slot) (e : Entry) (s : State) : State :=
  let s := offer (outcomeRecord e) s
  let s := modifyCounters e.lane (fun c => { c with outcomes := c.outcomes + 1 }) s
  { s with table := { s.table with entries := dropEntry slot s.table.entries } }

/-- The head of the DONE list posts its OUTCOME record, if the queue has a free place (R56). -/
def postOutcome (s : State) : State :=
  match s.table.doneList with
  | [] => s
  | slot :: rest =>
    if depth s < 64 then
      let t := { s with table := { s.table with doneList := rest } }
      match entryAt slot s with
      | none => t
      | some e => postEntry slot e t
    else s

/-- The heads of the DONE list post in turn while a free place remains (R56). -/
def postOutcomes : Nat → State → State
  | 0, s => s
  | n + 1, s => postOutcomes n (postOutcome s)

/-- The DONE list is served for as long as it can post; the records are not interleaved with another producer's (R56, R162). -/
def serveDone (s : State) : State := postOutcomes s.table.doneList.length s

/-- The posting that follows an exit or a FLUSH. While a verdict record waits in the FIFO its take may come before or after the
posting (R77, R78), and the posting is left to OUTCOME_POST, so that the order of the two commands is the order taken
(assumption 13). -/
def settlePosts (s : State) : State := if s.verdicts.fifo.isEmpty then serveDone s else s

/-! ### Command status and refused accesses -/

/-- The engine records a command's code and result; every result other than ACCEPTED sets CMD_REFUSED (R146). -/
def finishCommand (code : Byte) (r : CommandResult) (s : State) : State :=
  let s := { s with engine := { s.engine with lastCommand := code, lastResult := r } }
  if r = .accepted then s else setFlag .cmdRefused s

/-- A write is refused or ignored: ACCESS_ERR sets and the address is the last refused address (R172, R173). -/
def refuseAccess (a : Addr) (s : State) : State :=
  setFlag .accessErr { s with window := { s.window with lastRefused := a } }

/-- The engine enters a state. -/
def setEngineState (e : EngineState) (s : State) : State := { s with engine := { s.engine with state := e } }

end Sys2Proof.Machine
end

