-- ==== Sys2Proof/Machine/Schedule.lean ====
section
/-! DEFINITION. The action schedule: its order, the three placements, and the removals that follow an entry (chapter 6). -/

namespace Sys2Proof.Machine

/-- An action is ACTIVE. -/
def Action.isActive (a : Action) : Bool :=
  match a.state with
  | .active _ => true
  | .pending _ => false

/-- An action is PENDING with its deferred mark set. -/
def Action.isDeferred (a : Action) : Bool := a.state = .pending true

/-- An action joins the schedule behind every PENDING action whose start is no further ahead of H, and behind the ACTIVE
actions among them, whose starts have been reached. An ACTIVE action never sets the place of another: joins can keep it ACTIVE
until its start lies 2^31 counts behind H and its distance reads as one ahead (R109, assumption 24). -/
def insertAction (h : Word) (a : Action) (l : List Action) : List Action :=
  insertSorted (fun x y => !y.isActive && decide (distance h x.start < distance h y.start)) a l

/-- The schedule holds 128 actions (R107). -/
def scheduleFull (s : State) : Bool := decide (128 ≤ s.schedule.length)

/-- The record of an action at its placement: fields copied from the profile and the width unit from the channel
configuration (R108). -/
def newAction (n : Channel) (item : Option Slot) (start : Word) (prof : ChannelProfile) (s : State) : Action :=
  { channel := n, item := item, start := start, width := prof.width, unit := s.channels[n].config.unit,
    policy := prof.policy, recovery := prof.recovery, state := .pending false }

/-- An action joins the schedule (R107). -/
def place (a : Action) (s : State) : State := { s with schedule := insertAction s.motion.h a s.schedule }

/-! ### PER_ITEM placement (R111) -/

/-- The PER_ITEM action of one channel for an entry. Capacity is checked first (R110, assumption 8). -/
def placeItemAction (slot : Slot) (e : Entry) (n : Channel) (s : State) : State :=
  let prof := (bankOf e.bank s).channels[n]
  let start := e.leading + prof.offset
  if scheduleFull s then addFlags slot ({ · with scheduleFull := true }) s
  else if !reached s.motion.h start then place (newAction n (some slot) start prof s) s
  else if reached (s.motion.h + 1) (exitPosition e s) then addFlags slot ({ · with missed := true }) s
  else addFlags slot ({ · with lateStart := true }) (place (newAction n (some slot) (s.motion.h + 1) prof s) s)

/-- The PER_ITEM channels of a lane. -/
def servesItem (l : Lane) (s : State) (n : Channel) : Bool :=
  s.channels[n].config.mode = .perItem && s.channels[n].config.lane = l

/-- The PER_ITEM placement at an opening, in ascending channel number (R110, R111). -/
def placeItemActions (slot : Slot) (e : Entry) (s : State) : State :=
  (allChannels.filter (servesItem e.lane s)).foldl (fun s n => placeItemAction slot e n s) s

/-! ### VERDICT placement (R112, R113) -/

/-- The lead counts: lead times speed estimate divided by 1024, rounded down (R112). -/
def leadCounts (lead speed : Half) : Nat := lead.toNat * speed.toNat / 1024

/-- The start of a VERDICT action and whether it was moved forward (R113). -/
def verdictStart (h d wanted : Word) : Word × Bool :=
  let moved := !isAhead wanted d
  let start := if moved then d + 1 else wanted
  if reached h start then (h + 1, true) else (start, moved)

/-- The VERDICT action of one channel for an entry (R113, R115). -/
def placeVerdictAction (slot : Slot) (e : Entry) (n : Channel) (s : State) : State :=
  let prof := (bankOf e.bank s).channels[n]
  let wanted := e.leading + prof.offset - BitVec.ofNat 32 (leadCounts prof.lead s.motion.speed)
  let placed := verdictStart s.motion.h (decisionPosition e s) wanted
  if scheduleFull s then addFlags slot ({ · with scheduleFull := true }) s
  else
    let s' := place (newAction n (some slot) placed.1 prof s) s
    if placed.2 then addFlags slot ({ · with lateStart := true }) s' else s'

/-- The channel serves a class for an entry (R80). -/
def servesClass (e : Entry) (c : Class) (s : State) (n : Channel) : Bool :=
  s.channels[n].config.mode = .verdict && s.channels[n].config.lane = e.lane &&
    inMask ((bankOf e.bank s).channels[n]).classMask c.toNat

/-- The VERDICT placement at a decision, in ascending channel number (R113). -/
def placeVerdictActions (slot : Slot) (e : Entry) (c : Class) (s : State) : State :=
  (allChannels.filter (servesClass e c s)).foldl (fun s n => placeVerdictAction slot e n s) s

/-! ### PER_PITCH placement (R114) -/

/-- The PER_PITCH action of one channel at a mark (R114, R115). -/
def placePitchAction (mark : Word) (n : Channel) (s : State) : State :=
  let prof := (currentBank s).channels[n]
  let start := mark + prof.offset
  if scheduleFull s then raise .pitchScheduleFull none none s
  else place (newAction n none (if reached s.motion.h start then s.motion.h + 1 else start) prof s) s

/-- The PER_PITCH placement at a mark, in ascending channel number (R114). -/
def placePitchActions (mark : Word) (s : State) : State :=
  (allChannels.filter fun n => s.channels[n].config.mode = .perPitch).foldl (fun s n => placePitchAction mark n s) s

/-! ### Removal and unlinking with an entry (R120, R121) -/

/-- The PENDING actions of an entry are removed and its ACTIVE actions are unlinked. -/
def detachItem (slot : Slot) (l : List Action) : List Action :=
  (l.filter fun a => !(a.item = some slot && !a.isActive)).map fun a =>
    if a.item = some slot then { a with item := none } else a

/-- An entry has a PENDING action in the schedule. -/
def hasPending (slot : Slot) (l : List Action) : Bool := l.any fun a => a.item = some slot && !a.isActive

end Sys2Proof.Machine
end

