-- ==== Sys2Proof/Machine/Channels.lean ====
section
/-! DEFINITION. The output channels: settling a newcomer, pulse ends, recovery, and what a freeze and a FLUSH do to pulses
(chapter 7). -/

namespace Sys2Proof.Machine

/-- A channel's state changes. -/
def setChannelState (n : Channel) (c : ChannelState) (s : State) : State :=
  { s with channels := updateAt s.channels n fun ch => { ch with state := c } }

/-- The state a channel takes when a pulse with a copied recovery has ended: RECOVERY, or IDLE for a recovery of 0 (R129). -/
def afterPulse (tick : Nat) (recovery : Half) : ChannelState :=
  if recovery = 0 then .idle else .recovery (tick + recovery.toNat)

/-- The action is the ACTIVE action of a channel. -/
def activeOn (n : Channel) (a : Action) : Bool := a.channel = n && a.isActive

/-- The ACTIVE action of a channel. -/
def activeAction (n : Channel) (s : State) : Option Action := s.schedule.find? (activeOn n)

/-- The action is a due action of a channel: PENDING, not deferred, its start the present H (R117). -/
def dueOn (n : Channel) (h : Word) (a : Action) : Bool := a.channel = n && a.state = .pending false && a.start = h

/-- The action is a deferred action of a channel. -/
def deferredOn (n : Channel) (a : Action) : Bool := a.channel = n && a.isDeferred

/-- The end of a pulse of an action that begins now (R131). -/
def pulseEndNow (a : Action) (s : State) : PulseEnd :=
  match a.unit with
  | .counts => .position (s.motion.h + a.width.setWidth 32)
  | .microseconds => .time (s.motion.tick + a.width.toNat)

/-- The later of two ends of one channel (R132). -/
def laterEnd (h : Word) : PulseEnd → PulseEnd → PulseEnd
  | .position a, .position b => if (a - h).toNat < (b - h).toNat then .position b else .position a
  | .time a, .time b => .time (max a b)
  | e, _ => e

/-- The end of an ACTIVE action is extended. -/
def extendEnd (h : Word) (e : PulseEnd) (a : Action) : Action :=
  match a.state with
  | .active f => { a with state := .active (laterEnd h f e) }
  | .pending _ => a

/-! ### Settling a newcomer: the first action of the schedule that satisfies `q` (Table 7-4) -/

/-- A newcomer handed to an IDLE channel fires (R131). -/
def fire (q : Action → Bool) (a : Action) (s : State) : State :=
  onItem a.item (fun slot => addFired slot a.channel)
    (setChannelState a.channel .active
      { s with schedule := modifyFirst q (fun x => { x with state := .active (pulseEndNow a s) }) s.schedule })

/-- A JOIN newcomer is joined into the pulse under way (R132). -/
def joinPulse (q : Action → Bool) (a : Action) (s : State) : State :=
  onItem a.item (fun slot s => addFired slot a.channel (addFlags slot ({ · with joined := true }) s))
    { s with schedule :=
        modifyFirst (activeOn a.channel) (extendEnd s.motion.h (pulseEndNow a s)) (s.schedule.eraseP q) }

/-- A REFUSE newcomer handed to a busy channel is refused (R133). -/
def refuseNewcomer (q : Action → Bool) (a : Action) (s : State) : State :=
  let t := { s with schedule := s.schedule.eraseP q }
  match a.item with
  | none => raise .pitchCollision none none t
  | some slot => addFlags slot ({ · with collision := true }) t

/-- A JOIN newcomer handed to a channel in RECOVERY is deferred (R134). -/
def deferNewcomer (q : Action → Bool) (a : Action) (s : State) : State :=
  onItem a.item (fun slot => addFlags slot ({ · with deferred := true }))
    { s with schedule := modifyFirst q (fun x => { x with state := .pending true }) s.schedule }

/-- The first action that satisfies `q` is handed to its channel and settled under Table 7-4. -/
def settleFirst (q : Action → Bool) (s : State) : State :=
  match s.schedule.find? q with
  | none => s
  | some a =>
    match s.channels[a.channel].state, a.policy with
    | .idle, _ => fire q a s
    | .active, .join => joinPulse q a s
    | .active, .refuse => refuseNewcomer q a s
    | .recovery _, .join => deferNewcomer q a s
    | .recovery _, .refuse => refuseNewcomer q a s

/-- The actions that satisfy `q` are handed one after another, in schedule order (R117, R137). -/
def settleAll (q : Action → Bool) : Nat → State → State
  | 0, s => s
  | fuel + 1, s => settleAll q fuel (settleFirst q s)

/-- A channel takes the actions due at the present H. -/
def takeDue (n : Channel) (s : State) : State := settleAll (dueOn n s.motion.h) s.schedule.length s

/-- A channel takes back its deferred actions (R137, R140). -/
def takeDeferred (n : Channel) (s : State) : State := settleAll (deferredOn n) s.schedule.length s

/-! ### Pulse ends -/

/-- The pulse of a channel ends: the ACTIVE action is removed and the channel goes to RECOVERY or IDLE (R135, R136). -/
def endPulse (n : Channel) (s : State) : State :=
  match activeAction n s with
  | none => s
  | some a =>
    setChannelState n (afterPulse s.motion.tick a.recovery) { s with schedule := s.schedule.eraseP (activeOn n) }

/-- The COUNTS pulse of a channel ends at the present H (R135). -/
def countsEndDue (n : Channel) (s : State) : Bool :=
  match activeAction n s with
  | some a => a.state = .active (.position s.motion.h)
  | none => false

/-- A channel's work at an advance: the COUNTS pulse end, then the due actions (R135). -/
def channelAdvance (n : Channel) (s : State) : State := takeDue n (if countsEndDue n s then endPulse n s else s)

/-- The first event of a channel's work at an advance: the COUNTS pulse end, or else the first due action (R117, R135). -/
def channelEvent (n : Channel) (s : State) : State :=
  if countsEndDue n s then endPulse n s else settleFirst (dueOn n s.motion.h) s

/-- The pulse of one ACTIVE action stops with its channel in RECOVERY or IDLE, at a freeze or a FLUSH (R139, R141). -/
def stopPulse (a : Action) (s : State) : State :=
  setChannelState a.channel (afterPulse s.motion.tick a.recovery) s

/-- The entry of the engine into FROZEN: every ACTIVE action is removed, giving linked entries CUT (R122, R139). -/
def cutPulses (s : State) : State :=
  let cut := (s.schedule.filter Action.isActive).foldl
    (fun s a => onItem a.item (fun slot => addFlags slot ({ · with cut := true })) (stopPulse a s)) s
  { cut with schedule := s.schedule.filter fun a => !a.isActive }

/-- FLUSH: every action is removed and every pulse ends (R123, R141). -/
def flushSchedule (s : State) : State :=
  { (s.schedule.filter Action.isActive).foldl (fun s a => stopPulse a s) s with schedule := [] }

/-- Engine reset: every channel goes to IDLE and the schedule is empty (R126, R142). -/
def resetChannels (s : State) : State :=
  { s with schedule := [], channels := mapAll s.channels fun ch => { ch with state := .idle } }

/-- The level on line OUTn: the active level exactly while the channel is ACTIVE (R128). -/
def outLine (n : Channel) (s : State) : Bool :=
  let ch := s.channels[n]
  if ch.state = .active then ch.config.activeHigh else !ch.config.activeHigh

end Sys2Proof.Machine
end

