-- ==== Sys2Proof/Machine/EpochOps.lean ====
section
/-! DEFINITION. The epoch unit: validation, commits and rejections, the commit attempt at a mark (chapter 5). -/

namespace Sys2Proof.Machine

/-! ### Validation (R91, Table 5-6) -/

/-- The lanes that the lane enable mask names (R21). -/
def laneEnabled (l : Lane) (s : State) : Bool := inMask s.detectors.enabled l.val

/-- The channel is in PER_ITEM or VERDICT mode and so names a lane. -/
def namesLane (c : ChannelConfig) : Bool := c.mode = .perItem || c.mode = .verdict

/-- V1. -/
def checkPitch (p : ProfileSet) : Bool := decide (16 ≤ p.pitch.toNat ∧ p.pitch.toNat ≤ 1048575)

/-- V2. -/
def checkLengths (p : LaneProfile) : Bool := decide (1 ≤ p.minLength.toNat ∧ p.minLength.toNat ≤ p.maxLength.toNat)

/-- V3. -/
def checkDecision (p : LaneProfile) : Bool := decide (p.maxLength.toNat < p.decisionOffset.toNat)

/-- V4. -/
def checkExit (p : LaneProfile) : Bool :=
  decide (p.decisionOffset.toNat + 2 ≤ p.exitOffset.toNat ∧ p.exitOffset.toNat ≤ 1048575)

/-- V5. -/
def checkBeforeExit (c : ChannelConfig) (p : ChannelProfile) (l : LaneProfile) : Bool :=
  match c.unit with
  | .counts => decide (p.offset.toNat + p.width.toNat < l.exitOffset.toNat)
  | .microseconds => decide (p.offset.toNat < l.exitOffset.toNat)

/-- V6. -/
def checkAfterDecision (p : ChannelProfile) (l : LaneProfile) : Bool := decide (l.decisionOffset.toNat < p.offset.toNat)

/-- V7. -/
def checkWithinPitch (p : ChannelProfile) (set : ProfileSet) : Bool := decide (p.offset.toNat < set.pitch.toNat)

/-- V8. -/
def checkWidth (p : ChannelProfile) : Bool := decide (1 ≤ p.width.toNat)

/-- The lanes at which one lane check fails, in ascending number. -/
def failingLanes (number : Nat) (ok : Lane → Bool) (s : State) : List CheckCode :=
  (allLanes.filter fun l => laneEnabled l s && !ok l).map fun l => { number := number, index := l.val }

/-- The channels at which one channel check fails, in ascending number. -/
def failingChannels (number : Nat) (applies : ChannelConfig → Bool) (ok : Channel → Bool) (s : State) : List CheckCode :=
  (allChannels.filter fun n => applies s.channels[n].config && !ok n).map fun n => { number := number, index := n.val }

/-- Every condition of Table 5-6 that does not hold of a profile set, in the order V1 to V9 (R91). -/
def validationFailures (p : ProfileSet) (s : State) : List CheckCode :=
  (if checkPitch p then [] else [{ number := 1, index := 0 }]) ++
  failingLanes 2 (fun l => checkLengths p.lanes[l]) s ++
  failingLanes 3 (fun l => checkDecision p.lanes[l]) s ++
  failingLanes 4 (fun l => checkExit p.lanes[l]) s ++
  failingChannels 5 namesLane
    (fun n => checkBeforeExit s.channels[n].config p.channels[n] p.lanes[s.channels[n].config.lane]) s ++
  failingChannels 6 (fun c => c.mode = .verdict)
    (fun n => checkAfterDecision p.channels[n] p.lanes[s.channels[n].config.lane]) s ++
  failingChannels 7 (fun c => c.mode = .perPitch) (fun n => checkWithinPitch p.channels[n] p) s ++
  failingChannels 8 (fun c => c.mode ≠ .off) (fun n => checkWidth p.channels[n]) s ++
  failingChannels 9 namesLane (fun n => laneEnabled s.channels[n].config.lane s) s

/-- Validation stops at the first condition that does not hold (R91); none where the set passes. -/
def validate (p : ProfileSet) (s : State) : Option CheckCode := (validationFailures p s).head?

/-! ### Commits (R96, R104) and rejections (R95) -/

/-- The banks and the commit status after a commit (R84, R96). -/
def EpochUnit.commit (e : EpochUnit) : EpochUnit :=
  let loaded :=
    match e.current with
    | .a => { e with bankB := e.shadow }
    | .b => { e with bankA := e.shadow }
  { loaded with
      current := e.current.other, epoch := e.epoch + 1, pending := false, rejected := false, deferral := false,
      lastResult := .committed, check := { number := 0, index := 0 } }

/-- The epoch unit commits: COMMIT_DONE sets and a COMMIT record carries the new E and the present H (R96, R104). -/
def commit (s : State) : State :=
  let s := { s with epochUnit := s.epochUnit.commit }
  offer (.commit s.epochUnit.epoch s.motion.h) (setFlag .commitDone s)

/-- The shadow set is rejected with a check code (R95). -/
def rejectShadow (code : CheckCode) (s : State) : State :=
  setFlag .commitRejected
    { s with epochUnit :=
        { s.epochUnit with rejected := true, deferral := false, lastResult := .rejected, check := code } }

/-- A commit attempt is deferred; COMMIT_DEFERRED sets if the deferral marker was clear (R93, R94, R97). -/
def deferCommit (r : CommitResult) (s : State) : State :=
  let t := { s with epochUnit := { s.epochUnit with deferral := true, lastResult := r } }
  if s.epochUnit.deferral then t else setFlag .commitDeferred t

/-- An attempt is made at a mark when pending is set, the stage hold is clear and the rejected mark is clear (R92). -/
def attemptDue (s : State) : Bool := s.epochUnit.pending && !s.epochUnit.hold && !s.epochUnit.rejected

/-- The commit attempt of a mark (Table 5-7). -/
def commitAttempt (s : State) : State :=
  if !attemptDue s then s
  else if s.window.frameOpen then deferCommit .deferredFrame s
  else if 0 < liveCount s.epochUnit.current.other s then deferCommit .deferredReferenced s
  else
    match validate s.epochUnit.shadow s with
    | some code => rejectShadow code s
    | none => commit s

/-- The lanes whose active level is not the same in two states' current banks (R20). -/
def lanesWithNewLevel (s t : State) : List Lane :=
  allLanes.filter fun l => (currentBank s).lanes[l].activeHigh ≠ (currentBank t).lanes[l].activeHigh

/-- The pitch mark, at the advance at which H reaches M: the commit attempt, then the next M (R17, R18). -/
def pitchMark (s : State) : State :=
  let t := commitAttempt s
  { t with motion := { t.motion with m := s.motion.m + (currentBank t).pitch } }

end Sys2Proof.Machine
end

