-- ==== Sys2Proof/Machine/TableOps.lean ====
section
/-! DEFINITION. The tracking table: opening, confirmation, discard, decision, exit, and FLUSH (chapter 3). -/

namespace Sys2Proof.Machine

/-! ### Opening (R39), confirmation (R45) and discard (R46) -/

/-- The entry that an opening makes (R39). -/
def openedEntry (l : Lane) (leading : Word) (s : State) : Entry :=
  { state := .opening, lane := l, tag := none, epoch := s.epochUnit.epoch, bank := s.epochUnit.current, leading := leading,
    length := none, verdict := none, flags := {}, fired := 0 }

/-- An entry opens in a slot, joins the end of its lane list, and its PER_ITEM actions are placed (R39). -/
def openEntry (slot : Slot) (l : Lane) (leading : Word) (s : State) : State :=
  let e := openedEntry l leading s
  let s := setEntry slot e s
  let s := { s with table := { s.table with laneList := updateAt s.table.laneList l (· ++ [slot]) } }
  placeItemActions slot e s

/-- No non-FREE entry of the lane carries the tag (R31). -/
def tagFree (l : Lane) (tag : Half) (s : State) : Bool := (taggedEntry l tag s).isNone

/-- The first value from `tag` upward, wrapping, that no non-FREE entry of the lane carries (R31). -/
def nextFreeTag (l : Lane) (s : State) : Nat → Half → Half
  | 0, tag => tag
  | fuel + 1, tag => if tagFree l tag s then tag else nextFreeTag l s fuel (tag + 1)

/-- A lane's next tag changes. -/
def setNextTag (l : Lane) (tag : Half) (s : State) : State :=
  { s with detectors := { s.detectors with lane := updateAt s.detectors.lane l fun d => { d with nextTag := tag } } }

/-- The entry after its confirmation, by trailing edge or by overlength (R45). -/
def confirmedEntry (e : Entry) (tag length : Half) (overlength : Option Class) : Entry :=
  match overlength with
  | none => { e with state := .tracked, tag := some tag, length := some length }
  | some c =>
    { e with state := .held, tag := some tag, length := some length, verdict := some { cls := c, source := .forced },
             flags := { e.flags with overlength := true } }

/-- An entry is confirmed with a length: tag, state, confirmed count and DETECT record (R31, R45). -/
def confirm (slot : Slot) (e : Entry) (length : Half) (overlength : Option Class) (s : State) : State :=
  let tag := nextFreeTag e.lane s 257 s.detectors.lane[e.lane].nextTag
  let s := setNextTag e.lane (tag + 1) s
  let s := setEntry slot (confirmedEntry e tag length overlength) s
  let s := modifyCounters e.lane (fun c => { c with confirmed := c.confirmed + 1 }) s
  offer (.detect e.lane tag e.epoch e.leading length overlength.isSome) s

/-- The OPENING entry of a short item is discarded (R46, R121). -/
def discardEntry (slot : Slot) (e : Entry) (s : State) : State :=
  let s := { s with schedule := detachItem slot s.schedule }
  let s := leaveLaneList e.lane slot s
  { s with table := { s.table with entries := dropEntry slot s.table.entries } }

/-! ### Decisions (R50, R51) -/

/-- The entry takes its decision at the present H. -/
def decisionDue (e : Entry) (s : State) : Bool :=
  (e.state = .tracked || e.state = .held) && reached s.motion.h (decisionPosition e s)

/-- The verdict that a decision settles: the entry's own, or the lane default (R50). -/
def settledVerdict (e : Entry) (s : State) : Verdict :=
  e.verdict.getD { cls := (laneProfileOf e s).defaultClass, source := .laneDefault }

/-- The decision of the entry in a slot, if it is due (R50). -/
def takeDecision (slot : Slot) (s : State) : State :=
  match entryAt slot s with
  | none => s
  | some e =>
    if decisionDue e s then
      let v := settledVerdict e s
      let e' := { e with state := .scheduled, verdict := some v }
      placeVerdictActions slot e' v.cls (setEntry slot e' s)
    else s

/-- The slots of the live entries in ascending lane order and in list order, the order of decisions (R51). -/
def decisionOrder (s : State) : List Slot := allLanes.flatMap fun l => s.table.laneList[l]

/-- The entry in a slot has its decision due. -/
def decisionWaits (s : State) (slot : Slot) : Bool :=
  match entryAt slot s with
  | none => false
  | some e => decisionDue e s

/-- The entries that have their decisions due, in the order of R51. -/
def dueDecisions (s : State) : List Slot := (decisionOrder s).filter (decisionWaits s)

/-- The decisions of the entries in these slots, each an event of its own (R110), one after another. -/
def takeDecisions (slots : List Slot) (s : State) : State := slots.foldl (fun s slot => takeDecision slot s) s

/-! ### Exits and retirement (R52, R53, R58) -/

/-- Belt order: the entry further behind H comes first, then the lower lane (R53). -/
def beltOrder (h : Word) (x y : Slot × Entry) : Bool :=
  decide ((h - y.2.leading).toNat < (h - x.2.leading).toNat) ||
    (h - x.2.leading == h - y.2.leading && decide (x.2.lane ≤ y.2.lane))

/-- An entry leaves the live states: it goes to DONE, leaves its lane list and joins the end of the DONE list. -/
def retire (slot : Slot) (e : Entry) (s : State) : State :=
  let s := setEntry slot { e with state := .done } s
  let s := leaveLaneList e.lane slot s
  { s with table := { s.table with doneList := s.table.doneList ++ [slot] } }

/-- The exit of an entry (R52, R120). -/
def takeExit (slot : Slot) (e : Entry) (s : State) : State :=
  let e' := if hasPending slot s.schedule then { e with flags := { e.flags with missed := true } } else e
  retire slot e' { s with schedule := detachItem slot s.schedule }

/-- The entry takes its exit at the present H. -/
def exitDue (e : Entry) (s : State) : Bool := e.state = .scheduled && reached s.motion.h (exitPosition e s)

/-- The entries whose exit is due, in belt order (R53). -/
def leavingEntries (s : State) : List (Slot × Entry) :=
  sortBy (beltOrder s.motion.h) (s.table.entries.filter fun x => exitDue x.2 s)

/-- The exits of an advance in belt order, and the posting of their OUTCOME records (R53, R56). -/
def takeExits (s : State) : State := settlePosts ((leavingEntries s).foldl (fun s x => takeExit x.1 x.2 s) s)

/-- The first exit that is due, in belt order. Its OUTCOME record is posted with those of the other exits of the advance, so
that no other producer's record comes between them (R162). -/
def takeNextExit (s : State) : State :=
  match leavingEntries s with
  | [] => s
  | x :: _ => takeExit x.1 x.2 s

/-- What FLUSH makes of a live entry: DONE with ABANDONED, its verdict kept as it is (R58). -/
def flushedEntry (e : Entry) : Entry :=
  if isLive e then { e with state := .done, flags := { e.flags with abandoned := true } } else e

/-- FLUSH at the table: OPENING entries are freed, and confirmed live entries retire with ABANDONED in belt order and post
their OUTCOME records (R58, R78). -/
def flushTable (s : State) : State :=
  let kept := s.table.entries.filter fun x => x.2.state ≠ .opening
  let leaving := sortBy (beltOrder s.motion.h) (kept.filter fun x => isLive x.2)
  settlePosts { s with table := { s.table with
    entries := kept.map fun x => (x.1, flushedEntry x.2),
    laneList := Vector.replicate 4 [],
    doneList := s.table.doneList ++ leaving.map (·.1) } }

/-! ### Inspection (R60, R61) -/

/-- A write of the inspection slot select copies the slot's entry (R60). -/
def inspect (slot : Slot) (s : State) : State :=
  { s with table := { s.table with
      inspection := { slot := slot, entry := entryAt slot s, pendingCount := pendingCount slot s } } }

end Sys2Proof.Machine
end

