-- ==== Sys2Proof/Machine/DetectorOps.lean ====
section
/-! DEFINITION. The lane detectors: the active input, debounce, leading and trailing edges, gaps, overlength, and what the
engine's events do to them (chapter 2). -/

namespace Sys2Proof.Machine

/-- The detector of a lane changes. -/
def modifyDetector (l : Lane) (f : Detector → Detector) (s : State) : State :=
  { s with detectors := { s.detectors with lane := updateAt s.detectors.lane l f } }

/-- The detector of a lane. -/
def detectorOf (l : Lane) (s : State) : Detector := s.detectors.lane[l]

/-- The active input: the DET line is at the active level of the current bank (R20). -/
def activeInput (l : Lane) (s : State) : Bool := s.det[l] == (currentBank s).lanes[l].activeHigh

/-- The taken level is ACTIVE in COVERED and BLOCKED and INACTIVE in CLEAR and GAP (R20). -/
def takenLevel (d : DetectorState) : Bool :=
  match d with
  | .covered | .blocked => true
  | .clear | .gap => false

/-- The detector goes to a state. -/
def goTo (l : Lane) (d : DetectorState) (s : State) : State := modifyDetector l ({ · with state := d }) s

/-! ### Edges (sections 2.3 and 2.4) -/

/-- The gap end of a gap reference (R33). -/
def gapEnd (g : GapReference) : Word := g.trailing + g.minGap.setWidth 32

/-- A trailing edge opens a gap: the gap reference is set, and the lane goes to CLEAR where the gap end has already been
reached and to GAP otherwise (R29, R30, R32). -/
def openGap (l : Lane) (trailing : Word) (s : State) : State :=
  let g : GapReference := { trailing := trailing, minGap := (currentBank s).lanes[l].minGap }
  let d := if reached s.motion.h (gapEnd g) then DetectorState.clear else .gap
  modifyDetector l (fun x => { x with state := d, gap := some g }) s

/-- A leading edge is taken (R25 to R28). -/
def takeLeading (l : Lane) (e : PendingEdge) (s : State) : State :=
  if e.inGap then
    modifyDetector l (fun d => { d with state := .blocked, gap := none }) (raise .gapShort (some l) none s)
  else if s.engine.state = .draining then goTo l .blocked (raise .edgeWhileDraining (some l) none s)
  else
    match lowestFreeSlot s.table.entries with
    | none =>
      goTo l .blocked (modifyCounters l (fun c => { c with dropped := c.dropped + 1 }) (raise .tableFull (some l) none s))
    | some slot => openEntry slot l e.latched (goTo l .covered s)

/-- A trailing edge is taken in COVERED: the item is short (R29) or confirmed (R30). -/
def measure (l : Lane) (slot : Slot) (e : Entry) (trailing : Word) (s : State) : State :=
  let length := trailing - e.leading
  if length.toNat < (laneProfileOf e s).minLength.toNat then raise .shortItem (some l) none (discardEntry slot e s)
  else confirm slot e (length.setWidth 16) none s

/-- A trailing edge is taken (R29, R30, R32). -/
def takeTrailing (l : Lane) (e : PendingEdge) (s : State) : State :=
  let s' :=
    match (detectorOf l s).state, openingEntry l s with
    | .covered, some (slot, entry) => measure l slot entry e.latched s
    | _, _ => s
  openGap l e.latched s'

/-- The detector takes an edge: leading where the taken level is INACTIVE, trailing where it is ACTIVE (R22, R23). -/
def takeEdge (l : Lane) (e : PendingEdge) (s : State) : State :=
  let t := modifyDetector l ({ · with edge := none }) s
  if takenLevel (detectorOf l s).state then takeTrailing l e t else takeLeading l e t

/-- A pending edge is created, and taken at once where the debounce is 0 (R22). -/
def createEdge (l : Lane) (s : State) : State :=
  let debounce := (currentBank s).lanes[l].debounce
  let e : PendingEdge :=
    { latched := s.motion.h, expires := s.motion.tick + debounce.toNat, inGap := (detectorOf l s).state = .gap }
  if debounce = 0 then takeEdge l e s else modifyDetector l ({ · with edge := some e }) s

/-- A raw input change in RUNNING or DRAINING: a reversion drops the pending edge (R23), and a change with no pending edge
creates one (R22). A disabled lane takes no raw input change (R21). -/
def rawChange (l : Lane) (s : State) : State :=
  if !laneEnabled l s || !tracking s then s
  else
    match (detectorOf l s).edge with
    | some _ => modifyDetector l ({ · with edge := none }) s
    | none => createEdge l s

/-! ### Gap end and overlength (section 2.5) -/

/-- An overlength item is confirmed with a FORCED verdict and the lane goes to BLOCKED (R34). -/
def takeOverlength (l : Lane) (slot : Slot) (e : Entry) (s : State) : State :=
  let p := laneProfileOf e s
  goTo l .blocked (confirm slot e p.maxLength (some p.overlengthClass) s)

/-- A detector's work at an advance (R33, R34). A leading edge can be taken after its debounce with H already more than the max
length beyond its leading position. The guide does not say when such an item is overlength; here it is so at the next advance,
and a trailing edge taken before that advance confirms it with its measured length, which is then above the max length (the
model's choice, DESIGN CHOICE of assumption 25). -/
def detectorAdvance (l : Lane) (s : State) : State :=
  let d := detectorOf l s
  match d.state, d.gap, openingEntry l s with
  | .gap, some g, _ =>
    if reached s.motion.h (gapEnd g) then modifyDetector l (fun x => { x with state := .clear, gap := none }) s else s
  | .covered, _, some (slot, e) =>
    if (laneProfileOf e s).maxLength.toNat < (s.motion.h - e.leading).toNat then takeOverlength l slot e s else s
  | _, _, _ => s

/-! ### Engine events (R24, R35, R36, R37) -/

/-- Every pending edge is discarded without being taken (R24). -/
def discardEdges (s : State) : State :=
  { s with detectors := { s.detectors with lane := mapAll s.detectors.lane ({ · with edge := none }) } }

/-- An enabled detector takes CLEAR or BLOCKED from its input, with no pending edge and no gap reference (R35, R37). A
disabled lane stays in CLEAR (R21). -/
def takeFromInput (s : State) (l : Lane) : State :=
  let d := if laneEnabled l s && activeInput l s then DetectorState.blocked else .clear
  modifyDetector l (fun x => { x with state := d, edge := none, gap := none }) s

/-- Every detector takes its state from its input, at START and at FLUSH. -/
def detectorsFromInputs (s : State) : State := allLanes.foldl takeFromInput s

/-- At RESUME an enabled detector resamples its input against the taken level it kept (R36). -/
def resample (s : State) (l : Lane) : State :=
  if laneEnabled l s && activeInput l s != takenLevel (detectorOf l s).state then createEdge l s else s

/-- Engine reset at the detectors (R37). -/
def resetDetectors (s : State) : State :=
  { s with detectors := { s.detectors with lane := Vector.replicate 4 Detector.reset } }

/-- A write of the lane enable mask; a lane it disables goes to CLEAR and discards its gap reference (R21). -/
def setLaneMask (mask : BitVec 4) (s : State) : State :=
  let s := { s with detectors := { s.detectors with enabled := mask } }
  allLanes.foldl
    (fun s l =>
      if inMask mask l.val then s
      else modifyDetector l (fun d => { d with state := .clear, edge := none, gap := none }) s) s

end Sys2Proof.Machine
end

