-- ==== Sys2Proof/Machine/MotionOps.lean ====
section
/-! DEFINITION. The motion unit: encoder transitions, P, the reversal condition, fault reports and the speed estimate
(chapter 1). -/

namespace Sys2Proof.Machine

/-- The next pair of the encoder cycle (0,0), (1,0), (1,1), (0,1) (R1). -/
def Phases.next (x : Phases) : Phases := { encA := !x.encB, encB := x.encA }

/-- The pair with one phase at its other level. -/
def Phases.flip (x : Phases) : EncoderPhase → Phases
  | .encA => { x with encA := !x.encA }
  | .encB => { x with encB := !x.encB }

/-- The pair with both phases at their other levels. -/
def Phases.flipBoth (x : Phases) : Phases := { encA := !x.encA, encB := !x.encB }

/-- The kinds of sample against the recorded sample (Table 1-2). -/
inductive Transition where
  | none
  | forward
  | reverse
  | illegal
  deriving DecidableEq, Repr

/-- A sample compared with the recorded sample (R1, Table 1-2). -/
def classify (recorded sample : Phases) : Transition :=
  if sample = recorded then .none
  else if sample = recorded.next then .forward
  else if sample.next = recorded then .reverse
  else .illegal

/-- The transitions that count forward, as the pair the transition leaves (Table 1-3). -/
def countsForward (mode : DecodeMode) (earlier : Phases) : Bool :=
  match mode with
  | .x1 => earlier = { encA := false, encB := false }
  | .x2 => earlier = { encA := false, encB := false } || earlier = { encA := true, encB := true }
  | .x4 => true

/-- The count a transition produces before the invert: some true forward, some false reverse (R2). A reverse transition
counts where its exact reverse does. -/
def rawCount (mode : DecodeMode) (recorded sample : Phases) : Option Bool :=
  match classify recorded sample with
  | .forward => if countsForward mode recorded then some true else none
  | .reverse => if countsForward mode sample then some false else none
  | .none => none
  | .illegal => none

/-- The count after the direction invert (R3). -/
def directedCount (m : Motion) (sample : Phases) : Option Bool :=
  (rawCount m.decodeMode m.recorded sample).map (· != m.invert)

/-- The backlash b = (H - P) mod 2^32 (R10). -/
def backlashOf (m : Motion) : Nat := (m.h - m.p).toNat

/-- The reversal condition (R11). -/
def reversalHolds (m : Motion) : Bool := decide (m.backlash.toNat < backlashOf m ∧ backlashOf m < 2 ^ 31)

/-- The motion unit raises a fault with the P and H it has now, except in STOPPED (R7, R11, R12). -/
def raiseFault (cause : FaultCause) (s : State) : State :=
  if s.engine.state = .stopped then s
  else
    { s with motion := { s.motion with
        reports := s.motion.reports ++ [{ cause := cause, p := s.motion.p, h := s.motion.h }] } }

/-- One count: P moves, and a reverse count after which the reversal condition first holds raises REVERSAL (R5, R11). -/
def takeCount (forward : Bool) (s : State) : State :=
  let p := if forward then s.motion.p + 1 else s.motion.p - 1
  let t := { s with motion := { s.motion with p := p } }
  if !forward && reversalHolds t.motion && !reversalHolds s.motion then raiseFault .reversal t else t

/-- A legal transition (R1, R2, R3, R5). -/
def legalSample (sample : Phases) (s : State) : State :=
  let t := { s with motion := { s.motion with recorded := sample } }
  match directedCount s.motion sample with
  | none => t
  | some forward => takeCount forward t

/-- An illegal transition: the phase-error count rises, and ENCODER_PHASE is raised where it reaches the limit (R6, R7). -/
def illegalSample (sample : Phases) (s : State) : State :=
  let count := satSucc s.motion.phaseErrors
  let t := { s with motion := { s.motion with recorded := sample, phaseErrors := count } }
  if count.toNat = s.motion.phaseLimit.toNat then raiseFault .encoderPhase t else t

/-- H steps one count forward and the advance is counted in the window under way (R9, R15). -/
def stepForward (s : State) : State :=
  { s with motion := { s.motion with h := s.motion.h + 1, windowCount := satSucc s.motion.windowCount } }

/-- The speed estimate of a history: the mean of its four counts, rounded down (R16). -/
def meanSpeed (x : SpeedHistory) : Half :=
  BitVec.ofNat 16 ((x.w0.toNat + x.w1.toNat + x.w2.toNat + x.w3.toNat) / 4)

/-- The end of a speed window: its count joins the history, the estimate follows, and the next window begins on the tick on
which this one ends (R15, R16). -/
def endWindow (s : State) : State :=
  let history : SpeedHistory :=
    { w0 := s.motion.history.w1, w1 := s.motion.history.w2, w2 := s.motion.history.w3, w3 := s.motion.windowCount }
  { s with motion := { s.motion with
      history := history, speed := meanSpeed history, windowCount := 0, windowEnd := s.motion.windowEnd + 1024 } }

end Sys2Proof.Machine
end

