-- ==== Sys2Proof/Machine/EngineOps.lean ====
section
/-! DEFINITION. The engine: drains, faults and the seven commands (chapter 8), with POP at the report queue (R164). -/

namespace Sys2Proof.Machine

/-! ### Entering STOPPED (R149, R24) -/

/-- The engine enters STOPPED from a completed drain or from FLUSH: pending edges are discarded, any frozen-from state goes
and STOPPED_REACHED sets (R24, R149, R153). -/
def enterStopped (s : State) : State :=
  let s := discardEdges s
  setFlag .stoppedReached { s with engine := { s.engine with state := .stopped, frozenFrom := none } }

/-- A drain is complete: the engine is DRAINING, no entry is live and the schedule is empty (R149). -/
def drainDone (s : State) : Bool := s.engine.state = .draining && liveEntries s == 0 && s.schedule.isEmpty

/-- The completion of a drain (R149). -/
def completeDrain (s : State) : State := if drainDone s then enterStopped s else s

/-- The completion at the event after which both conditions hold. Where a fault report is on its way to the engine either
may be taken first, and the completion is left to its own command (R149, R156, assumption 6). -/
def settleDrain (s : State) : State := if s.motion.reports.isEmpty then completeDrain s else s

/-! ### Faults (R150, R151) -/

/-- The entry into FROZEN (R150). -/
def freeze (r : FaultReport) (s : State) : State :=
  let prior := s.engine.state
  let s := { s with engine := { s.engine with
    state := .frozen, frozenFrom := some prior,
    fault := { cause := r.cause, prior := prior, further := 0, p := r.p, h := r.h } } }
  offer (.fault r.cause prior r.p r.h) (setFlag .fault (cutPulses (discardEdges s)))

/-- The engine takes a fault report: it freezes from RUNNING or DRAINING, counts a further fault in FROZEN and discards the
report in STOPPED (R150, R151). -/
def takeReport (r : FaultReport) (s : State) : State :=
  match s.engine.state with
  | .running => freeze r s
  | .draining => freeze r s
  | .frozen =>
    { s with engine := { s.engine with fault := { s.engine.fault with further := satSucc s.engine.fault.further } } }
  | .stopped => s

/-! ### The commands (R145, Table 8-2) -/

/-- The accepted START: the effects of R147 in their order, with the commit that R102 chooses. -/
def beginRun (committing : Bool) (s : State) : State :=
  let s := { s with motion := { s.motion with h := s.motion.p } }
  let s := if committing then commit s else s
  let s := { s with motion := { s.motion with
    m := s.motion.h + (currentBank s).pitch, phaseErrors := 0, reports := [] } }
  let s := { s with epochUnit := { s.epochUnit with deferral := false } }
  setEngineState .running (detectorsFromInputs s)

/-- START (R102, R147). -/
def commandStart (s : State) : State :=
  if s.engine.state ≠ .stopped then finishCommand 1 .refusedState s
  else if attemptDue s then
    match validate s.epochUnit.shadow s with
    | none => finishCommand 1 .accepted (beginRun true s)
    | some code => finishCommand 1 .refusedInvalid (rejectShadow code s)
  else
    match validate (currentBank s) s with
    | none => finishCommand 1 .accepted (beginRun false s)
    | some code =>
      finishCommand 1 .refusedInvalid
        { s with epochUnit := { s.epochUnit with lastResult := .currentInvalid, check := code } }

/-- STOP (R148). -/
def commandStop (s : State) : State :=
  if s.engine.state = .running then finishCommand 2 .accepted (completeDrain (setEngineState .draining s))
  else finishCommand 2 .refusedState s

/-- P lies within the backlash allowance of H in either direction (R152). -/
def withinAllowance (m : Motion) : Bool :=
  decide ((m.p - m.h).toNat ≤ m.backlash.toNat ∨ (m.h - m.p).toNat ≤ m.backlash.toNat)

/-- At RESUME a channel that is IDLE takes back its deferred actions (R140). -/
def takeBack (s : State) (n : Channel) : State := if s.channels[n].state = .idle then takeDeferred n s else s

/-- The accepted RESUME: the effects of R152 in their order; `first` names the lanes that resample first. -/
def resumeRun (first : List Lane) (s : State) : State :=
  let s := { s with engine := { s.engine with state := s.engine.frozenFrom.getD .running, frozenFrom := none } }
  let s := { s with motion := { s.motion with phaseErrors := 0 } }
  let s := (preferred first allLanes).foldl resample s
  let s := allChannels.foldl takeBack s
  completeDrain s

/-- RESUME (R152). -/
def commandResume (first : List Lane) (s : State) : State :=
  if s.engine.state ≠ .frozen then finishCommand 3 .refusedState s
  else if withinAllowance s.motion then finishCommand 3 .accepted (resumeRun first s)
  else finishCommand 3 .refusedPosition s

/-- The accepted FLUSH outside STOPPED: the effects of R153 in their order. -/
def flushLine (s : State) : State := enterStopped (detectorsFromInputs (flushTable (flushSchedule s)))

/-- FLUSH (R153). -/
def commandFlush (s : State) : State :=
  if s.engine.state = .stopped then finishCommand 4 .accepted s else finishCommand 4 .accepted (flushLine s)

/-- COMMIT_NOW (R101, R154). -/
def commandCommit (s : State) : State :=
  if s.engine.state ≠ .stopped then finishCommand 5 .refusedState s
  else if s.epochUnit.hold then finishCommand 5 .refusedHold s
  else if !s.epochUnit.pending then finishCommand 5 .refusedState s
  else
    match validate s.epochUnit.shadow s with
    | none => finishCommand 5 .accepted (commit s)
    | some code => finishCommand 5 .refusedInvalid (rejectShadow code s)

/-- Engine reset at the tracking table; the inspection snapshot is kept (R62). -/
def resetTable (s : State) : State :=
  { s with table := { Table.reset with inspection := s.table.inspection } }

/-- Engine reset at the motion unit: H is set to P, M one pitch beyond, the phase-error count cleared (R8, R19, R6). -/
def resetMotion (s : State) : State :=
  { s with motion := { s.motion with h := s.motion.p, m := s.motion.p + (currentBank s).pitch, phaseErrors := 0 } }

/-- ENGINE_RESET (R155). -/
def commandReset (s : State) : State :=
  let s := resetDetectors (resetMotion (resetChannels (resetTable s)))
  { s with
    verdicts := Verdicts.reset,
    queue := { s.queue with records := [], lost := 0 },
    epochUnit := { s.epochUnit with deferral := false },
    interrupts := { s.interrupts with sticky := s.interrupts.sticky &&& Flag.powerOn.bit },
    engine := { Engine.reset with lastCommand := 6, lastResult := .accepted } }

/-- POP: the head record goes, and the DONE list is served with the place it frees (R161, R164). -/
def commandPop (s : State) : State :=
  match s.queue.records with
  | [] => finishCommand 7 .refusedEmpty s
  | _ :: rest => finishCommand 7 .accepted (serveDone { s with queue := { s.queue with records := rest } })

/-- A completed write to the command register (R145); a code of 0 or above 7 is refused by the window. -/
def writeCommand (code : Byte) (s : State) : State :=
  if code = 1 then commandStart s
  else if code = 2 then commandStop s
  else if code = 3 then commandResume [] s
  else if code = 4 then commandFlush s
  else if code = 5 then commandCommit s
  else if code = 6 then commandReset s
  else if code = 7 then commandPop s
  else refuseAccess 0x0004 s

end Sys2Proof.Machine
end

