-- ==== Sys2Proof/Machine/AdvanceOps.lean ====
section
/-! DEFINITION. One advance of H and the work it gives to the blocks (R9, R17, R33, R34, R50, R52, R117, R135). -/

namespace Sys2Proof.Machine

/-- The work of every advance, in the order taken where the sender names no other. -/
def advanceWork : List AdvanceWork :=
  allChannels.map .channel ++ allLanes.map .detector ++ [.decisions, .exits, .mark, .drainCompletion]

/-- A raw input change of a commit, which arrives with the commit (R20). -/
def isLevelChange : AdvanceWork → Bool
  | .levelChange _ => true
  | _ => false

/-- A piece of work, or a part of one, can be taken now: exits come after the decisions (R53), a posting after the exits, whose
records go together (R162), and a drain completion needs the drain done and the raw input changes of a commit taken, which
arrive at the commit (R20). R17 leaves open whether STOPPED or the mark is taken first at a drain's last exit. While a fault
report is on its way the model always takes the mark first, even where `first` names the completion, because the completion is
then left to DRAIN_COMPLETE (R149, R156; the model's choice, DESIGN CHOICE of assumption 6). -/
def workReady (s : State) (left : List AdvanceWork) (w : AdvanceWork) : Bool :=
  match wholeWork w with
  | .posts => !left.contains .exits
  | .exits => left.contains .exits && !left.contains .decisions
  | .drainCompletion =>
    left.contains .drainCompletion && !left.any isLevelChange && drainDone s && s.motion.reports.isEmpty
  | v => left.contains v

/-- The decisions that the table has still to take at this advance. With its first decision the table has taken the advance: the
entries that have theirs at it are `fixed` then, and an entry confirmed after that is OPENING to this advance and has its
decision at the next one (DEDUCED from R50 and R51, assumption 2). -/
def decisionsLeft (fixed : Option (List Slot)) (s : State) : List Slot := fixed.getD (dueDecisions s)

/-- The decisions fixed after a piece of work. -/
def fixDecisions (fixed : Option (List Slot)) (w : AdvanceWork) (s : State) : Option (List Slot) :=
  match w, decisionsLeft fixed s with
  | .decision, _ :: rest => some rest
  | _, _ => fixed

/-- One piece of work, with the work that follows from it: after a mark the PER_PITCH placement in RUNNING, and the raw input
changes of a commit (R17, R20). -/
def doWork (fixed : Option (List Slot)) (w : AdvanceWork) (s : State) : State × List AdvanceWork :=
  match w with
  | .channel n => (channelAdvance n s, [])
  | .channelEvent n => (channelEvent n s, [])
  | .detector l => (detectorAdvance l s, [])
  | .decisions => (takeDecisions (decisionsLeft fixed s) s, [])
  | .decision => (takeDecisions ((decisionsLeft fixed s).take 1) s, [])
  | .exits => (takeExits s, [])
  | .exit => (takeNextExit s, [])
  | .posts => (serveDone s, [])
  | .mark =>
    if s.motion.h = s.motion.m then
      let t := pitchMark s
      (t, (if t.engine.state = .running then [.pitchActions] else []) ++ (lanesWithNewLevel s t).map .levelChange)
    else (s, [])
  | .pitchActions => (placePitchActions s.motion.h s, [])
  | .levelChange l => (rawChange l s, [])
  | .drainCompletion => (completeDrain s, [])

/-- The work taken next: the first that the sender names and that is ready, else the first piece left that is ready. -/
def nextWork (first left : List AdvanceWork) (s : State) : Option AdvanceWork :=
  match first.find? (workReady s left) with
  | some w => some w
  | none => left.find? (workReady s left)

/-- The work of an advance, one piece or part after another, for as long as the engine is RUNNING or DRAINING (R17). What has
been taken leaves the list that the sender names and, where it is a whole piece, the work that is left. -/
def runWork : Nat → List AdvanceWork → List AdvanceWork → Option (List Slot) → State → State
  | 0, _, _, _, s => s
  | fuel + 1, first, left, fixed, s =>
    if !tracking s then s
    else
      match nextWork first left s with
      | none => s
      | some w =>
        let r := doWork fixed w s
        runWork fuel (first.erase w) (left.erase w ++ r.2) (fixDecisions fixed w s) r.1

/-- H may advance: RUNNING or DRAINING with P ahead of H (R9). -/
def canAdvance (s : State) : Bool := tracking s && isAhead s.motion.p s.motion.h

/-- One advance of H, taken by every block. An advance has 16 + 4 + 4 pieces of work, at most five that follow, and the parts
that the sender names. An exit that a completed drain has left as the last work posts its OUTCOME record at the end. -/
def advanceOnce (first : List AdvanceWork) (s : State) : State :=
  settleDrain (settlePosts (runWork (29 + first.length) first advanceWork none (stepForward s)))

end Sys2Proof.Machine
end

