-- ==== Sys2Proof/Machine/Autonomous.lean ====
section
/-! DEFINITION. What the part does of its own accord when no command is waiting: the events that its blocks have ready,
and otherwise the passing of one microsecond tick with the expiries that fall due on it (R9, R13, R14, R56, R66, R149). -/

namespace Sys2Proof.Machine

/-- The events that the part's own blocks have ready. -/
def readyEvents (s : State) : List Instr :=
  (if s.motion.reports.isEmpty then [] else [.faultReport]) ++
  (if canAdvance s then [.advance (Config.advanceOrder s.freeCount)] else []) ++
  (if s.verdicts.fifo.isEmpty then [] else [.verdictTake]) ++
  (if !s.table.doneList.isEmpty && decide (depth s < 64) then [.outcomePost] else []) ++
  (if drainDone s then [.drainComplete] else [])

/-- The pending edge of a lane is due (R14). -/
def edgeDue (s : State) (l : Lane) : Bool :=
  match s.detectors.lane[l].edge with
  | none => false
  | some e => decide (e.expires ≤ s.motion.tick)

/-- The MICROSECONDS pulse of a channel is due (R136). -/
def pulseDue (s : State) (n : Channel) : Bool :=
  s.schedule.any fun a =>
    match a.state with
    | .active (.time t) => decide (a.channel = n ∧ t ≤ s.motion.tick)
    | _ => false

/-- The recovery of a channel is due (R137). -/
def recoveryDue (s : State) (n : Channel) : Bool :=
  match s.channels[n].state with
  | .recovery t => decide (t ≤ s.motion.tick)
  | _ => false

/-- The expiries due at the present tick (R14). -/
def dueExpiries (s : State) : List Instr :=
  (if s.motion.windowEnd ≤ s.motion.tick then [.speedWindowEnd] else []) ++
  (allLanes.filter (edgeDue s)).map .debounceExpiry ++
  (allChannels.filter (pulseDue s)).map .microsecondsPulseEnd ++
  (allChannels.filter (recoveryDue s)).map .recoveryExpiry

/-- Events join the queue of commands, in the order a free value names (assumption 3). -/
def enqueueEvents (events : List Instr) (s : State) : State :=
  { s with pending := s.pending ++ reorder (Config.eventOrder s.freeCount) events, freeCount := s.freeCount + 1 }

/-- The step on an empty queue (assumption 5): the events that are ready join the queue; where there is none, one tick
passes, and the expiries due on it join the queue. -/
def idleStep (s : State) : State :=
  let ready := readyEvents s
  if ready.isEmpty then
    let t := elapseTo (s.motion.tick + 1) s
    enqueueEvents (dueExpiries t) t
  else enqueueEvents ready s

end Sys2Proof.Machine
end

