-- ==== Sys2Proof/Machine/VerdictOps.lean ====
section
/-! DEFINITION. The take of a verdict record and its result (sections 4.2 and 4.3). -/

namespace Sys2Proof.Machine

/-- The non-FREE entry that a verdict record names; a lane above 3 names none (R40, R66, R72). -/
def namedEntry (r : VerdictRecord) (s : State) : Option (Slot × Entry) :=
  match laneOf r.lane with
  | none => none
  | some l => taggedEntry l r.tag s

/-- A result other than APPLIED: VERDICT_ERR, the exception count and the EXCEPTION record (R73, R74). -/
def verdictError (code : ExceptionCode) (r : VerdictRecord) (s : State) : State :=
  let s := { s with verdicts := { s.verdicts with exceptionCount := satSucc s.verdicts.exceptionCount } }
  raise code (laneOf r.lane) (some r.tag) (setFlag .verdictErr s)

/-- The entry after an APPLIED record (R47, R68). -/
def appliedEntry (e : Entry) (c : Class) : Entry :=
  { e with state := .held, verdict := some { cls := c, source := .host } }

/-- LATE: the entry gains LATE_VERDICT and VERDICT_LATE is raised (R69). -/
def answerLate (slot : Slot) (r : VerdictRecord) (s : State) : State :=
  verdictError .verdictLate r (addFlags slot ({ · with lateVerdict := true }) s)

/-- A record is settled by the entry its lookup returns (Table 4-2). -/
def settleVerdict (r : VerdictRecord) (s : State) : State :=
  match namedEntry r s with
  | none => verdictError .verdictUnknown r s
  | some (slot, e) =>
    match e.verdict with
    | none => if e.state = .tracked then setEntry slot (appliedEntry e r.cls) s else answerLate slot r s
    | some v =>
      match v.source with
      | .host => verdictError .verdictDuplicate r s
      | .forced => verdictError .verdictLocked r s
      | .laneDefault => answerLate slot r s

/-- The verdict unit takes the head record of its FIFO and settles it (R66). Once the FIFO is empty no posting waits for a
take, and the OUTCOME records that were left to OUTCOME_POST are posted (R56, R77, assumption 13). -/
def takeVerdict (s : State) : State :=
  match s.verdicts.fifo with
  | [] => s
  | r :: rest => settlePosts (settleVerdict r { s with verdicts := { s.verdicts with fifo := rest } })

end Sys2Proof.Machine
end

