-- ==== Sys2Proof/Machine/BlockEvents.lean ====
section
/-! DEFINITION. The meanings of the events that the engine, the verdict unit and the tracking table take of their own accord:
FAULT_REPORT, VERDICT_TAKE, OUTCOME_POST and DRAIN_COMPLETE. -/

namespace Sys2Proof.Machine

/-- FAULT_REPORT (R12, R150, R151): the engine takes the oldest report on its way. With none on its way nothing changes
(assumption 11). -/
def execFaultReport (s : State) : Host.Outcome State Fault Refusal :=
  .next
    (match s.motion.reports with
     | [] => s
     | r :: rest => takeReport r { s with motion := { s.motion with reports := rest } })

/-- VERDICT_TAKE (R66, R67). -/
def execVerdictTake (s : State) : Host.Outcome State Fault Refusal := .next (takeVerdict s)

/-- OUTCOME_POST (R56): the head of the DONE list posts, and after it the next in turn while a place remains, with no other
producer's record between them (R162). -/
def execOutcomePost (s : State) : Host.Outcome State Fault Refusal := .next (serveDone s)

/-- DRAIN_COMPLETE (R149). -/
def execDrainComplete (s : State) : Host.Outcome State Fault Refusal := .next (completeDrain s)

end Sys2Proof.Machine
end

