-- ==== Sys2Proof/Machine/ChannelEvents.lean ====
section
/-! DEFINITION. The meanings of the output channels' own events: MICROSECONDS_PULSE_END and RECOVERY_EXPIRY. -/

namespace Sys2Proof.Machine

/-- MICROSECONDS_PULSE_END (R136): the end time of the channel's pulse expires. A channel with no pulse in MICROSECONDS has
no such event and changes nothing (assumption 11). -/
def execMicrosecondsPulseEnd (n : Channel) (s : State) : Host.Outcome State Fault Refusal :=
  .next
    (match activeAction n s with
     | none => s
     | some a =>
       match a.state with
       | .active (.time t) => settleDrain (endPulse n (elapseTo t s))
       | _ => s)

/-- The channel's recovery timer expires (R137): it goes to IDLE and, in RUNNING or DRAINING, takes back its deferred
actions. -/
def expireRecovery (n : Channel) (s : State) : State :=
  let s := setChannelState n .idle s
  if tracking s then takeDeferred n s else s

/-- RECOVERY_EXPIRY (R137). A channel that is not in RECOVERY has no such event (assumption 11). -/
def execRecoveryExpiry (n : Channel) (s : State) : Host.Outcome State Fault Refusal :=
  .next
    (match s.channels[n].state with
     | .recovery t => expireRecovery n (elapseTo t s)
     | _ => s)

end Sys2Proof.Machine
end

