-- ==== Sys2Proof/Machine/AddressMap.lean ====
section
/-! DEFINITION. The address map of the register window (section 10.4, Tables 5-4, 7-2, 9-2, 10-3 and 10-4): what each
address names and its access class. -/

namespace Sys2Proof.Machine

/-- The lane counters (Table 10-5). -/
inductive CounterName where
  | confirmed
  | outcomes
  | dropped
  deriving DecidableEq, Repr

/-- The quantities read through the read snapshot (Table 10-3). -/
inductive Quantity where
  | fault
  | lastRefused
  | p
  | h
  | speed
  | epoch
  | verdictExceptions
  | lost
  | counter (l : Lane) (name : CounterName)
  deriving DecidableEq, Repr

/-- What an address names. A number is the byte within the thing named. -/
inductive Target where
  | partCode (k : Nat)
  | revision
  | command
  | lastCommand
  | lastResult
  | engineState
  | quantity (q : Quantity) (k : Nat)
  | flags (half : RegisterHalf)
  | enables (half : RegisterHalf)
  | phaseErrors
  | decodeMode
  | invert
  | backlash
  | phaseLimit
  | laneMask
  | stageHold
  | viewSelect
  | commitPending
  | rejectedMark
  | deferralMarker
  | commitResult
  | checkNumber
  | checkIndex
  | pitch (k : Nat)
  | laneBlock (l : Lane) (k : Nat)
  | channelConfig (n : Channel) (which : ConfigByte)
  | channelBlock (n : Channel) (k : Nat)
  | verdictLane
  | verdictTagLow
  | verdictTagHigh
  | verdictClass
  | fifoLevel
  | headWindow (k : Nat)
  | depth
  | threshold
  | inspectionSelect
  | inspection (k : Nat)
  | unmapped
  deriving DecidableEq, Repr

/-- The access classes (Table 10-2). An address that no table maps has none (R173). -/
inductive AccessClass where
  | live
  | stoppedOnly
  | staged
  | readOnly
  | unmapped
  deriving DecidableEq, Repr

/-- Page 0x00 (Table 10-4, Table 10-12). -/
def page00 (off : Nat) : Target :=
  if off < 0x02 then .partCode off
  else if off = 0x02 then .revision
  else if off = 0x04 then .command
  else if off = 0x05 then .lastCommand
  else if off = 0x06 then .lastResult
  else if off = 0x07 then .engineState
  else if 0x08 ≤ off ∧ off < 0x14 then .quantity .fault (off - 0x08)
  else if off = 0x14 then .flags .byte0
  else if off = 0x15 then .flags .byte1
  else if off = 0x16 then .enables .byte0
  else if off = 0x17 then .enables .byte1
  else if 0x18 ≤ off ∧ off < 0x1A then .quantity .lastRefused (off - 0x18)
  else .unmapped

/-- Page 0x01 (Table 10-4, Table 10-3). -/
def page01 (off : Nat) : Target :=
  if off < 0x04 then .quantity .p off
  else if off < 0x08 then .quantity .h (off - 0x04)
  else if off < 0x0A then .quantity .speed (off - 0x08)
  else if off = 0x0A then .phaseErrors
  else if off = 0x0C then .decodeMode
  else if off = 0x0D then .invert
  else if off = 0x0E then .backlash
  else if off = 0x0F then .phaseLimit
  else if off = 0x10 then .laneMask
  else .unmapped

/-- Page 0x02 (Table 5-4): staging control and the lane blocks, lane n from offset 0x80 + 32n, 18 bytes each. -/
def page02 (off : Nat) : Target :=
  if off = 0x00 then .stageHold
  else if off = 0x01 then .viewSelect
  else if off = 0x02 then .commitPending
  else if off = 0x03 then .rejectedMark
  else if off = 0x04 then .deferralMarker
  else if off = 0x05 then .commitResult
  else if off = 0x06 then .checkNumber
  else if off = 0x07 then .checkIndex
  else if 0x08 ≤ off ∧ off < 0x0A then .quantity .epoch (off - 0x08)
  else if 0x0C ≤ off ∧ off < 0x10 then .pitch (off - 0x0C)
  else if 0x80 ≤ off ∧ (off - 0x80) % 32 < 18 then .laneBlock (Fin.ofNat 4 ((off - 0x80) / 32)) ((off - 0x80) % 32)
  else .unmapped

/-- The four configuration bytes of a channel, in address order (Table 7-2). -/
def configByteOf (k : Nat) : ConfigByte :=
  if k = 0 then .mode else if k = 1 then .lane else if k = 2 then .activeLevel else .widthUnit

/-- Page 0x03 (Table 7-2). -/
def page03 (off : Nat) : Target :=
  if off < 0x40 then .channelConfig (Fin.ofNat 16 (off / 4)) (configByteOf (off % 4)) else .unmapped

/-- Page 0x04 (Table 5-4): the channel blocks, channel n from offset 16n, 12 bytes each. -/
def page04 (off : Nat) : Target :=
  if off % 16 < 12 then .channelBlock (Fin.ofNat 16 (off / 16)) (off % 16) else .unmapped

/-- Page 0x05 (Table 10-8, Table 10-3). -/
def page05 (off : Nat) : Target :=
  if off = 0x00 then .verdictLane
  else if off = 0x01 then .verdictTagLow
  else if off = 0x02 then .verdictTagHigh
  else if off = 0x03 then .verdictClass
  else if off = 0x04 then .fifoLevel
  else if 0x06 ≤ off ∧ off < 0x08 then .quantity .verdictExceptions (off - 0x06)
  else .unmapped

/-- Page 0x06 (Table 9-2). -/
def page06 (off : Nat) : Target :=
  if off < 0x10 then .headWindow off
  else if off = 0x10 then .depth
  else if off = 0x11 then .threshold
  else if 0x12 ≤ off ∧ off < 0x14 then .quantity .lost (off - 0x12)
  else .unmapped

/-- The lane counters in address order (Table 10-5). -/
def counterNameOf (k : Nat) : CounterName :=
  if k = 0 then .confirmed else if k = 1 then .outcomes else .dropped

/-- Page 0x07 (Table 10-5). -/
def page07 (off : Nat) : Target :=
  if off < 0x30 then
    .quantity (.counter (Fin.ofNat 4 (off / 12)) (counterNameOf (off % 12 / 4))) (off % 4)
  else .unmapped

/-- Page 0x08 (Table 10-4, Table 10-14). -/
def page08 (off : Nat) : Target :=
  if off = 0x00 then .inspectionSelect
  else if 0x10 ≤ off ∧ off < 0x26 then .inspection (off - 0x10)
  else .unmapped

/-- What an address names: page in the high byte, offset in the low byte. -/
def target (a : Addr) : Target :=
  let page := a.toNat / 256
  let off := a.toNat % 256
  if page = 0x00 then page00 off
  else if page = 0x01 then page01 off
  else if page = 0x02 then page02 off
  else if page = 0x03 then page03 off
  else if page = 0x04 then page04 off
  else if page = 0x05 then page05 off
  else if page = 0x06 then page06 off
  else if page = 0x07 then page07 off
  else if page = 0x08 then page08 off
  else .unmapped

/-- The access class of what an address names (Table 10-4, Table 5-4, Table 9-2). -/
def accessClass : Target → AccessClass
  | .command | .flags _ | .enables _ | .stageHold | .viewSelect | .verdictLane | .verdictTagLow | .verdictTagHigh
  | .verdictClass | .threshold | .inspectionSelect => .live
  | .decodeMode | .invert | .backlash | .phaseLimit | .laneMask | .channelConfig _ _ => .stoppedOnly
  | .pitch _ | .laneBlock _ _ | .channelBlock _ _ => .staged
  | .partCode _ | .revision | .lastCommand | .lastResult | .engineState | .quantity _ _ | .phaseErrors | .commitPending
  | .rejectedMark | .deferralMarker | .commitResult | .checkNumber | .checkIndex | .fifoLevel | .headWindow _ | .depth
  | .inspection _ => .readOnly
  | .unmapped => .unmapped

end Sys2Proof.Machine
end

