-- ==== Sys2Proof/Machine/Registers.lean ====
section
/-! DEFINITION. Reads and writes of the register window's bytes: the read snapshots, the layouts of section 10.5, and the
effect of a completed write under its access class (R171 to R176). -/

namespace Sys2Proof.Machine

/-! ### Layouts of the report records (Table 10-11) -/

/-- The bytes of a 16-bit quantity, least significant first. -/
def bytes2 (v : Half) : List Byte := [byteOf v 0, byteOf v 1]

/-- The bytes of a 32-bit quantity, least significant first. -/
def bytes4 (v : Word) : List Byte := [byteOf v 0, byteOf v 1, byteOf v 2, byteOf v 3]

/-- The source code of an OUTCOME record or a snapshot, 0 where the verdict is absent (R57, Table 10-13). -/
def sourceCode (v : Option Verdict) : Byte :=
  match v with
  | none => 0
  | some x => x.source.code

/-- The class of a verdict, 0 where it is absent. -/
def classCode (v : Option Verdict) : Byte :=
  match v with
  | none => 0
  | some x => x.cls.setWidth 8

/-- The lane number of an optional lane field, 0 where it is absent. -/
def laneCode (l : Option Lane) : Byte :=
  match l with
  | none => 0
  | some x => byteNat x.val

/-- The bytes of a record, its kind code first and its length second (Table 10-11). -/
def Report.bytes : Report → List Byte
  | .detect lane tag epoch leading length overlength =>
    [1, 14, byteNat lane.val, bitAt 0 overlength] ++ bytes2 tag ++ bytes2 epoch ++ bytes4 leading ++ bytes2 length
  | .outcome lane tag epoch leading verdict fired flags =>
    [2, 16, byteNat lane.val, classCode verdict ||| (sourceCode verdict <<< 4)] ++ bytes2 tag ++ bytes2 epoch ++
      bytes4 leading ++ bytes2 fired ++ bytes2 flags.bits
  | .exception code lane tag position =>
    [3, 10, code.code, bitAt 0 lane.isSome ||| bitAt 1 tag.isSome ||| (laneCode lane <<< 4)] ++ bytes2 (tag.getD 0) ++
      bytes4 position
  | .fault cause prior p h => [4, 12, cause.code, prior.code] ++ bytes4 p ++ bytes4 h
  | .commit epoch h => [5, 8] ++ bytes2 epoch ++ bytes4 h

/-- A byte of the head window: the head record's bytes, 0 beyond its length and on an empty queue (R163). -/
def headByte (k : Nat) (s : State) : Byte :=
  match s.queue.records with
  | [] => 0
  | r :: _ => r.bytes.getD k 0

/-! ### The inspection snapshot (Table 10-14) -/

/-- The bytes of the inspection snapshot. A FREE slot shows its slot number and every other field 0 (R61). -/
def inspectionBytes (x : Inspection) : List Byte :=
  match x.entry with
  | none => [byteNat x.slot.val]
  | some e =>
    [byteNat x.slot.val, e.state.code, byteNat e.lane.val,
     bitAt 0 e.tag.isSome ||| bitAt 1 e.length.isSome ||| bitAt 2 e.verdict.isSome] ++
    bytes2 (e.tag.getD 0) ++ bytes2 (e.length.getD 0) ++ bytes2 e.epoch ++
    [e.bank.code, classCode e.verdict, sourceCode e.verdict, byteNat x.pendingCount] ++ bytes2 e.fired ++
    bytes4 e.leading ++ bytes2 e.flags.bits

/-! ### Read snapshots (R174) -/

/-- The bytes of the fault record (Table 10-12). -/
def FaultRecord.bytes (r : FaultRecord) : List Byte :=
  [r.cause.code, r.prior.code, r.further, 0] ++ bytes4 r.p ++ bytes4 r.h

/-- A counter of a lane. -/
def LaneCounters.get (c : LaneCounters) : CounterName → Word
  | .confirmed => c.confirmed
  | .outcomes => c.outcomes
  | .dropped => c.dropped

/-- A counter of a lane takes a value. -/
def LaneCounters.put (c : LaneCounters) (name : CounterName) (v : Word) : LaneCounters :=
  match name with
  | .confirmed => { c with confirmed := v }
  | .outcomes => { c with outcomes := v }
  | .dropped => { c with dropped := v }

/-- The snapshots with a fresh copy of one quantity (R174). -/
def copyQuantity (q : Quantity) (s : State) (x : Snapshots) : Snapshots :=
  match q with
  | .fault => { x with fault := s.engine.fault }
  | .lastRefused => { x with lastRefused := s.window.lastRefused }
  | .p => { x with p := s.motion.p }
  | .h => { x with h := s.motion.h }
  | .speed => { x with speed := s.motion.speed }
  | .epoch => { x with epoch := s.epochUnit.epoch }
  | .verdictExceptions => { x with verdictExceptions := s.verdicts.exceptionCount }
  | .lost => { x with lost := s.queue.lost }
  | .counter l name =>
    { x with counters := updateAt x.counters l fun c => c.put name (s.table.counters[l].get name) }

/-- A byte of a quantity from its snapshot (R174). -/
def snapshotByte (q : Quantity) (k : Nat) (x : Snapshots) : Byte :=
  match q with
  | .fault => x.fault.bytes.getD k 0
  | .lastRefused => byteOf x.lastRefused k
  | .p => byteOf x.p k
  | .h => byteOf x.h k
  | .speed => byteOf x.speed k
  | .epoch => byteOf x.epoch k
  | .verdictExceptions => byteOf x.verdictExceptions k
  | .lost => byteOf x.lost k
  | .counter l name => byteOf (x.counters[l].get name) k

/-- A read of a quantity's lowest byte copies the whole quantity into its snapshot (R174). -/
def takeSnapshot (t : Target) (s : State) : State :=
  match t with
  | .quantity q 0 => { s with window := { s.window with snapshots := copyQuantity q s s.window.snapshots } }
  | _ => s

/-! ### Reads (R171, R172, R173) -/

/-- A byte of a lane block (Table 5-2). -/
def laneBlockByte (k : Nat) (p : LaneProfile) : Byte :=
  if k < 4 then byteOf p.decisionOffset k
  else if k < 8 then byteOf p.exitOffset (k - 4)
  else if k < 10 then byteOf p.minLength (k - 8)
  else if k < 12 then byteOf p.maxLength (k - 10)
  else if k < 14 then byteOf p.minGap (k - 12)
  else if k = 14 then p.debounce
  else if k = 15 then bitAt 0 p.activeHigh
  else if k = 16 then p.defaultClass.setWidth 8
  else p.overlengthClass.setWidth 8

/-- A byte of a channel block (Table 5-3). -/
def channelBlockByte (k : Nat) (p : ChannelProfile) : Byte :=
  if k < 4 then byteOf p.offset k
  else if k < 6 then byteOf p.width (k - 4)
  else if k < 8 then byteOf p.lead (k - 6)
  else if k < 10 then byteOf p.recovery (k - 8)
  else if k = 10 then p.policy.code
  else p.classMask

/-- A byte of a channel's configuration (Table 7-2). -/
def channelConfigByte (which : ConfigByte) (c : ChannelConfig) : Byte :=
  match which with
  | .mode => c.mode.code
  | .lane => byteNat c.lane.val
  | .activeLevel => bitAt 0 c.activeHigh
  | .widthUnit => c.unit.code

/-- The profile set that a read of a STAGED address shows (R88). -/
def viewedSet (s : State) : ProfileSet :=
  match s.epochUnit.view with
  | .shadow => s.epochUnit.shadow
  | .active => currentBank s

/-- The value of the byte that a target names. A quantity of Table 10-3 shows its snapshot. -/
def readTarget (t : Target) (s : State) : Byte :=
  match t with
  | .partCode k => byteOf (0x0412 : Half) k
  | .revision => 1
  | .command => 0
  | .lastCommand => s.engine.lastCommand
  | .lastResult => s.engine.lastResult.code
  | .engineState => s.engine.state.code
  | .quantity q k => snapshotByte q k s.window.snapshots
  | .flags half => halfByte half (flagBits s)
  | .enables half => halfByte half s.interrupts.enables
  | .phaseErrors => s.motion.phaseErrors
  | .decodeMode => s.motion.decodeMode.code
  | .invert => bitAt 0 s.motion.invert
  | .backlash => s.motion.backlash
  | .phaseLimit => s.motion.phaseLimit.setWidth 8
  | .laneMask => s.detectors.enabled.setWidth 8
  | .stageHold => bitAt 0 s.epochUnit.hold
  | .viewSelect => bitAt 0 (s.epochUnit.view = .active)
  | .commitPending => bitAt 0 s.epochUnit.pending
  | .rejectedMark => bitAt 0 s.epochUnit.rejected
  | .deferralMarker => bitAt 0 s.epochUnit.deferral
  | .commitResult => s.epochUnit.lastResult.code
  | .checkNumber => byteNat s.epochUnit.check.number
  | .checkIndex => byteNat s.epochUnit.check.index
  | .pitch k => byteOf (viewedSet s).pitch k
  | .laneBlock l k => laneBlockByte k (viewedSet s).lanes[l]
  | .channelConfig n which => channelConfigByte which s.channels[n].config
  | .channelBlock n k => channelBlockByte k (viewedSet s).channels[n]
  | .verdictLane => s.verdicts.laneByte
  | .verdictTagLow => s.verdicts.tagLow
  | .verdictTagHigh => s.verdicts.tagHigh
  | .verdictClass => s.verdicts.classByte.setWidth 8
  | .fifoLevel => byteNat s.verdicts.fifo.length
  | .headWindow k => headByte k s
  | .depth => byteNat (depth s)
  | .threshold => s.queue.threshold
  | .inspectionSelect => byteNat s.table.inspection.slot.val
  | .inspection k => (inspectionBytes s.table.inspection).getD k 0
  | .unmapped => 0

/-- The read of an address: any snapshot it causes is taken, and the value goes to the shift register of SDO (R171, R174). -/
def readAddress (a : Addr) (s : State) : State :=
  let s := takeSnapshot (target a) s
  { s with window := { s.window with shiftOut := readTarget (target a) s } }

/-! ### Staged writes (R83, R87) -/

/-- A lane profile with one byte of its block written; narrow fields keep the byte reduced to their range (R83). -/
def writeLaneBlock (k : Nat) (v : Byte) (p : LaneProfile) : LaneProfile :=
  if k < 4 then { p with decisionOffset := setByte p.decisionOffset k v }
  else if k < 8 then { p with exitOffset := setByte p.exitOffset (k - 4) v }
  else if k < 10 then { p with minLength := setByte p.minLength (k - 8) v }
  else if k < 12 then { p with maxLength := setByte p.maxLength (k - 10) v }
  else if k < 14 then { p with minGap := setByte p.minGap (k - 12) v }
  else if k = 14 then { p with debounce := v }
  else if k = 15 then { p with activeHigh := v.getLsbD 0 }
  else if k = 16 then { p with defaultClass := v.setWidth 3 }
  else { p with overlengthClass := v.setWidth 3 }

/-- A channel profile with one byte of its block written (R83). -/
def writeChannelBlock (k : Nat) (v : Byte) (p : ChannelProfile) : ChannelProfile :=
  if k < 4 then { p with offset := setByte p.offset k v }
  else if k < 6 then { p with width := setByte p.width (k - 4) v }
  else if k < 8 then { p with lead := setByte p.lead (k - 6) v }
  else if k < 10 then { p with recovery := setByte p.recovery (k - 8) v }
  else if k = 10 then { p with policy := if v.getLsbD 0 then .join else .refuse }
  else { p with classMask := v }

/-- A profile set with one staged byte written; none where the target is not STAGED. -/
def writeProfile (t : Target) (v : Byte) (p : ProfileSet) : Option ProfileSet :=
  match t with
  | .pitch k => some { p with pitch := setByte p.pitch k v }
  | .laneBlock l k => some { p with lanes := updateAt p.lanes l (writeLaneBlock k v) }
  | .channelBlock n k => some { p with channels := updateAt p.channels n (writeChannelBlock k v) }
  | _ => none

/-- The window is in DATA, so that a write belongs to an open frame. -/
def inData (f : Frame) : Bool :=
  match f with
  | .data _ _ => true
  | _ => false

/-- A completed staged write: the byte lands in the shadow set, pending sets, the rejected mark clears, and the frame that
carries it is marked (R87, R175). -/
def storeStaged (p : ProfileSet) (s : State) : State :=
  { s with
    epochUnit := { s.epochUnit with shadow := p, pending := true, rejected := false },
    window := { s.window with frameOpen := s.window.frameOpen || inData s.window.frame } }

/-- A write to a staged page: stored at a STAGED address, ignored as unmapped elsewhere (R87). -/
def writeStaged (a : Addr) (v : Byte) (s : State) : State :=
  match writeProfile (target a) v s.epochUnit.shadow with
  | some p => storeStaged p s
  | none => refuseAccess a s

/-! ### Writes of single registers -/

/-- A write to the stage hold (R89). -/
def writeHold (v : Byte) (s : State) : State :=
  if v.toNat ≤ 1 then { s with epochUnit := { s.epochUnit with hold := v = 1 } } else refuseAccess 0x0200 s

/-- A write to the view select (R88). -/
def writeView (v : Byte) (s : State) : State :=
  if v.toNat ≤ 1 then { s with epochUnit := { s.epochUnit with view := if v = 1 then .active else .shadow } }
  else refuseAccess 0x0201 s

/-- A write to the report threshold (R165). -/
def writeThreshold (v : Byte) (s : State) : State :=
  if 1 ≤ v.toNat ∧ v.toNat ≤ 64 then { s with queue := { s.queue with threshold := v } } else refuseAccess 0x0611 s

/-- A write to the inspection slot select (R60). -/
def writeInspection (v : Byte) (s : State) : State := inspect ⟨v.toNat, v.isLt⟩ s

/-- A STOPPED-only write is taken in STOPPED and refused in any other state (Table 10-2). -/
def stoppedOnly (a : Addr) (effect : State → State) (s : State) : State :=
  if s.engine.state = .stopped then effect s else refuseAccess a s

/-- A write to the lane enable mask; its upper four bits carry nothing (R21, R173). -/
def writeLaneMask (v : Byte) (s : State) : State := stoppedOnly 0x0110 (setLaneMask (v.setWidth 4)) s

/-- A channel's configuration with one byte written; none for a mode or lane code that is refused (R127). -/
def configured (which : ConfigByte) (v : Byte) (c : ChannelConfig) : Option ChannelConfig :=
  match which with
  | .mode => (channelModeOf v).map fun m => { c with mode := m }
  | .lane => (laneOf v).map fun l => { c with lane := l }
  | .activeLevel => some { c with activeHigh := v.getLsbD 0 }
  | .widthUnit => some { c with unit := if v.getLsbD 0 then .microseconds else .counts }

/-- The place of a configuration byte among a channel's four (Table 7-2). -/
def configOffset : ConfigByte → Nat
  | .mode => 0
  | .lane => 1
  | .activeLevel => 2
  | .widthUnit => 3

/-- The address of a channel's configuration byte (Table 7-2). -/
def configAddress (n : Channel) (which : ConfigByte) : Addr := BitVec.ofNat 16 (0x0300 + 4 * n.val + configOffset which)

/-- A write of a channel's configuration (R127). -/
def writeConfig (n : Channel) (which : ConfigByte) (v : Byte) (s : State) : State :=
  stoppedOnly (configAddress n which)
    (fun s =>
      match configured which v s.channels[n].config with
      | some c => { s with channels := updateAt s.channels n fun ch => { ch with config := c } }
      | none => refuseAccess (configAddress n which) s) s

/-- A write of the decode mode (R4). -/
def writeDecodeMode (v : Byte) (s : State) : State :=
  stoppedOnly 0x010C
    (fun s =>
      match decodeModeOf v with
      | some m => { s with motion := { s.motion with decodeMode := m } }
      | none => refuseAccess 0x010C s) s

/-- A write of the count-direction invert, bit 0 (R4, Table 10-4). -/
def writeInvert (v : Byte) (s : State) : State :=
  stoppedOnly 0x010D (fun s => { s with motion := { s.motion with invert := v.getLsbD 0 } }) s

/-- A write of the backlash allowance (R4). -/
def writeBacklash (v : Byte) (s : State) : State :=
  stoppedOnly 0x010E (fun s => { s with motion := { s.motion with backlash := v } }) s

/-- A write of the phase-error limit: 0 is stored as 1 and a value above 15 is refused (R4). -/
def writePhaseLimit (v : Byte) (s : State) : State :=
  stoppedOnly 0x010F
    (fun s =>
      if v.toNat ≤ 15 then { s with motion := { s.motion with phaseLimit := if v = 0 then 1 else v.setWidth 4 } }
      else refuseAccess 0x010F s) s

/-! ### The verdict port (R63, R64, R65) -/

/-- The record that the staging bytes form. -/
def stagedRecord (v : Verdicts) : VerdictRecord :=
  { lane := v.laneByte, tag := v.tagHigh ++ v.tagLow, cls := v.classByte }

/-- A push appends the record at the tail of the FIFO, or sets VERDICT_FULL where the FIFO holds 16 (R65). -/
def pushVerdict (s : State) : State :=
  if s.verdicts.fifo.length < 16 then
    { s with verdicts := { s.verdicts with fifo := s.verdicts.fifo ++ [stagedRecord s.verdicts] } }
  else setFlag .verdictFull s

/-- A write of the class byte stores the value and pushes a record; a value above 7 is refused (R64). -/
def writeClass (v : Byte) (s : State) : State :=
  if v.toNat ≤ 7 then pushVerdict { s with verdicts := { s.verdicts with classByte := v.setWidth 3 } }
  else refuseAccess 0x0503 s

/-! ### A completed write of any byte (R172, R173) -/

/-- The address of a byte of the flag register. -/
def flagAddress : RegisterHalf → Addr
  | .byte0 => 0x0014
  | .byte1 => 0x0015

/-- The address of a byte of the enable register. -/
def enableAddress : RegisterHalf → Addr
  | .byte0 => 0x0016
  | .byte1 => 0x0017

/-- A completed write of a byte at an address, under the access class of the address (R172, R173). -/
def writeAddress (a : Addr) (v : Byte) (s : State) : State :=
  match target a with
  | .command => writeCommand v s
  | .flags half => writeFlags half v s
  | .enables half => writeEnables half v s
  | .decodeMode => writeDecodeMode v s
  | .invert => writeInvert v s
  | .backlash => writeBacklash v s
  | .phaseLimit => writePhaseLimit v s
  | .laneMask => writeLaneMask v s
  | .stageHold => writeHold v s
  | .viewSelect => writeView v s
  | .pitch _ => writeStaged a v s
  | .laneBlock _ _ => writeStaged a v s
  | .channelBlock _ _ => writeStaged a v s
  | .channelConfig n which => writeConfig n which v s
  | .verdictLane => { s with verdicts := { s.verdicts with laneByte := v } }
  | .verdictTagLow => { s with verdicts := { s.verdicts with tagLow := v } }
  | .verdictTagHigh => { s with verdicts := { s.verdicts with tagHigh := v } }
  | .verdictClass => writeClass v s
  | .threshold => writeThreshold v s
  | .inspectionSelect => writeInspection v s
  | .partCode _ => refuseAccess a s
  | .revision => refuseAccess a s
  | .lastCommand => refuseAccess a s
  | .lastResult => refuseAccess a s
  | .engineState => refuseAccess a s
  | .quantity _ _ => refuseAccess a s
  | .phaseErrors => refuseAccess a s
  | .commitPending => refuseAccess a s
  | .rejectedMark => refuseAccess a s
  | .deferralMarker => refuseAccess a s
  | .commitResult => refuseAccess a s
  | .checkNumber => refuseAccess a s
  | .checkIndex => refuseAccess a s
  | .fifoLevel => refuseAccess a s
  | .headWindow _ => refuseAccess a s
  | .depth => refuseAccess a s
  | .inspection _ => refuseAccess a s
  | .unmapped => refuseAccess a s

end Sys2Proof.Machine
end

