-- ==== Sys2Proof/Machine/WindowOps.lean ====
section
/-! DEFINITION. The frame of the register window (R170, R171, R175). -/

namespace Sys2Proof.Machine

/-- The frame changes. -/
def setFrame (f : Frame) (s : State) : State := { s with window := { s.window with frame := f } }

/-- SDO is given a byte to shift out. -/
def setShiftOut (v : Byte) (s : State) : State := { s with window := { s.window with shiftOut := v } }

/-- The address after a data byte: one on with INCREMENT, the same without (R171). -/
def nextAddress (m : FrameMode) (a : Addr) : Addr := if m.increment then a + 1 else a

/-- CSN falls. With the window IDLE a frame begins and the summary byte is fixed (R170). -/
def beginFrame (s : State) : State :=
  if s.window.csn then
    setShiftOut (summaryByte s) { s with window := { s.window with csn := false, frame := .control, frameOpen := false } }
  else s

/-- CSN rises: the frame ends, whatever its state, and the frame-open marker clears (R170, R175). -/
def endFrame (s : State) : State :=
  { s with window := { s.window with csn := true, frame := .idle, frameOpen := false } }

/-- The control byte completes: direction and INCREMENT, or the ignore mark with ACCESS_ERR (R170). -/
def takeControl (v : Byte) (s : State) : State :=
  match s.window.frame with
  | .control =>
    if v &&& 0x3F = 0 then
      setShiftOut 0 (setFrame (.addressHigh { read := v.getLsbD 7, increment := v.getLsbD 6 }) s)
    else setShiftOut 0 (setFrame .ignored (setFlag .accessErr s))
  | _ => s

/-- An address byte completes. The low byte forms the current address, and in a READ frame the value of the first data byte
is taken then (R170, R171). -/
def takeAddress (v : Byte) (s : State) : State :=
  match s.window.frame with
  | .addressHigh m => setFrame (.addressLow m v) s
  | .addressLow m high =>
    let t := setFrame (.data m (high ++ v)) s
    if m.read then readAddress (high ++ v) t else t
  | _ => s

/-- The current address moves on after a data byte. -/
def stepAddress (s : State) : State :=
  match s.window.frame with
  | .data m a => setFrame (.data m (nextAddress m a)) s
  | _ => s

/-- A data byte written at an address. In an open frame it is an access when the frame is a WRITE frame in DATA at that
address; with no frame open it stands for a whole frame that carries the one byte (R171, assumption 9). -/
def hostWrite (a : Addr) (effect : State → State) (s : State) : State :=
  match s.window.frame with
  | .data m c => if !m.read && c = a then stepAddress (effect s) else s
  | .idle => if s.window.csn then setShiftOut 0 (effect s) else s
  | _ => s

/-- The read of a byte. In an open READ frame the data byte under way completes and the value of the next byte is taken;
with no frame open it stands for a whole frame that reads the one byte (R171, assumptions 9 and 10). -/
def hostRead (a : Addr) (s : State) : State :=
  match s.window.frame with
  | .data m c => if m.read && nextAddress m c = a then readAddress a (setFrame (.data m a) s) else s
  | .idle => if s.window.csn then readAddress a s else s
  | _ => s

end Sys2Proof.Machine
end

