-- ==== Sys2Proof/Machine/Commands.lean ====
section
/-! DEFINITION. The meanings of the seven commands of the command register at 0x0004: START, STOP, RESUME, FLUSH, COMMIT_NOW,
ENGINE_RESET and POP (R145). Each is a data byte of the register window. -/

namespace Sys2Proof.Machine

/-- START, code 1 (R102, R147). -/
def execStart (s : State) : Host.Outcome State Fault Refusal := .next (hostWrite 0x0004 commandStart s)

/-- STOP, code 2 (R148). -/
def execStop (s : State) : Host.Outcome State Fault Refusal := .next (hostWrite 0x0004 commandStop s)

/-- RESUME, code 3 (R152). -/
def execResume (first : List Lane) (s : State) : Host.Outcome State Fault Refusal :=
  .next (hostWrite 0x0004 (commandResume first) s)

/-- FLUSH, code 4 (R153). -/
def execFlush (s : State) : Host.Outcome State Fault Refusal := .next (hostWrite 0x0004 commandFlush s)

/-- COMMIT_NOW, code 5 (R101, R154). -/
def execCommitNow (s : State) : Host.Outcome State Fault Refusal := .next (hostWrite 0x0004 commandCommit s)

/-- ENGINE_RESET, code 6 (R155). -/
def execEngineReset (s : State) : Host.Outcome State Fault Refusal := .next (hostWrite 0x0004 commandReset s)

/-- POP, code 7 (R164). -/
def execPop (s : State) : Host.Outcome State Fault Refusal := .next (hostWrite 0x0004 commandPop s)

end Sys2Proof.Machine
end

