-- ==== Sys2Proof/Machine/DetectorEvents.lean ====
section
/-! DEFINITION. The meanings of the detectors' events: RAW_INPUT_CHANGE and DEBOUNCE_EXPIRY. -/

namespace Sys2Proof.Machine

/-- The DET line of a lane takes a level. -/
def setDet (l : Lane) (high : Bool) (s : State) : State := { s with det := s.det.set l high }

/-- RAW_INPUT_CHANGE (R20, R22, R23): the line takes the level, and a change of level on an enabled lane in RUNNING or DRAINING
is a raw input change. A level the line has already is no change. -/
def execRawInputChange (l : Lane) (high : Bool) (s : State) : Host.Outcome State Fault Refusal :=
  .next (if s.det[l] = high then s else settleDrain (rawChange l (setDet l high s)))

/-- DEBOUNCE_EXPIRY (R23): the lane's pending edge is taken. A lane with no pending edge has no such event, and in STOPPED and
FROZEN no edge is taken (R24, assumption 11). -/
def execDebounceExpiry (l : Lane) (s : State) : Host.Outcome State Fault Refusal :=
  .next
    (match s.detectors.lane[l].edge with
     | none => s
     | some e => if tracking s then settleDrain (takeEdge l e (elapseTo e.expires s)) else s)

end Sys2Proof.Machine
end

