-- ==== Sys2Proof/Machine/MotionEvents.lean ====
section
/-! DEFINITION. The meanings of PIN_RESET and of the motion unit's events: LEGAL_TRANSITION, ILLEGAL_TRANSITION, ADVANCE and
SPEED_WINDOW_END. -/

namespace Sys2Proof.Machine

/-- PIN_RESET (R169 and the "after pin reset" columns of every chapter): every block takes its pin reset values. The queue of
commands and the model's own counter are not the part's and are kept. -/
def execPinReset (levels : InputLevels) (s : State) : Host.Outcome State Fault Refusal :=
  .next { State.afterPinReset levels with pending := s.pending, freeCount := s.freeCount }

/-- LEGAL_TRANSITION (R1, R2, R3, R5, R11). -/
def execLegalTransition (phase : EncoderPhase) (s : State) : Host.Outcome State Fault Refusal :=
  .next (legalSample (s.motion.recorded.flip phase) s)

/-- ILLEGAL_TRANSITION (R6, R7). -/
def execIllegalTransition (s : State) : Host.Outcome State Fault Refusal :=
  .next (illegalSample s.motion.recorded.flipBoth s)

/-- ADVANCE (R9): in RUNNING and DRAINING with P ahead of H; otherwise H holds (R10). -/
def execAdvance (first : List AdvanceWork) (s : State) : Host.Outcome State Fault Refusal :=
  .next (if canAdvance s then advanceOnce first s else s)

/-- SPEED_WINDOW_END (R15, R16). -/
def execSpeedWindowEnd (s : State) : Host.Outcome State Fault Refusal :=
  .next (endWindow (elapseTo s.motion.windowEnd s))

end Sys2Proof.Machine
end

