-- ==== Sys2Proof/Machine/WindowEvents.lean ====
section
/-! DEFINITION. The meanings of the register window's own events and of the data bytes it carries, but for the commands of
the command register. -/

namespace Sys2Proof.Machine

/-- FRAME_BEGIN (R170). -/
def execFrameBegin (s : State) : Host.Outcome State Fault Refusal := .next (beginFrame s)

/-- CONTROL_BYTE (R170). -/
def execControlByte (value : Byte) (s : State) : Host.Outcome State Fault Refusal := .next (takeControl value s)

/-- ADDRESS_BYTE (R170, R171). -/
def execAddressByte (value : Byte) (s : State) : Host.Outcome State Fault Refusal := .next (takeAddress value s)

/-- FRAME_END (R170, R175). -/
def execFrameEnd (s : State) : Host.Outcome State Fault Refusal := .next (endFrame s)

/-- STAGED_WRITE (R83, R87). The row's addresses are the STAGED ones; a byte at any other address has that address's effect. -/
def execStagedWrite (addr : Addr) (value : Byte) (s : State) : Host.Outcome State Fault Refusal :=
  .next (hostWrite addr (writeAddress addr value) s)

/-- STAGE_HOLD_WRITE (R89). -/
def execStageHoldWrite (value : Byte) (s : State) : Host.Outcome State Fault Refusal :=
  .next (hostWrite 0x0200 (writeHold value) s)

/-- VIEW_SELECT_WRITE (R88). -/
def execViewSelectWrite (value : Byte) (s : State) : Host.Outcome State Fault Refusal :=
  .next (hostWrite 0x0201 (writeView value) s)

/-- FLAG_REGISTER_WRITE (R167). -/
def execFlagRegisterWrite (which : RegisterHalf) (value : Byte) (s : State) : Host.Outcome State Fault Refusal :=
  .next (hostWrite (flagAddress which) (writeFlags which value) s)

/-- ENABLE_REGISTER_WRITE (R168). -/
def execEnableRegisterWrite (which : RegisterHalf) (value : Byte) (s : State) : Host.Outcome State Fault Refusal :=
  .next (hostWrite (enableAddress which) (writeEnables which value) s)

/-- REPORT_THRESHOLD_WRITE (R165). -/
def execReportThresholdWrite (value : Byte) (s : State) : Host.Outcome State Fault Refusal :=
  .next (hostWrite 0x0611 (writeThreshold value) s)

/-- INSPECTION_SLOT_SELECT (R60). -/
def execInspectionSlotSelect (value : Byte) (s : State) : Host.Outcome State Fault Refusal :=
  .next (hostWrite 0x0800 (writeInspection value) s)

/-- LANE_ENABLE_MASK_WRITE (R21). -/
def execLaneEnableMaskWrite (value : Byte) (s : State) : Host.Outcome State Fault Refusal :=
  .next (hostWrite 0x0110 (writeLaneMask value) s)

/-- CHANNEL_CONFIGURATION_WRITE (R127). -/
def execChannelConfigurationWrite (n : Channel) (which : ConfigByte) (value : Byte) (s : State) :
    Host.Outcome State Fault Refusal :=
  .next (hostWrite (configAddress n which) (writeConfig n which value) s)

/-- VERDICT_PUSH (R64, R65). -/
def execVerdictPush (value : Byte) (s : State) : Host.Outcome State Fault Refusal :=
  .next (hostWrite 0x0503 (writeClass value) s)

/-- SNAPSHOT_READ (R171, R174). -/
def execSnapshotRead (addr : Addr) (s : State) : Host.Outcome State Fault Refusal := .next (hostRead addr s)

/-- REGISTER_WRITE (R172, R173). -/
def execRegisterWrite (addr : Addr) (value : Byte) (s : State) : Host.Outcome State Fault Refusal :=
  .next (hostWrite addr (writeAddress addr value) s)

end Sys2Proof.Machine
end

