-- ==== Sys2Proof/Machine/Dispatch.lean ====
section
/-! DEFINITION. The effect of each command on everything but the queue, one arm per row of the opcode table. -/

namespace Sys2Proof.Machine

def exec (i : Instr) (s : State) : Host.Outcome State Fault Refusal :=
  match i with
  | .pinReset levels => Sys2Proof.Machine.execPinReset levels s
  | .legalTransition phase => Sys2Proof.Machine.execLegalTransition phase s
  | .illegalTransition => Sys2Proof.Machine.execIllegalTransition s
  | .advance first => Sys2Proof.Machine.execAdvance first s
  | .microsecondsPulseEnd n => Sys2Proof.Machine.execMicrosecondsPulseEnd n s
  | .recoveryExpiry n => Sys2Proof.Machine.execRecoveryExpiry n s
  | .speedWindowEnd => Sys2Proof.Machine.execSpeedWindowEnd s
  | .rawInputChange l high => Sys2Proof.Machine.execRawInputChange l high s
  | .debounceExpiry l => Sys2Proof.Machine.execDebounceExpiry l s
  | .faultReport => Sys2Proof.Machine.execFaultReport s
  | .verdictPush value => Sys2Proof.Machine.execVerdictPush value s
  | .verdictTake => Sys2Proof.Machine.execVerdictTake s
  | .outcomePost => Sys2Proof.Machine.execOutcomePost s
  | .drainComplete => Sys2Proof.Machine.execDrainComplete s
  | .start => Sys2Proof.Machine.execStart s
  | .stop => Sys2Proof.Machine.execStop s
  | .resume first => Sys2Proof.Machine.execResume first s
  | .flush => Sys2Proof.Machine.execFlush s
  | .commitNow => Sys2Proof.Machine.execCommitNow s
  | .engineReset => Sys2Proof.Machine.execEngineReset s
  | .pop => Sys2Proof.Machine.execPop s
  | .frameBegin => Sys2Proof.Machine.execFrameBegin s
  | .controlByte value => Sys2Proof.Machine.execControlByte value s
  | .frameEnd => Sys2Proof.Machine.execFrameEnd s
  | .stagedWrite addr value => Sys2Proof.Machine.execStagedWrite addr value s
  | .stageHoldWrite value => Sys2Proof.Machine.execStageHoldWrite value s
  | .viewSelectWrite value => Sys2Proof.Machine.execViewSelectWrite value s
  | .flagRegisterWrite which value => Sys2Proof.Machine.execFlagRegisterWrite which value s
  | .enableRegisterWrite which value => Sys2Proof.Machine.execEnableRegisterWrite which value s
  | .reportThresholdWrite value => Sys2Proof.Machine.execReportThresholdWrite value s
  | .inspectionSlotSelect value => Sys2Proof.Machine.execInspectionSlotSelect value s
  | .laneEnableMaskWrite value => Sys2Proof.Machine.execLaneEnableMaskWrite value s
  | .channelConfigurationWrite n which value => Sys2Proof.Machine.execChannelConfigurationWrite n which value s
  | .snapshotRead addr => Sys2Proof.Machine.execSnapshotRead addr s
  | .registerWrite addr value => Sys2Proof.Machine.execRegisterWrite addr value s
  | .addressByte value => Sys2Proof.Machine.execAddressByte value s

end Sys2Proof.Machine
end

