-- ==== Sys2Proof/Safety.lean ====
section
/-! DEFINITION. What the statements about the part are written in: which data byte a command is, when the window takes it,
and the invariants that every step keeps. -/

namespace Sys2Proof

open Machine

/-- The byte of the register window that a command's row writes: address and value (chapter 10). Commands that are not
writes have none. -/
def Instr.byteWritten : Instr → Option (Addr × Byte)
  | .verdictPush value => some (0x0503, value)
  | .start => some (0x0004, 1)
  | .stop => some (0x0004, 2)
  | .resume _ => some (0x0004, 3)
  | .flush => some (0x0004, 4)
  | .commitNow => some (0x0004, 5)
  | .engineReset => some (0x0004, 6)
  | .pop => some (0x0004, 7)
  | .stagedWrite addr value => some (addr, value)
  | .stageHoldWrite value => some (0x0200, value)
  | .viewSelectWrite value => some (0x0201, value)
  | .flagRegisterWrite which value => some (flagAddress which, value)
  | .enableRegisterWrite which value => some (enableAddress which, value)
  | .reportThresholdWrite value => some (0x0611, value)
  | .inspectionSlotSelect value => some (0x0800, value)
  | .laneEnableMaskWrite value => some (0x0110, value)
  | .channelConfigurationWrite n which value => some (configAddress n which, value)
  | .registerWrite addr value => some (addr, value)
  | .pinReset _ | .legalTransition _ | .illegalTransition | .advance _ | .microsecondsPulseEnd _ | .recoveryExpiry _
  | .speedWindowEnd | .rawInputChange _ _ | .debounceExpiry _ | .faultReport | .verdictTake | .outcomePost
  | .drainComplete | .frameBegin | .controlByte _ | .frameEnd | .snapshotRead _ | .addressByte _ => none

end Sys2Proof

namespace Sys2Proof.Machine

/-! ### Data bytes of the register window -/

/-- The window takes a data byte written at an address: it is in DATA of a WRITE frame at that address, or no frame is open
and the byte stands for a whole frame (R171, assumption 9). -/
def Window.takesWrite (w : Window) (a : Addr) : Bool :=
  match w.frame with
  | .data m c => !m.read && c = a
  | .idle => w.csn
  | _ => false

/-- The window takes the read of a byte at an address after the first of its frame, or of a whole frame (R171). -/
def Window.takesRead (w : Window) (a : Addr) : Bool :=
  match w.frame with
  | .data m c => m.read && nextAddress m c = a
  | .idle => w.csn
  | _ => false

/-- The window once a written data byte has been taken: the current address moves on, and a whole frame has shifted out 0
(R170, R171). -/
def Window.afterWrite (w : Window) : Window :=
  match w.frame with
  | .data m c => { w with frame := .data m (nextAddress m c) }
  | _ => { w with shiftOut := 0 }

/-- The window once a byte has been read at an address with a value. -/
def Window.afterRead (w : Window) (a : Addr) (v : Byte) : Window :=
  match w.frame with
  | .data m _ => { w with frame := .data m a, shiftOut := v }
  | _ => { w with shiftOut := v }

/-- The engine takes a command code from a command of the window. -/
def issues (c : Instr) (code : Byte) (s : State) : Bool :=
  c.byteWritten = some (0x0004, code) && s.window.takesWrite 0x0004

/-- The sticky flag is set. -/
def stickySet (f : Flag) (s : State) : Bool := s.interrupts.sticky.getLsbD f.position

/-- From s to t the read of the byte at an address takes its snapshot and puts its value out: the lowest byte of a quantity of
Table 10-3 copies the whole quantity into its own snapshot and no other, every byte of a quantity is read from the snapshot,
and every other byte is read as it stands (R171, R174). -/
abbrev ReadsByte (a : Addr) (s t : State) : Prop :=
  ((∀ q k, target a ≠ .quantity q k) →
    t.window.snapshots = s.window.snapshots ∧ t.window.shiftOut = readTarget (target a) s) ∧
  ∀ q k, target a = .quantity q k →
    t.window.shiftOut = snapshotByte q k t.window.snapshots ∧
    (∀ r j, r ≠ q ∨ k ≠ 0 → snapshotByte r j t.window.snapshots = snapshotByte r j s.window.snapshots) ∧
    (k = 0 → ∀ j, snapshotByte q j t.window.snapshots =
      match q with
      | .fault => s.engine.fault.bytes.getD j 0
      | .lastRefused => byteOf s.window.lastRefused j
      | .p => byteOf s.motion.p j
      | .h => byteOf s.motion.h j
      | .speed => byteOf s.motion.speed j
      | .epoch => byteOf s.epochUnit.epoch j
      | .verdictExceptions => byteOf s.verdicts.exceptionCount j
      | .lost => byteOf s.queue.lost j
      | .counter l .confirmed => byteOf s.table.counters[l].confirmed j
      | .counter l .outcomes => byteOf s.table.counters[l].outcomes j
      | .counter l .dropped => byteOf s.table.counters[l].dropped j)

/-! ### Records offered -/

/-- From s to t a DETECT, EXCEPTION or COMMIT record has been offered: it has joined the queue behind those of s, or it met a depth
of 56 or more, is counted lost, and has set LOST (R159, R160). -/
abbrev Offered (r : Report) (s t : State) : Prop :=
  r ∈ t.queue.records.drop s.queue.records.length ∨
  (56 ≤ t.queue.records.length ∧ stickySet .lost t = true ∧
    (s.queue.lost.toNat < t.queue.lost.toNat ∨ t.queue.lost = 65535))

/-! ### A line on which an advance has nothing due -/

/-- No detector has work at the advance to a position: no gap ends and no item becomes overlength (R33, R34). -/
def lanesQuietAt (h : Word) (s : State) : Bool :=
  allLanes.all fun l =>
    match (detectorOf l s).state, (detectorOf l s).gap, openingEntry l s with
    | .gap, some g, _ => !reached h (gapEnd g)
    | .covered, _, some (_, e) => decide ((h - e.leading).toNat ≤ (laneProfileOf e s).maxLength.toNat)
    | _, _, _ => true

/-- No action has work at the advance to a position: none falls due and no COUNTS pulse ends there (R117, R135). -/
def actionsQuietAt (h : Word) (s : State) : Bool :=
  s.schedule.all fun a => !(a.state = .pending false && a.start = h) && !(a.state = .active (.position h))

/-- No entry takes its decision or its exit at the advance to a position (R50, R52). -/
def entriesQuietAt (h : Word) (s : State) : Bool :=
  s.table.entries.all fun x =>
    !((x.2.state = .tracked || x.2.state = .held) && reached h (decisionPosition x.2 s)) &&
      !(x.2.state = .scheduled && reached h (exitPosition x.2 s))

/-- The engine is not DRAINING, or the drain is not over, or a fault report is on its way. -/
def drainOpen (s : State) : Bool := !drainDone s || !s.motion.reports.isEmpty

/-! ### Bounds that hold of every state on their own -/

/-- The report queue, the FIFO and the schedule within their capacities (R157, R65, R107), the threshold and the limit in
their ranges (R165, R4), and the DONE list waiting only for a full queue (R56), or, while a verdict record is waiting, for
OUTCOME_POST (assumption 13). -/
abbrev Bounded (s : State) : Prop :=
  s.queue.records.length ≤ 64 ∧ s.verdicts.fifo.length ≤ 16 ∧ s.schedule.length ≤ 128 ∧
  (1 ≤ s.queue.threshold.toNat ∧ s.queue.threshold.toNat ≤ 64) ∧ 1 ≤ s.motion.phaseLimit.toNat ∧
  (s.table.doneList ≠ [] → s.queue.records.length = 64 ∨ s.verdicts.fifo ≠ [])

/-- The frame is a WRITE frame in DATA. -/
def inWriteData (f : Frame) : Bool :=
  match f with
  | .data m _ => !m.read
  | _ => false

/-- The window: a frame only while CSN is low, and the frame-open marker only in DATA of a WRITE frame (R170, R175). -/
abbrev WindowSound (s : State) : Prop :=
  (s.window.csn = true → s.window.frame = .idle) ∧
  (s.window.frameOpen = true → inWriteData s.window.frame = true)

/-! ### The invariant of the line -/

/-- The number of OPENING entries of a lane. -/
def openingCount (l : Lane) (s : State) : Nat :=
  s.table.entries.countP fun x => x.2.lane = l && x.2.state = .opening

/-- The number of confirmed entries of a lane, live or DONE. -/
def confirmedCount (l : Lane) (s : State) : Nat :=
  s.table.entries.countP fun x => x.2.lane = l && x.2.state ≠ .opening

/-- The tracking table: canonical; each lane list holds the lane's live entries and the DONE list the DONE entries, each once
(R48, R56); a lane has one OPENING entry exactly while it is COVERED (R25, R48). -/
abbrev TableSound (s : State) : Prop :=
  s.table.wf = true ∧
  (∀ l : Lane, (s.table.laneList[l]).Perm
    ((s.table.entries.filter fun x => x.2.lane = l && isLive x.2).map (·.1))) ∧
  s.table.doneList.Perm ((s.table.entries.filter fun x => !isLive x.2).map (·.1)) ∧
  (∀ l : Lane, openingCount l s = if (detectorOf l s).state = .covered then 1 else 0)

/-- The fields of the entries: a tag and a length exactly from the confirmation on (R40, R45), no two of one lane with one tag
(R40), no verdict before one is given and one from HELD to SCHEDULED (R41, R50). -/
abbrev EntriesSound (s : State) : Prop :=
  (∀ x ∈ s.table.entries, (x.2.state = .opening ↔ x.2.tag = none) ∧ (x.2.state = .opening ↔ x.2.length = none)) ∧
  s.table.entries.Pairwise (fun x y => x.2.lane = y.2.lane → x.2.tag ≠ none → x.2.tag ≠ y.2.tag) ∧
  (∀ x ∈ s.table.entries, x.2.state = .opening ∨ x.2.state = .tracked → x.2.verdict = none) ∧
  (∀ x ∈ s.table.entries, x.2.state = .held ∨ x.2.state = .scheduled → x.2.verdict ≠ none)

/-- For each lane the confirmed count is the outcomes count plus the confirmed live entries and the DONE entries, modulo 2^32
(R59). -/
abbrev CountersSound (s : State) : Prop :=
  ∀ l : Lane, s.table.counters[l].confirmed = s.table.counters[l].outcomes + BitVec.ofNat 32 (confirmedCount l s)

/-- The number of ACTIVE actions of a channel. -/
def activeCount (n : Channel) (s : State) : Nat := s.schedule.countP (activeOn n)

/-- The end of an ACTIVE action is in the width unit of the action. -/
def endInUnit (a : Action) : Bool :=
  match a.state, a.unit with
  | .active (.position _), .counts => true
  | .active (.time _), .microseconds => true
  | .pending _, _ => true
  | _, _ => false

/-- Channels and schedule: a channel is ACTIVE exactly while it has one ACTIVE action, and never has two (R128); ends and
copies are in the channel's one width unit (R132), and no width is 0 (V8); only JOIN actions are deferred, and while the line is tracking only on a
channel in RECOVERY (R134, R137, R140); a PENDING action that is not deferred starts ahead of H (R110). -/
abbrev ChannelsSound (s : State) : Prop :=
  (∀ n : Channel, activeCount n s = if s.channels[n].state = .active then 1 else 0) ∧
  (∀ a ∈ s.schedule, endInUnit a = true ∧ a.unit = s.channels[a.channel].config.unit ∧ a.width ≠ 0) ∧
  (∀ a ∈ s.schedule, a.state = .pending true → a.policy = .join) ∧
  (tracking s = true → ∀ a ∈ s.schedule, a.state = .pending true →
    s.channels[a.channel].state ≠ .idle ∧ s.channels[a.channel].state ≠ .active) ∧
  (∀ a ∈ s.schedule, a.state = .pending false → reached s.motion.h a.start = false)

/-- Links: the slot of a linked action holds a live entry of the channel's lane; an entry has at most one action on a channel;
and an action of a VERDICT channel is linked only to an entry that has had its decision (R116). -/
abbrev LinksSound (s : State) : Prop :=
  (∀ a ∈ s.schedule, ∀ slot ∈ a.item, ∃ x ∈ s.table.entries, x.1 = slot ∧ isLive x.2 = true ∧
    (s.channels[a.channel].config.mode = .perItem ∨
      s.channels[a.channel].config.mode = .verdict ∧ x.2.state = .scheduled) ∧
    s.channels[a.channel].config.lane = x.2.lane) ∧
  s.schedule.Pairwise (fun a b => a.channel = b.channel → a.item ≠ none → a.item ≠ b.item)

/-- The engine: a frozen-from state exactly in FROZEN (R144); in STOPPED no live entry and an empty schedule (R49, R124), in
FROZEN no ACTIVE action (R122), in neither a pending edge (R24); a disabled lane in CLEAR with nothing held (R21); GAP only
with a gap reference (R33). -/
abbrev EngineSound (s : State) : Prop :=
  (s.engine.state = .frozen ↔ (s.engine.frozenFrom = some .running ∨ s.engine.frozenFrom = some .draining)) ∧
  (s.engine.state ≠ .frozen → s.engine.frozenFrom = none) ∧
  (s.engine.state = .stopped → s.schedule = [] ∧ liveEntries s = 0) ∧
  (s.engine.state = .frozen → ∀ a ∈ s.schedule, a.isActive = false) ∧
  (tracking s = false → ∀ l : Lane, (detectorOf l s).edge = none) ∧
  (∀ l : Lane, laneEnabled l s = false →
    (detectorOf l s).state = .clear ∧ (detectorOf l s).edge = none ∧ (detectorOf l s).gap = none) ∧
  (∀ l : Lane, (detectorOf l s).state = .gap → (detectorOf l s).gap ≠ none)

/-- Epochs: a live entry bound to the current bank carries E and one bound to the previous bank carries E - 1 (R86); out of
STOPPED the current bank passes validation, and so does the bank of every live entry (R83, R91). -/
abbrev EpochSound (s : State) : Prop :=
  (∀ x ∈ s.table.entries, isLive x.2 = true →
    x.2.epoch = if x.2.bank = s.epochUnit.current then s.epochUnit.epoch else s.epochUnit.epoch - 1) ∧
  (s.engine.state ≠ .stopped → validate (currentBank s) s = none) ∧
  (∀ x ∈ s.table.entries, isLive x.2 = true → validate (bankOf x.2.bank s) s = none)

/-- The invariant of the line: everything above together. -/
structure LineSound (s : State) : Prop where
  bounded : Bounded s
  window : WindowSound s
  table : TableSound s
  entries : EntriesSound s
  counters : CountersSound s
  channels : ChannelsSound s
  links : LinksSound s
  engine : EngineSound s
  epochs : EpochSound s

end Sys2Proof.Machine
end

