-- ==== Sys2Proof/Certificates/Slice0/Obligations.lean ====
section
/-! DEFINITION. The statements about the part, in the order of the guide's chapters.

Where a statement says that the window takes a data byte (`takesWrite`, `takesRead`), the byte belongs to an open frame or, with
no frame open, stands for a whole one (assumption 9); `tick` and the times held against it are those of assumption 7; the
list of fault reports on their way is that of assumption 12; and `first`, the order of work that the guide leaves open, is
that of assumption 2. -/

open Sys2Proof Sys2Proof.Machine

/-! ### The queue of commands -/

/-- A step with a command at the front of the queue is that command's effect on the part with the queue's rest, and
the rest is what stays waiting. -/
def Obligations.StepRunsTheFrontCommand : Prop :=
  ∀ (c : Instr) (rest : List Instr) (s : State),
    step { s with pending := c :: rest } = exec c { s with pending := rest } ∧
    ∃ t, step { s with pending := c :: rest } = .next t ∧ t.pending = rest

/-- Every command, whatever its operands and the state, answers a next state, and leaves the queue and the model's own
counter as they were. -/
def Obligations.EveryCommandAnswersANextState : Prop :=
  ∀ (c : Instr) (s : State), ∃ t, exec c s = .next t ∧ t.pending = s.pending ∧ t.freeCount = s.freeCount

/-- The MODEL's choice (assumptions 3 and 5): on an empty queue the events that the part has ready join the queue, in
some order: the oldest fault report on its way, an advance where P lets H advance (with the free value of assumption
2), a take from the FIFO, a posting where an entry is DONE and a place is free, and a drain that is done. Where there
is none, one microsecond tick passes and the expiries due on it join the queue, in some order: the end of the speed
window, pending edges, MICROSECONDS pulses and recoveries whose tick has come. -/
def Obligations.EmptyQueueLetsThePartAct : Prop :=
  ∀ s : State, s.pending = [] →
    let now := s.motion.tick + 1
    let ready : List Instr :=
      (if s.motion.reports = [] then [] else [.faultReport]) ++
      (if (s.engine.state = .running ∨ s.engine.state = .draining) ∧ 1 ≤ (s.motion.p - s.motion.h).toNat ∧
          (s.motion.p - s.motion.h).toNat < 2 ^ 31 then [.advance (Config.advanceOrder s.freeCount)] else []) ++
      (if s.verdicts.fifo = [] then [] else [.verdictTake]) ++
      (if s.table.doneList ≠ [] ∧ s.queue.records.length < 64 then [.outcomePost] else []) ++
      (if s.engine.state = .draining ∧ (∀ x ∈ s.table.entries, x.2.state = .done) ∧ s.schedule = [] then [.drainComplete]
       else [])
    let edgeOver (l : Lane) : Bool :=
      match (detectorOf l s).edge with
      | some e => decide (e.expires ≤ now)
      | none => false
    let pulseOver (n : Channel) : Bool := s.schedule.any fun a => decide (a.channel = n) &&
      match a.state with
      | .active (.time finish) => decide (finish ≤ now)
      | _ => false
    let recoveryOver (n : Channel) : Bool :=
      match s.channels[n].state with
      | .recovery finish => decide (finish ≤ now)
      | _ => false
    let due : List Instr :=
      (if s.motion.windowEnd ≤ now then [.speedWindowEnd] else []) ++
      ((List.finRange 4).filter edgeOver).map .debounceExpiry ++
      ((List.finRange 16).filter pulseOver).map .microsecondsPulseEnd ++
      ((List.finRange 16).filter recoveryOver).map .recoveryExpiry
    ∃ q : List Instr,
      step s = .next { s with
        motion := if ready = [] then { s.motion with tick := now } else s.motion,
        pending := q, freeCount := s.freeCount + 1 } ∧
      q.Perm (if ready = [] then due else ready)

/-! ### Resets -/

/-- R105: at pin reset the three profile sets take the defaults of Tables 5-2 and 5-3, Bank A is current with E = 0,
the commit status, the hold, the view, the live counts and the marker are clear, the commit flags are clear, and a
START taken then is accepted. -/
def Obligations.PinResetLoadsTheDefaultProfiles : Prop :=
  ∀ (levels : InputLevels) (s : State), ∃ t, exec (.pinReset levels) s = .next t ∧
    (∀ p ∈ [t.epochUnit.shadow, t.epochUnit.bankA, t.epochUnit.bankB],
      p.pitch = 1024 ∧
      (∀ l : Lane, p.lanes[l] =
        { decisionOffset := 256, exitOffset := 4096, minLength := 1, maxLength := 200, minGap := 1, debounce := 0,
          activeHigh := true, defaultClass := 1, overlengthClass := 1 }) ∧
      (∀ n : Channel, p.channels[n] =
        { offset := 0, width := 1, lead := 0, recovery := 0, policy := .refuse, classMask := 0xFE })) ∧
    t.epochUnit.current = .a ∧ t.epochUnit.epoch = 0 ∧
    t.epochUnit.pending = false ∧ t.epochUnit.rejected = false ∧ t.epochUnit.deferral = false ∧
    t.epochUnit.lastResult = .none ∧ t.epochUnit.check = { number := 0, index := 0 } ∧
    t.epochUnit.hold = false ∧ t.epochUnit.view = .shadow ∧
    (∀ bank : Bank, liveCount bank t = 0) ∧ t.window.frameOpen = false ∧
    (∀ f : Flag, stickySet f t = true ↔ f = .powerOn) ∧
    validate (currentBank t) t = none ∧
    ∀ u, exec .start { t with window := { t.window with csn := true } } = .next u →
      u.engine.state = .running ∧ u.engine.lastResult = .accepted

/-- At pin reset the motion unit, the detectors, the table, the verdict unit, the schedule, the channels, the engine,
the queue, the interrupt unit and the window with its read snapshots take their reset values; every line is low and
IRQN is high. That the byte SDO shifts out next is 0 is the model's choice (assumption 16). -/
def Obligations.PinResetValuesOfTheOtherBlocks : Prop :=
  ∀ (levels : InputLevels) (s : State), ∃ t, exec (.pinReset levels) s = .next t ∧
    t.motion =
      { recorded := { encA := levels.encA, encB := levels.encB }, decodeMode := .x4, invert := false, backlash := 8,
        phaseLimit := 4, p := 0, h := 0, m := 1024, phaseErrors := 0, windowCount := 0,
        history := { w0 := 0, w1 := 0, w2 := 0, w3 := 0 }, speed := 0, tick := 0, windowEnd := 1024, reports := [] } ∧
    t.det = levels.det ∧ t.detectors.enabled = 0xF ∧
    (∀ l : Lane, detectorOf l t = { state := .clear, edge := none, gap := none, nextTag := 0 }) ∧
    t.table.entries = [] ∧ (∀ l : Lane, t.table.laneList[l] = []) ∧ t.table.doneList = [] ∧
    (∀ l : Lane, t.table.counters[l] = { confirmed := 0, outcomes := 0, dropped := 0 }) ∧
    t.table.inspection = { slot := 0, entry := none, pendingCount := 0 } ∧
    t.verdicts = { laneByte := 0, tagLow := 0, tagHigh := 0, classByte := 0, fifo := [], exceptionCount := 0 } ∧
    t.schedule = [] ∧
    (∀ n : Channel, t.channels[n].config = { mode := .off, lane := 0, activeHigh := true, unit := .counts } ∧
      t.channels[n].state = .idle ∧ outLine n t = false) ∧
    t.engine = { state := .stopped, frozenFrom := none, lastCommand := 0, lastResult := .none,
                 fault := { cause := .none, prior := .stopped, further := 0, p := 0, h := 0 } } ∧
    t.queue = { records := [], threshold := 1, lost := 0 } ∧
    (∀ f : Flag, (flagSet f t = true ↔ f = .powerOn) ∧
      (t.interrupts.enables.getLsbD f.position = true ↔ f = .reportLevel ∨ f = .fault)) ∧
    irqActive t = false ∧
    t.window = {
      csn := levels.csn, frame := .idle, frameOpen := false, lastRefused := 0, shiftOut := 0,
      snapshots := {
        fault := { cause := .none, prior := .stopped, further := 0, p := 0, h := 0 }, lastRefused := 0, p := 0, h := 0,
        speed := 0, epoch := 0, verdictExceptions := 0, lost := 0,
        counters := Vector.replicate 4 { confirmed := 0, outcomes := 0, dropped := 0 } } } ∧
    t.pending = s.pending ∧ t.freeCount = s.freeCount

/-- ENGINE_RESET empties the table, the schedule, the FIFO, the report queue and the detectors, sets H to P and M one
pitch beyond, clears every flag but POWER_ON, and keeps the configuration, the snapshots and the frame in progress.
That fault reports on their way stay so is the model's choice (assumption 12). -/
def Obligations.EngineResetKeepsTheConfiguration : Prop :=
  ∀ s : State, s.window.takesWrite 0x0004 = true → ∃ t, exec .engineReset s = .next t ∧
    t.motion = { s.motion with h := s.motion.p, m := s.motion.p + (currentBank s).pitch, phaseErrors := 0 } ∧
    t.det = s.det ∧ t.detectors.enabled = s.detectors.enabled ∧
    (∀ l : Lane, detectorOf l t = { state := .clear, edge := none, gap := none, nextTag := 0 }) ∧
    t.table.entries = [] ∧ (∀ l : Lane, t.table.laneList[l] = []) ∧ t.table.doneList = [] ∧
    (∀ l : Lane, t.table.counters[l] = { confirmed := 0, outcomes := 0, dropped := 0 }) ∧
    t.table.inspection = s.table.inspection ∧
    t.verdicts = { laneByte := 0, tagLow := 0, tagHigh := 0, classByte := 0, fifo := [], exceptionCount := 0 } ∧
    t.epochUnit = { s.epochUnit with deferral := false } ∧ t.schedule = [] ∧
    (∀ n : Channel, t.channels[n] = { s.channels[n] with state := .idle } ∧
      outLine n t = !s.channels[n].config.activeHigh) ∧
    t.engine = { state := .stopped, frozenFrom := none, lastCommand := 6, lastResult := .accepted,
                 fault := { cause := .none, prior := .stopped, further := 0, p := 0, h := 0 } } ∧
    t.queue = { records := [], threshold := s.queue.threshold, lost := 0 } ∧
    (∀ f : Flag, stickySet f t = (f = .powerOn && stickySet f s)) ∧ t.interrupts.enables = s.interrupts.enables ∧
    t.window = s.window.afterWrite ∧ t.pending = s.pending ∧ t.freeCount = s.freeCount

/-! ### The motion unit -/

/-- LEGAL_TRANSITION: a change of ENCA is forward where the two phases are equal before it, a change of ENCB where
they differ; X1 counts the changes of ENCA with ENCB low, X2 the changes of ENCA, X4 all; invert reverses the count; P
moves by the count; a reverse count after which the backlash first exceeds the allowance raises REVERSAL out of
STOPPED (the report joins those on their way, assumption 12). Nothing else changes. -/
def Obligations.LegalTransitionMovesP : Prop :=
  ∀ (phase : EncoderPhase) (s : State),
    let r := s.motion.recorded
    let sample : Phases :=
      match phase with
      | .encA => { r with encA := !r.encA }
      | .encB => { r with encB := !r.encB }
    let leads : Bool := decide (phase = .encA) == (r.encA == r.encB)
    let counted : Bool :=
      match s.motion.decodeMode with
      | .x1 => decide (phase = .encA) && !r.encB
      | .x2 => decide (phase = .encA)
      | .x4 => true
    let forward : Bool := leads != s.motion.invert
    let p := if counted then (if forward then s.motion.p + 1 else s.motion.p - 1) else s.motion.p
    let beyond (x : Word) : Bool :=
      decide (s.motion.backlash.toNat < (s.motion.h - x).toNat ∧ (s.motion.h - x).toNat < 2 ^ 31)
    let raised : Bool := counted && !forward && beyond p && !beyond s.motion.p && decide (s.engine.state ≠ .stopped)
    exec (.legalTransition phase) s = .next { s with motion := { s.motion with
      recorded := sample, p := p,
      reports := s.motion.reports ++ if raised then [{ cause := .reversal, p := p, h := s.motion.h }] else [] } }

/-- R3: with the direction invert at its other value, a legal transition moves P by the opposite count, and an illegal
one has the same effect. -/
def Obligations.InvertReversesEveryCount : Prop :=
  ∀ (phase : EncoderPhase) (s t u : State),
    exec (.legalTransition phase) s = .next t →
    exec (.legalTransition phase) { s with motion := { s.motion with invert := !s.motion.invert } } = .next u →
      u.motion.p - s.motion.p = s.motion.p - t.motion.p ∧ u.motion.recorded = t.motion.recorded ∧
      (t.motion.p = s.motion.p ∨ t.motion.p = s.motion.p + 1 ∨ t.motion.p = s.motion.p - 1) ∧
      ∀ v, exec .illegalTransition s = .next v →
        exec .illegalTransition { s with motion := { s.motion with invert := !s.motion.invert } } =
          .next { v with motion := { v.motion with invert := !s.motion.invert } }

/-- R5: P moves by one at each count, in its direction and in every engine state; it is 0 after pin reset; no other
command moves it; a write of it is refused, and it is read from 0x0100 through the read snapshot. -/
def Obligations.RawPositionMovesOnlyByCounts : Prop :=
  (∀ (c : Instr) (s t : State), exec c s = .next t →
    t.motion.p =
      match c with
      | .legalTransition phase =>
        match directedCount s.motion (s.motion.recorded.flip phase) with
        | some true => s.motion.p + 1
        | some false => s.motion.p - 1
        | none => s.motion.p
      | .pinReset _ => 0
      | _ => s.motion.p) ∧
  (∀ (k : Fin 4) (v : Byte) (s : State), s.window.takesWrite (BitVec.ofNat 16 (0x0100 + k.val)) = true →
    exec (.registerWrite (BitVec.ofNat 16 (0x0100 + k.val)) v) s = .next { s with
      interrupts := { s.interrupts with sticky := s.interrupts.sticky ||| Flag.accessErr.bit },
      window := ({ s.window with lastRefused := BitVec.ofNat 16 (0x0100 + k.val) }).afterWrite }) ∧
  (∀ (k : Fin 4) (s : State), s.window.takesRead (BitVec.ofNat 16 (0x0100 + k.val)) = true →
    let snap : Word := if k.val = 0 then s.motion.p else s.window.snapshots.p
    exec (.snapshotRead (BitVec.ofNat 16 (0x0100 + k.val))) s = .next { s with
      window := ({ s.window with snapshots := { s.window.snapshots with p := snap } }).afterRead
        (BitVec.ofNat 16 (0x0100 + k.val)) ((snap >>> (8 * k.val)).setWidth 8) })

/-- R6: the phase-error count rises at each illegal transition in every engine state and saturates at 255, with P and
H as they were; it is cleared at pin reset, at engine reset and at an accepted START or RESUME; no other command,
accepted or refused, changes it; a write of it is refused, and it is read at 0x010A. The transition changes nothing
but the recorded sample, in both phases, and the count, and raises ENCODER_PHASE out of STOPPED where the count then
equals the limit (R7). -/
def Obligations.PhaseErrorCountFollowsIllegalTransitions : Prop :=
  (∀ s : State,
    let n : Byte := if s.motion.phaseErrors = 255 then 255 else s.motion.phaseErrors + 1
    exec .illegalTransition s = .next { s with motion := { s.motion with
      recorded := { encA := !s.motion.recorded.encA, encB := !s.motion.recorded.encB }, phaseErrors := n,
      reports := s.motion.reports ++
        if n.toNat = s.motion.phaseLimit.toNat ∧ s.engine.state ≠ .stopped then
          [{ cause := .encoderPhase, p := s.motion.p, h := s.motion.h }] else [] } }) ∧
  (∀ (c : Instr) (s t : State), exec c s = .next t →
    (c = .illegalTransition →
      t.motion.phaseErrors = (if s.motion.phaseErrors = 255 then 255 else s.motion.phaseErrors + 1) ∧
      t.motion.p = s.motion.p ∧ t.motion.h = s.motion.h) ∧
    ((∃ levels, c = .pinReset levels) ∨ issues c 6 s = true ∨
      ((issues c 1 s = true ∨ issues c 3 s = true) ∧ t.engine.lastResult = .accepted) → t.motion.phaseErrors = 0) ∧
    (c ≠ .illegalTransition → (∀ levels, c ≠ .pinReset levels) → issues c 6 s = false →
      ((issues c 1 s = true ∨ issues c 3 s = true) → t.engine.lastResult ≠ .accepted) →
      t.motion.phaseErrors = s.motion.phaseErrors)) ∧
  (∀ (v : Byte) (s : State), s.window.takesWrite 0x010A = true →
    exec (.registerWrite 0x010A v) s = .next { s with
      interrupts := { s.interrupts with sticky := s.interrupts.sticky ||| Flag.accessErr.bit },
      window := ({ s.window with lastRefused := 0x010A }).afterWrite }) ∧
  (∀ s : State, s.window.takesRead 0x010A = true →
    exec (.snapshotRead 0x010A) s = .next { s with window := s.window.afterRead 0x010A s.motion.phaseErrors })

/-- H moves only by an advance taken in RUNNING or DRAINING with P ahead of it, one count each, and is otherwise set
to P at an accepted START and at engine reset and to 0 at pin reset. -/
def Obligations.TrackingPositionMovesOnlyByAdvances : Prop :=
  ∀ (c : Instr) (s t : State), exec c s = .next t →
    (∀ first, c = .advance first → t.motion.h =
      if (s.engine.state = .running ∨ s.engine.state = .draining) ∧
         1 ≤ (s.motion.p - s.motion.h).toNat ∧ (s.motion.p - s.motion.h).toNat < 2 ^ 31
      then s.motion.h + 1 else s.motion.h) ∧
    ((∃ levels, c = .pinReset levels) → t.motion.h = 0) ∧
    (issues c 6 s = true ∨ issues c 1 s = true ∧ t.engine.lastResult = .accepted → t.motion.h = s.motion.p) ∧
    ((∀ first, c ≠ .advance first) → (∀ levels, c ≠ .pinReset levels) → issues c 6 s = false →
      (issues c 1 s = true → t.engine.lastResult ≠ .accepted) → t.motion.h = s.motion.h)

/-- SPEED_WINDOW_END: the window's count joins the history as its newest, the estimate becomes the mean of the four
values rounded down, the count restarts at 0 and the next window ends 1024 ticks on. Nothing else changes but the tick
(assumption 7). -/
def Obligations.SpeedEstimateIsTheMeanOfFourWindows : Prop :=
  ∀ s : State, ∃ v : Half,
    v.toNat = (s.motion.history.w1.toNat + s.motion.history.w2.toNat + s.motion.history.w3.toNat +
      s.motion.windowCount.toNat) / 4 ∧
    exec .speedWindowEnd s = .next { s with motion := { s.motion with
      history := { w0 := s.motion.history.w1, w1 := s.motion.history.w2, w2 := s.motion.history.w3,
                   w3 := s.motion.windowCount },
      speed := v, windowCount := 0, tick := max s.motion.tick s.motion.windowEnd,
      windowEnd := s.motion.windowEnd + 1024 } }

/-! ### An advance of H -/

/-- ADVANCE: where H may not advance nothing changes (the model's choice, assumption 11); otherwise, in whatever order
the work is taken (assumption 2), H steps one count, the window count rises and saturates, M moves on by the pitch of
the bank then current exactly at the advance that reaches it, the engine stays as it is or completes its drain, the
latter only with no fault report on its way (the model's choice, assumption 6), and every block that takes no position
keeps its state. -/
def Obligations.AdvanceStepsHOneCount : Prop :=
  ∀ (first : List AdvanceWork) (s : State),
    let may := (s.engine.state = .running ∨ s.engine.state = .draining) ∧
      1 ≤ (s.motion.p - s.motion.h).toNat ∧ (s.motion.p - s.motion.h).toNat < 2 ^ 31
    (¬ may → exec (.advance first) s = .next s) ∧
    (may → ∃ t, exec (.advance first) s = .next t ∧
      t.motion = { s.motion with
        h := s.motion.h + 1, m := t.motion.m,
        windowCount := if s.motion.windowCount = 65535 then 65535 else s.motion.windowCount + 1 } ∧
      (t.motion.m = s.motion.m ∨
        s.motion.h + 1 = s.motion.m ∧ t.motion.m = s.motion.m + (currentBank t).pitch) ∧
      (s.motion.h + 1 = s.motion.m → t.motion.m = s.motion.m + (currentBank t).pitch ∨ t.engine.state = .stopped) ∧
      (t.engine = s.engine ∨
        s.engine.state = .draining ∧ liveEntries t = 0 ∧ t.schedule = [] ∧ s.motion.reports = [] ∧
          stickySet .stoppedReached t = true ∧
          t.engine = { s.engine with state := .stopped, frozenFrom := none }) ∧
      t.det = s.det ∧ t.detectors.enabled = s.detectors.enabled ∧ t.verdicts = s.verdicts ∧
      (∀ n : Channel, t.channels[n].config = s.channels[n].config) ∧ t.table.inspection = s.table.inspection ∧
      t.queue.threshold = s.queue.threshold ∧ t.interrupts.enables = s.interrupts.enables ∧ t.window = s.window ∧
      t.pending = s.pending ∧ t.freeCount = s.freeCount)

/-- ADVANCE with nothing due (no gap end, no overlength, no due action, no COUNTS pulse end, no decision, no exit, no
mark, no drain to complete, and no OUTCOME record to post: none waits, or the queue is full, or a verdict record
waits, which leaves the posting to OUTCOME_POST by the model's choice of assumption 13, and `first` names no posting): H
steps one count and is counted in the speed window, and nothing else changes. -/
def Obligations.QuietAdvanceMovesOnlyH : Prop :=
  ∀ (first : List AdvanceWork) (s : State), canAdvance s = true →
    s.motion.h + 1 ≠ s.motion.m → lanesQuietAt (s.motion.h + 1) s = true → actionsQuietAt (s.motion.h + 1) s = true →
    entriesQuietAt (s.motion.h + 1) s = true →
    (s.table.doneList = [] ∨ 64 ≤ s.queue.records.length ∨ s.verdicts.fifo ≠ [] ∧ .posts ∉ first) →
    drainOpen s = true →
    exec (.advance first) s = .next { s with motion := { s.motion with
      h := s.motion.h + 1,
      windowCount := if s.motion.windowCount = 65535 then 65535 else s.motion.windowCount + 1 } }

/-- The commit attempt of a pitch mark (Table 5-7), in whatever order the work of the advance is taken: none unless
pending is set with the hold and the rejected mark clear; deferred while a frame with a staged write is open; deferred
while an entry that does not leave at this advance is bound to the previous bank; with none bound, rejected with its
check code or committed, with its COMMIT record offered. A commit that changes a lane's active level is a raw input
change on that lane, if it is enabled, taken at this advance: it drops a pending edge, or creates one with the
debounce of the new bank, or with a debounce of 0 takes the edge at once; a lane whose active level stays sees no
change (lanes with no gap end and no overlength at this advance). Only where a drain completes first is the mark left
to START (R17). -/
def Obligations.PitchMarkSettlesTheCommitAttempt : Prop :=
  ∀ (first : List AdvanceWork) (s : State), TableSound s → canAdvance s = true → s.motion.h + 1 = s.motion.m →
    let previous := s.epochUnit.current.other
    let due : Bool := s.epochUnit.pending && !s.epochUnit.hold && !s.epochUnit.rejected
    let bound : Bool := s.table.entries.any fun x =>
      isLive x.2 && decide (x.2.bank = previous) && !reached (s.motion.h + 1) (exitPosition x.2 s)
    ∃ t, exec (.advance first) s = .next t ∧
      ((s.engine.state = .draining ∧ t.engine.state = .stopped ∧ t.motion.m = s.motion.m ∧
          t.epochUnit = s.epochUnit) ∨
        t.motion.m = s.motion.m + (currentBank t).pitch ∧
        (due = false → t.epochUnit = s.epochUnit) ∧
        (due = true → s.window.frameOpen = true →
          t.epochUnit = { s.epochUnit with deferral := true, lastResult := .deferredFrame } ∧
          stickySet .commitDeferred t = (stickySet .commitDeferred s || !s.epochUnit.deferral)) ∧
        (due = true → s.window.frameOpen = false → bound = true →
          t.epochUnit = { s.epochUnit with deferral := true, lastResult := .deferredReferenced } ∧
          stickySet .commitDeferred t = (stickySet .commitDeferred s || !s.epochUnit.deferral)) ∧
        (due = true → s.window.frameOpen = false → liveCount previous s = 0 →
          match validate s.epochUnit.shadow s with
          | some code =>
            t.epochUnit = { s.epochUnit with rejected := true, deferral := false, lastResult := .rejected, check := code } ∧
            stickySet .commitRejected t = true
          | none =>
            t.epochUnit = { s.epochUnit with
              bankA := if previous = .a then s.epochUnit.shadow else s.epochUnit.bankA,
              bankB := if previous = .b then s.epochUnit.shadow else s.epochUnit.bankB,
              current := previous, epoch := s.epochUnit.epoch + 1, pending := false, rejected := false, deferral := false,
              lastResult := .committed, check := { number := 0, index := 0 } } ∧
            stickySet .commitDone t = true ∧
            Offered (.commit (s.epochUnit.epoch + 1) s.motion.m) s t ∧
            (t.engine.state ≠ .stopped → lanesQuietAt (s.motion.h + 1) s = true → ∀ l : Lane,
              let d := detectorOf l s
              let new := s.epochUnit.shadow.lanes[l]
              let changed : Bool := s.detectors.enabled.getLsbD l.val &&
                (new.activeHigh != (currentBank s).lanes[l].activeHigh)
              (changed = false → detectorOf l t = d) ∧
              (changed = true → d.edge ≠ none → detectorOf l t = { d with edge := none }) ∧
              (changed = true → d.edge = none → new.debounce ≠ 0 → detectorOf l t = { d with
                edge := some { latched := s.motion.m, expires := s.motion.tick + new.debounce.toNat,
                               inGap := decide (d.state = .gap) } }) ∧
              (changed = true → d.edge = none → new.debounce = 0 →
                (detectorOf l t).edge = none ∧ takenLevel (detectorOf l t).state = !takenLevel d.state))))

/-- PER_PITCH placement: at a pitch mark in RUNNING every PER_PITCH channel gets exactly one action at the mark
position plus its offset in the bank then current (one count beyond the mark for an offset of 0), with the copies of
that bank, and no other; in DRAINING none is placed. That is with room in the schedule and no decision at the same
advance. With the schedule full or filling, at an advance with no other work, the channels get their actions in
ascending number while it holds fewer than 128, and each that finds it full raises PITCH_SCHEDULE_FULL at the mark
position with no lane and no tag. -/
def Obligations.PitchMarkPlacesThePeriodicActions : Prop :=
  ∀ (first : List AdvanceWork) (s : State), LineSound s → canAdvance s = true → s.motion.h + 1 = s.motion.m →
    let action (t : State) (n : Channel) : Action :=
      let prof := (currentBank t).channels[n]
      { channel := n, item := none, start := if prof.offset = 0 then s.motion.m + 1 else s.motion.m + prof.offset,
        width := prof.width, unit := s.channels[n].config.unit, policy := prof.policy, recovery := prof.recovery,
        state := .pending false }
    (s.schedule.length ≤ 112 →
      (∀ x ∈ s.table.entries, x.2.state = .opening ∨ x.2.state = .tracked ∨ x.2.state = .held →
        reached (s.motion.h + 1) (decisionPosition x.2 s) = false) →
      ∃ t, exec (.advance first) s = .next t ∧
        (s.engine.state = .running → ∀ n : Channel, s.channels[n].config.mode = .perPitch →
          t.schedule.count (action t n) = s.schedule.count (action t n) + 1 ∧
          ∀ b : Action, b.channel = n → b.state = .pending false → b ≠ action t n →
            t.schedule.count b ≤ s.schedule.count b) ∧
        (s.engine.state = .draining → ∀ a ∈ t.schedule, s.channels[a.channel].config.mode = .perPitch →
          ∃ b ∈ s.schedule, b.channel = a.channel ∧ b.start = a.start)) ∧
    (s.engine.state = .running → actionsQuietAt (s.motion.h + 1) s = true → entriesQuietAt (s.motion.h + 1) s = true →
      lanesQuietAt (s.motion.h + 1) s = true → (attemptDue s = true → ∀ l : Lane, s.epochUnit.shadow.lanes[l].debounce ≠ 0) →
      let channels := (List.finRange 16).filter fun n => s.channels[n].config.mode = .perPitch
      let free := 128 - s.schedule.length
      ∃ t, exec (.advance first) s = .next t ∧
        t.schedule.Perm (s.schedule ++ (channels.take free).map (action t)) ∧
        (free < channels.length → stickySet .exception t = true ∧
          Offered (.exception .pitchScheduleFull none none s.motion.m) s t) ∧
        (s.queue.records.length + channels.length ≤ 55 →
          (t.queue.records.drop s.queue.records.length).count (.exception .pitchScheduleFull none none s.motion.m) =
            channels.length - free))

/-- A lane that is not COVERED, at an advance that is no mark or a mark whose commit attempt, if it makes one, does not
change the active level of the lane: in GAP it goes to CLEAR and drops its gap reference at the advance that reaches its
gap end, and otherwise it stays as it is; only a drain that completes first leaves the gap as it was. -/
def Obligations.GapEndsAtItsPosition : Prop :=
  ∀ (first : List AdvanceWork) (s : State) (l : Lane), canAdvance s = true →
    (s.motion.h + 1 = s.motion.m → attemptDue s = true →
      s.epochUnit.shadow.lanes[l].activeHigh = (currentBank s).lanes[l].activeHigh) →
    (detectorOf l s).state ≠ .covered →
    ∃ t, exec (.advance first) s = .next t ∧
      (t.engine.state ≠ .stopped →
        detectorOf l t =
          match (detectorOf l s).state, (detectorOf l s).gap with
          | .gap, some g =>
            if (s.motion.h + 1 - (g.trailing + g.minGap.setWidth 32)).toNat < 2 ^ 31 then
              { detectorOf l s with state := .clear, gap := none }
            else detectorOf l s
          | _, _ => detectorOf l s)

/-- Overlength: at the advance at which H less the leading position exceeds the max length of its bank, the OPENING
entry is confirmed into HELD with that length, OVERLENGTH and a FORCED verdict of the overlength class; the lane goes
to BLOCKED, its confirmed count and next tag rise, and a DETECT record is offered. An entry not yet beyond it stays
OPENING. The statement takes in an item that was beyond the max length before the advance, its leading edge taken late:
that it is overlength at the next advance is the model's choice (assumption 25). The advance may be a mark whose commit
attempt, if it makes one, does not change the active level of the lane. -/
def Obligations.OverlengthIsConfirmedWithAForcedVerdict : Prop :=
  ∀ (first : List AdvanceWork) (s : State) (l : Lane) (slot : Slot) (e : Entry),
    LineSound s → canAdvance s = true →
    (s.motion.h + 1 = s.motion.m → attemptDue s = true →
      s.epochUnit.shadow.lanes[l].activeHigh = (currentBank s).lanes[l].activeHigh) →
    (slot, e) ∈ s.table.entries → e.lane = l → e.state = .opening →
    reached (s.motion.h + 1) (decisionPosition e s) = false →
    let p := laneProfileOf e s
    ∃ t e', exec (.advance first) s = .next t ∧ entryAt slot t = some e' ∧
      e'.lane = l ∧ e'.epoch = e.epoch ∧ e'.bank = e.bank ∧ e'.leading = e.leading ∧
      (p.maxLength.toNat < (s.motion.h + 1 - e.leading).toNat → ∃ tag : Half,
        e'.state = .held ∧ e'.tag = some tag ∧ e'.length = some p.maxLength ∧
        e'.verdict = some { cls := p.overlengthClass, source := .forced } ∧ e'.flags.overlength = true ∧
        detectorOf l t = { detectorOf l s with state := .blocked, nextTag := tag + 1 } ∧
        ((∀ x ∈ s.table.entries, x.2.lane = l → x.2.tag ≠ some (detectorOf l s).nextTag) →
          tag = (detectorOf l s).nextTag) ∧
        t.table.counters[l].confirmed = s.table.counters[l].confirmed + 1 ∧
        Offered (.detect l tag e.epoch e.leading p.maxLength true) s t) ∧
      ((s.motion.h + 1 - e.leading).toNat ≤ p.maxLength.toNat →
        e'.state = .opening ∧ e'.tag = none ∧ e'.verdict = none ∧ detectorOf l t = detectorOf l s)

/-- The decision: at the advance that finds its decision position reached, a TRACKED or HELD entry goes to SCHEDULED
with the verdict it has, or the default class of its bank with source DEFAULT, and keeps the rest of its identity. An
entry whose decision position is not reached stays as it was. -/
def Obligations.DecisionSettlesTheVerdict : Prop :=
  ∀ (first : List AdvanceWork) (s : State) (slot : Slot) (e : Entry),
    LineSound s → canAdvance s = true → (slot, e) ∈ s.table.entries → e.state = .tracked ∨ e.state = .held →
    reached (s.motion.h + 1) (exitPosition e s) = false →
    ∃ t e', exec (.advance first) s = .next t ∧ entryAt slot t = some e' ∧
      e'.lane = e.lane ∧ e'.tag = e.tag ∧ e'.length = e.length ∧ e'.epoch = e.epoch ∧ e'.bank = e.bank ∧
      e'.leading = e.leading ∧
      (reached (s.motion.h + 1) (decisionPosition e s) = true →
        e'.state = .scheduled ∧
        e'.verdict =
          match e.verdict with
          | some v => some v
          | none => some { cls := (laneProfileOf e s).defaultClass, source := .laneDefault }) ∧
      (reached (s.motion.h + 1) (decisionPosition e s) = false → e'.state = e.state ∧ e'.verdict = e.verdict)

/-- VERDICT placement at a decision: every VERDICT channel of the entry's lane whose mask in the entry's bank includes
the class gets an action at leading position + offset - lead counts, moved to one count beyond the decision position
where it lies at or before it, and then to one beyond H where that has been reached. The lead counts are lead times
speed estimate over 1024, rounded down. No other VERDICT channel gets an action for the entry: not one of another
lane, nor one whose mask leaves the class out, as the default mask leaves out class 0; and the entry gains LATE_START
exactly where a start was moved. That is with room in the schedule and no other decision. With the schedule full or
filling, at an advance that is no mark and at which no other action and no exit is due, the channels get their actions
in ascending number while it holds fewer than 128, and where one finds it full the entry gains SCHEDULE_FULL. -/
def Obligations.DecisionPlacesTheVerdictActions : Prop :=
  ∀ (first : List AdvanceWork) (s : State) (slot : Slot) (e : Entry),
    LineSound s → canAdvance s = true → (slot, e) ∈ s.table.entries → e.state = .tracked ∨ e.state = .held →
    reached (s.motion.h + 1) (exitPosition e s) = false → reached (s.motion.h + 1) (decisionPosition e s) = true →
    (∀ x ∈ s.table.entries, x.1 ≠ slot → x.2.state = .opening ∨ x.2.state = .tracked ∨ x.2.state = .held →
      reached (s.motion.h + 1) (decisionPosition x.2 s) = false) →
    let cls : Sys2Proof.Class :=
      match e.verdict with
      | some v => v.cls
      | none => (laneProfileOf e s).defaultClass
    let prof (n : Channel) : ChannelProfile := (bankOf e.bank s).channels[n]
    let serves (n : Channel) : Bool := decide (s.channels[n].config.mode = .verdict) &&
      decide (s.channels[n].config.lane = e.lane) && (prof n).classMask.getLsbD cls.toNat
    let d := decisionPosition e s
    let wanted (n : Channel) : Word :=
      e.leading + (prof n).offset - BitVec.ofNat 32 ((prof n).lead.toNat * s.motion.speed.toNat / 1024)
    let beyond (n : Channel) : Bool := decide (1 ≤ (wanted n - d).toNat ∧ (wanted n - d).toNat < 2 ^ 31)
    let start (n : Channel) : Word := if beyond n then wanted n else d + 1
    let passed (n : Channel) : Bool := reached (s.motion.h + 1) (start n)
    let moved (n : Channel) : Bool := !beyond n || passed n
    let action (n : Channel) : Action :=
      { channel := n, item := some slot, start := if passed n then s.motion.h + 2 else start n, width := (prof n).width,
        unit := s.channels[n].config.unit, policy := (prof n).policy, recovery := (prof n).recovery,
        state := .pending false }
    (s.schedule.length ≤ 112 → ∃ t e', exec (.advance first) s = .next t ∧ entryAt slot t = some e' ∧
      (∀ n : Channel, serves n = true → action n ∈ t.schedule) ∧
      (∀ a ∈ t.schedule, a.item = some slot → s.channels[a.channel].config.mode ≠ .perItem →
        serves a.channel = true ∧ a = action a.channel) ∧
      (e'.flags.lateStart = true ↔ e.flags.lateStart = true ∨ ∃ n : Channel, serves n = true ∧ moved n = true)) ∧
    (s.motion.h + 1 ≠ s.motion.m → actionsQuietAt (s.motion.h + 1) s = true →
      (∀ x ∈ s.table.entries, x.2.state = .scheduled → reached (s.motion.h + 1) (exitPosition x.2 s) = false) →
      let channels := (List.finRange 16).filter serves
      let free := 128 - s.schedule.length
      ∃ t e', exec (.advance first) s = .next t ∧ entryAt slot t = some e' ∧
        t.schedule.Perm (s.schedule ++ (channels.take free).map action) ∧
        (e'.flags.scheduleFull = true ↔ e.flags.scheduleFull = true ∨ free < channels.length) ∧
        (e'.flags.lateStart = true ↔ e.flags.lateStart = true ∨ ∃ n ∈ channels.take free, moved n = true))

/-- The exit: at the advance that finds its exit position reached, a SCHEDULED entry leaves the live states, and so does
a TRACKED or HELD entry whose decision position is reached too, after its decision at the same advance (R52): no action
stays linked to it, it has its verdict or the lane default, and either it waits at DONE in the DONE list with a full queue
or its OUTCOME record stands in the queue and its slot is FREE. A deferred action it still had, or a VERDICT action
placed at that decision, gives MISSED (with room in the schedule and no other decision). While a verdict record waits in
the FIFO the entry stays at DONE for OUTCOME_POST, so that a take may come before its posting, unless `first` names the
posting (assumption 13). The advance may be a mark, if no commit at it can make an edge that is taken at once. -/
def Obligations.ExitRetiresTheEntry : Prop :=
  ∀ (first : List AdvanceWork) (s : State) (slot : Slot) (e : Entry),
    LineSound s → canAdvance s = true →
    (s.motion.h + 1 = s.motion.m → attemptDue s = true → ∀ l : Lane, s.epochUnit.shadow.lanes[l].debounce ≠ 0 ∨
      s.epochUnit.shadow.lanes[l].activeHigh = (currentBank s).lanes[l].activeHigh) →
    (slot, e) ∈ s.table.entries →
    e.state = .scheduled ∨
      (e.state = .tracked ∨ e.state = .held) ∧ reached (s.motion.h + 1) (decisionPosition e s) = true →
    reached (s.motion.h + 1) (exitPosition e s) = true →
    let verdict : Verdict :=
      match e.verdict with
      | some v => v
      | none => { cls := (laneProfileOf e s).defaultClass, source := .laneDefault }
    let alone : Prop := s.schedule.length ≤ 112 ∧ ∀ x ∈ s.table.entries, x.1 ≠ slot →
      x.2.state = .opening ∨ x.2.state = .tracked ∨ x.2.state = .held →
      reached (s.motion.h + 1) (decisionPosition x.2 s) = false
    let served : Prop := ∃ n : Channel, s.channels[n].config.mode = .verdict ∧ s.channels[n].config.lane = e.lane ∧
      ((bankOf e.bank s).channels[n]).classMask.getLsbD verdict.cls.toNat = true
    let missed : Prop := (∃ a ∈ s.schedule, a.item = some slot ∧ a.state = .pending true) ∨
      e.state ≠ .scheduled ∧ alone ∧ served
    ∃ t, exec (.advance first) s = .next t ∧
      (∀ a ∈ t.schedule, a.item ≠ some slot) ∧ (∀ l : Lane, slot ∉ t.table.laneList[l]) ∧
      ∃ f : EntryFlags, ∃ fired : BitVec 16, (missed → f.missed = true) ∧ e.fired &&& fired = e.fired ∧
        ((entryAt slot t = some { e with state := .done, verdict := some verdict, flags := f, fired := fired } ∧
            slot ∈ t.table.doneList ∧ (t.queue.records.length = 64 ∨ s.verdicts.fifo ≠ [])) ∨
          ((s.verdicts.fifo = [] ∨ .posts ∈ first) ∧ entryAt slot t = none ∧ slot ∉ t.table.doneList ∧
            ∃ tag ∈ e.tag, .outcome e.lane tag e.epoch e.leading (some verdict) fired f ∈ t.queue.records))

/-- Table 7-4: the actions that fall due on a channel, in schedule order (R117). On an IDLE channel the first fires, with
its end fixed from H or the tick, and the rest meet it ACTIVE. On an ACTIVE channel each JOIN action extends the pulse to
the later end and each REFUSE action is refused; in RECOVERY each JOIN action is deferred and each REFUSE action refused.
A COUNTS pulse that ends at this advance ends first. The entry of a linked action gets the flag or the fired-set member;
a refused action without one raises PITCH_COLLISION. None of them stays due. -/
def Obligations.DueActionMeetsItsChannel : Prop :=
  ∀ (first : List AdvanceWork) (s : State) (n : Channel) (due : List Action),
    LineSound s → canAdvance s = true → s.motion.h + 1 ≠ s.motion.m →
    s.schedule.filter (dueOn n (s.motion.h + 1)) = due → due ≠ [] →
    (∀ a ∈ due, ∀ x ∈ s.table.entries, a.item = some x.1 → reached (s.motion.h + 1) (exitPosition x.2 s) = false) →
    let finish (a : Action) : PulseEnd :=
      match a.unit with
      | .counts => .position (s.motion.h + 1 + a.width.setWidth 32)
      | .microseconds => .time (s.motion.tick + a.width.toNat)
    let later (f g : PulseEnd) : PulseEnd :=
      match f, g with
      | .position x, .position y =>
        if (x - (s.motion.h + 1)).toNat < (y - (s.motion.h + 1)).toNat then .position y else .position x
      | .time x, .time y => .time (max x y)
      | f, _ => f
    let joining (l : List Action) : List Action := l.filter fun a => a.policy = .join
    let met : ChannelState :=
      match activeAction n s with
      | some b => if b.state = .active (.position (s.motion.h + 1)) then afterPulse s.motion.tick b.recovery else .active
      | none => s.channels[n].state
    ∃ t, exec (.advance first) s = .next t ∧ t.schedule.filter (dueOn n (s.motion.h + 1)) = [] ∧
      (let joined (l : List Action) : Prop := ∀ a ∈ joining l, ∀ slot ∈ a.item,
         ∃ e', entryAt slot t = some e' ∧ e'.fired.getLsbD n.val = true ∧ e'.flags.joined = true
       let refused (l : List Action) : Prop := ∀ a ∈ l, a.policy = .refuse →
         (∀ slot ∈ a.item, ∃ e', entryAt slot t = some e' ∧ e'.flags.collision = true) ∧
         (a.item = none → stickySet .exception t = true ∧
           Offered (.exception .pitchCollision none none (s.motion.h + 1)) s t)
       (met = .idle → ∀ a rest, due = a :: rest →
         t.channels[n].state = .active ∧
         { a with state := .active ((joining rest).foldl (fun f b => later f (finish b)) (finish a)) } ∈ t.schedule ∧
         (∀ slot ∈ a.item, ∃ e', entryAt slot t = some e' ∧ e'.fired.getLsbD n.val = true) ∧ joined rest ∧ refused rest) ∧
       (met = .active →
         t.channels[n].state = .active ∧
         (∀ b f, activeAction n s = some b → b.state = .active f → ∃ b' ∈ t.schedule, b'.channel = n ∧
           b'.start = b.start ∧ b'.recovery = b.recovery ∧
           b'.state = .active ((joining due).foldl (fun f a => later f (finish a)) f)) ∧
         joined due ∧ refused due) ∧
       (met ≠ .idle → met ≠ .active →
         t.channels[n].state = met ∧
         (∀ a ∈ joining due, { a with state := .pending true } ∈ t.schedule ∧
           ∀ slot ∈ a.item, ∃ e', entryAt slot t = some e' ∧ e'.flags.deferred = true) ∧
         refused due))

/-- A pulse in COUNTS ends at the advance that reaches its end: with no action due on its channel then, the ACTIVE
action is removed and the channel goes to RECOVERY with the action's own recovery, or to IDLE for a recovery of 0; a
pulse whose end is not reached goes on. -/
def Obligations.CountsPulseEndsAtItsPosition : Prop :=
  ∀ (first : List AdvanceWork) (s : State) (n : Channel) (b : Action) (finish : PulseEnd),
    LineSound s → canAdvance s = true → s.schedule.filter (dueOn n (s.motion.h + 1)) = [] →
    activeAction n s = some b → b.state = .active finish →
    ∃ t, exec (.advance first) s = .next t ∧
      (finish = .position (s.motion.h + 1) →
        activeAction n t = none ∧
        t.channels[n].state =
          if b.recovery = 0 then .idle else .recovery (s.motion.tick + b.recovery.toNat)) ∧
      (finish ≠ .position (s.motion.h + 1) →
        t.channels[n].state = .active ∧ ∃ b', activeAction n t = some b' ∧ b'.state = .active finish)

/-! ### The channels' own events -/

/-- MICROSECONDS_PULSE_END: the ACTIVE action is removed at its end time and the channel goes to RECOVERY with the
action's own recovery, or to IDLE for a recovery of 0; nothing else changes but the tick (assumption 7), and but that
a drain this completes enters STOPPED (assumption 6). A channel with no such pulse has no such event (assumption 11). -/
def Obligations.MicrosecondsPulseEndsAtItsTime : Prop :=
  ∀ (n : Channel) (s : State),
    ((∀ a ∈ s.schedule, a.channel = n → ∀ time, a.state ≠ .active (.time time)) →
      exec (.microsecondsPulseEnd n) s = .next s) ∧
    ∀ (a : Action) (time : Nat), activeAction n s = some a → a.state = .active (.time time) →
      let tick := max s.motion.tick time
      let u : State := { s with
        motion := { s.motion with tick := tick },
        schedule := s.schedule.eraseP (activeOn n),
        channels := s.channels.set n { s.channels[n] with
          state := if a.recovery = 0 then .idle else .recovery (tick + a.recovery.toNat) } }
      exec (.microsecondsPulseEnd n) s = .next (if drainOpen u then u else enterStopped u)

/-- RECOVERY_EXPIRY: the channel goes to IDLE; in RUNNING or DRAINING it takes back its deferred actions, the first
fires with its end counted from the expiry and the others are joined into it, which makes the end that of the widest;
their entries get the channel in their fired sets, and the joined ones JOINED. A channel not in RECOVERY has no such
event (assumption 11). -/
def Obligations.RecoveryExpiryTakesBackDeferredActions : Prop :=
  ∀ (n : Channel) (s : State),
    (∀ d, s.channels[n].state = .recovery d →
      let u : State := { s with
        motion := { s.motion with tick := max s.motion.tick d },
        channels := s.channels.set n { s.channels[n] with state := .idle } }
      ((s.engine.state ≠ .running ∧ s.engine.state ≠ .draining) ∨ s.schedule.filter (deferredOn n) = [] →
        exec (.recoveryExpiry n) s = .next u) ∧
      ∀ (a : Action) (rest : List Action), LineSound s → (s.engine.state = .running ∨ s.engine.state = .draining) →
        s.schedule.filter (deferredOn n) = a :: rest →
        let width := (rest.map fun x => x.width.toNat).foldl max a.width.toNat
        let finish : PulseEnd :=
          match a.unit with
          | .counts => .position (s.motion.h + BitVec.ofNat 32 width)
          | .microseconds => .time (max s.motion.tick d + width)
        ∃ t, exec (.recoveryExpiry n) s = .next t ∧ t.motion = u.motion ∧ t.engine = s.engine ∧
          t.channels = s.channels.set n { s.channels[n] with state := .active } ∧
          t.schedule.filter (deferredOn n) = [] ∧ { a with state := .active finish } ∈ t.schedule ∧
          t.schedule.length + rest.length = s.schedule.length ∧
          (∀ x ∈ a :: rest, ∀ slot ∈ x.item, ∃ e', entryAt slot t = some e' ∧ e'.fired.getLsbD n.val = true) ∧
          (∀ x ∈ rest, ∀ slot ∈ x.item, ∃ e', entryAt slot t = some e' ∧ e'.flags.joined = true)) ∧
    ((s.channels[n].state = .idle ∨ s.channels[n].state = .active) → exec (.recoveryExpiry n) s = .next s)

/-! ### The lane detectors -/

/-- RAW_INPUT_CHANGE: a level the line has already is no change. In STOPPED and FROZEN and on a disabled lane only the
line changes. In RUNNING and DRAINING, on an enabled lane, a change with a pending edge drops it, and one with none
creates an edge with the H of the change, the debounce of the current bank and the latched-in-GAP mark, and nothing
else changes. With no pending edge, and in STOPPED and FROZEN, DEBOUNCE_EXPIRY is no event (R24, assumption 11). -/
def Obligations.RawInputChangeMakesOrDropsThePendingEdge : Prop :=
  ∀ (l : Lane) (high : Bool) (s : State), drainOpen s = true →
    let d := detectorOf l s
    (d.edge = none ∨ s.engine.state = .stopped ∨ s.engine.state = .frozen → exec (.debounceExpiry l) s = .next s) ∧
    let debounce := (currentBank s).lanes[l].debounce
    let act : Bool := s.detectors.enabled.getLsbD l.val && decide (s.engine.state = .running ∨ s.engine.state = .draining)
    let u : State := { s with det := s.det.set l high }
    (s.det[l] = high → exec (.rawInputChange l high) s = .next s) ∧
    (s.det[l] ≠ high → act = false → exec (.rawInputChange l high) s = .next u) ∧
    (s.det[l] ≠ high → act = true → d.edge ≠ none →
      exec (.rawInputChange l high) s = .next { u with
        detectors := { s.detectors with lane := s.detectors.lane.set l { d with edge := none } } }) ∧
    (s.det[l] ≠ high → act = true → d.edge = none → debounce ≠ 0 →
      exec (.rawInputChange l high) s = .next { u with
        detectors := { s.detectors with lane := s.detectors.lane.set l { d with
          edge := some { latched := s.motion.h, expires := s.motion.tick + debounce.toNat,
                         inGap := decide (d.state = .gap) } } } })

/-- A debounce of 0 takes the edge at the change itself: RAW_INPUT_CHANGE is then the creation of the edge and its
DEBOUNCE_EXPIRY on the same tick in one. -/
def Obligations.ZeroDebounceTakesTheEdgeAtOnce : Prop :=
  ∀ (l : Lane) (high : Bool) (s : State),
    let d := detectorOf l s
    s.det[l] ≠ high → laneEnabled l s = true → tracking s = true → d.edge = none →
    (currentBank s).lanes[l].debounce = 0 →
    exec (.rawInputChange l high) s =
      exec (.debounceExpiry l) { s with
        det := s.det.set l high,
        detectors := { s.detectors with lane := s.detectors.lane.set l { d with
          edge := some { latched := s.motion.h, expires := s.motion.tick, inGap := decide (d.state = .gap) } } } }

/-- A leading edge taken in RUNNING with a FREE slot and not latched in GAP opens an entry in the lowest FREE slot,
bound to the current bank and E, with the latched position and nothing else yet: its flags are empty but for those that
the placement of its actions can give, LATE_START, MISSED and SCHEDULE_FULL, and its fired set is empty. It joins
the end of its lane list and the lane goes to COVERED. No other slot, list, counter, record or flag changes. -/
def Obligations.LeadingEdgeOpensAnEntry : Prop :=
  ∀ (l : Lane) (s : State) (ed : PendingEdge), s.engine.state = .running →
    (detectorOf l s).edge = some ed → ed.inGap = false →
    (detectorOf l s).state = .clear ∨ (detectorOf l s).state = .gap →
    (∃ k : Slot, entryAt k s = none) →
    ∃ t slot f, exec (.debounceExpiry l) s = .next t ∧
      entryAt slot s = none ∧ (∀ k : Slot, k < slot → entryAt k s ≠ none) ∧
      entryAt slot t = some {
        state := .opening, lane := l, tag := none, epoch := s.epochUnit.epoch, bank := s.epochUnit.current,
        leading := ed.latched, length := none, verdict := none, flags := f, fired := 0 } ∧
      f = { lateStart := f.lateStart, missed := f.missed, scheduleFull := f.scheduleFull } ∧
      (∀ k : Slot, k ≠ slot → entryAt k t = entryAt k s) ∧
      t.table = { s.table with
        entries := t.table.entries, laneList := s.table.laneList.set l (s.table.laneList[l] ++ [slot]) } ∧
      t.detectors = { s.detectors with
        lane := s.detectors.lane.set l { detectorOf l s with state := .covered, edge := none } } ∧
      t = { s with motion := { s.motion with tick := max s.motion.tick ed.expires }, detectors := t.detectors,
                   table := t.table, schedule := t.schedule }

/-- PER_ITEM placement at an opening: the PER_ITEM channels of the lane get an action each for the new entry, in
ascending number, at the leading position plus the offset in the current bank; where H has reached that, at H + 1 with
LATE_START if H + 1 lies before the exit position, and none with MISSED if not. A channel that finds 128 actions in
the schedule gets none and gives the entry SCHEDULE_FULL (that it gives no MISSED then is the model's reading,
assumption 8). No other action joins or leaves. -/
def Obligations.OpeningPlacesThePerItemActions : Prop :=
  ∀ (l : Lane) (s : State) (ed : PendingEdge), s.engine.state = .running →
    (detectorOf l s).edge = some ed → ed.inGap = false →
    (detectorOf l s).state = .clear ∨ (detectorOf l s).state = .gap →
    ∀ slot, lowestFreeSlot s.table.entries = some slot →
    let x := ed.latched + (currentBank s).lanes[l].exitOffset
    let prof (n : Channel) : ChannelProfile := (currentBank s).channels[n]
    let serves (n : Channel) : Bool :=
      decide (s.channels[n].config.mode = .perItem) && decide (s.channels[n].config.lane = l)
    let late (n : Channel) : Bool := decide ((s.motion.h - (ed.latched + (prof n).offset)).toNat < 2 ^ 31)
    let gone : Bool := decide ((s.motion.h + 1 - x).toNat < 2 ^ 31)
    let placed (n : Channel) : Bool := serves n && !(late n && gone)
    let full (n : Channel) : Bool :=
      decide (128 ≤ s.schedule.length + (List.finRange 16).countP fun k => placed k && decide (k < n))
    let action (n : Channel) : Action :=
      { channel := n, item := some slot, start := if late n then s.motion.h + 1 else ed.latched + (prof n).offset,
        width := (prof n).width, unit := s.channels[n].config.unit, policy := (prof n).policy,
        recovery := (prof n).recovery, state := .pending false }
    ∃ t e', exec (.debounceExpiry l) s = .next t ∧ entryAt slot t = some e' ∧
      t.schedule.Perm (s.schedule ++ ((List.finRange 16).filter fun n => placed n && !full n).map action) ∧
      (e'.flags.lateStart = true ↔ ∃ n, placed n = true ∧ late n = true ∧ full n = false) ∧
      (e'.flags.missed = true ↔ ∃ n, serves n = true ∧ late n = true ∧ gone = true ∧ full n = false) ∧
      (e'.flags.scheduleFull = true ↔ ∃ n, serves n = true ∧ full n = true)

/-- A leading edge that opens nothing takes the lane to BLOCKED and raises its exception, with the lane and no tag:
GAP_SHORT for an edge latched in GAP, which drops the gap reference; EDGE_WHILE_DRAINING in DRAINING; TABLE_FULL where
every slot holds an entry, which counts a drop. -/
def Obligations.LeadingEdgeIsRefused : Prop :=
  ∀ (l : Lane) (s : State) (ed : PendingEdge), tracking s = true → drainOpen s = true →
    (detectorOf l s).edge = some ed → (detectorOf l s).state = .clear ∨ (detectorOf l s).state = .gap →
    let d := detectorOf l s
    let after (x : Detector) : State := { s with
      motion := { s.motion with tick := max s.motion.tick ed.expires },
      detectors := { s.detectors with lane := s.detectors.lane.set l x },
      interrupts := { s.interrupts with sticky := s.interrupts.sticky ||| Flag.exception.bit } }
    (ed.inGap = true → exec (.debounceExpiry l) s = .next
      (offer (.exception .gapShort (some l) none s.motion.h)
        (after { d with state := .blocked, edge := none, gap := none }))) ∧
    (ed.inGap = false → s.engine.state = .draining → exec (.debounceExpiry l) s = .next
      (offer (.exception .edgeWhileDraining (some l) none s.motion.h) (after { d with state := .blocked, edge := none }))) ∧
    (ed.inGap = false → s.engine.state = .running → (∀ k : Slot, entryAt k s ≠ none) →
      exec (.debounceExpiry l) s = .next
        (offer (.exception .tableFull (some l) none s.motion.h)
          { (after { d with state := .blocked, edge := none }) with
            table := { s.table with counters := s.table.counters.set l { s.table.counters[l] with
              dropped := s.table.counters[l].dropped + 1 } } }))

/-- A trailing edge taken in COVERED whose length is below the min length of the entry's bank: the entry's PENDING
actions go and its ACTIVE actions are unlinked, its slot becomes FREE, SHORT_ITEM is raised, and the lane opens a gap.
No tag is used and no count changes. Where the discard leaves a drain done the engine enters STOPPED (R149), unless a
fault report is on its way (the model's choice, assumption 6). -/
def Obligations.ShortItemIsDiscarded : Prop :=
  ∀ (l : Lane) (s : State) (ed : PendingEdge) (slot : Slot) (e : Entry), TableSound s → tracking s = true →
    (detectorOf l s).edge = some ed → (detectorOf l s).state = .covered →
    (slot, e) ∈ s.table.entries → e.lane = l → e.state = .opening →
    (ed.latched - e.leading).toNat < (laneProfileOf e s).minLength.toNat →
    let minGap := (currentBank s).lanes[l].minGap
    let u : State := { s with
      motion := { s.motion with tick := max s.motion.tick ed.expires },
      detectors := { s.detectors with lane := s.detectors.lane.set l { detectorOf l s with
        edge := none, gap := some { trailing := ed.latched, minGap := minGap },
        state := if (s.motion.h - (ed.latched + minGap.setWidth 32)).toNat < 2 ^ 31 then .clear else .gap } },
      table := { s.table with
        entries := s.table.entries.filter fun x => x.1 ≠ slot,
        laneList := s.table.laneList.set l (s.table.laneList[l].filter fun k => k ≠ slot) },
      schedule := (s.schedule.filter fun a => a.isActive || decide (a.item ≠ some slot)).map fun a =>
        if a.item = some slot then { a with item := none } else a,
      interrupts := { s.interrupts with sticky := s.interrupts.sticky ||| Flag.exception.bit } }
    let v := offer (.exception .shortItem (some l) none s.motion.h) u
    exec (.debounceExpiry l) s = .next (if drainOpen v then v else enterStopped v)

/-- A trailing edge taken in COVERED with at least the min length confirms the entry: it takes the first tag from the
lane's next tag upward that no entry of the lane carries, its length, and TRACKED; the next tag follows, the confirmed
count rises, a DETECT record is offered, and the lane opens a gap. R29 says that the length lies within the max length of
the bank; that a longer item, whose leading edge was taken late, is confirmed with its measured length too is the model's
choice (assumption 25). -/
def Obligations.TrailingEdgeConfirmsTheItem : Prop :=
  ∀ (l : Lane) (s : State) (ed : PendingEdge) (slot : Slot) (e : Entry), TableSound s → tracking s = true →
    (detectorOf l s).edge = some ed → (detectorOf l s).state = .covered →
    (slot, e) ∈ s.table.entries → e.lane = l → e.state = .opening →
    (laneProfileOf e s).minLength.toNat ≤ (ed.latched - e.leading).toNat → (ed.latched - e.leading).toNat < 65536 →
    let d := detectorOf l s
    let minGap := (currentBank s).lanes[l].minGap
    let length : Half := (ed.latched - e.leading).setWidth 16
    ∃ (tag : Half) (entries : List (Slot × Entry)),
      (∀ x ∈ s.table.entries, x.2.lane = l → x.2.tag ≠ some tag) ∧
      (∀ k : Nat, k < (tag - d.nextTag).toNat →
        ∃ x ∈ s.table.entries, x.2.lane = l ∧ x.2.tag = some (d.nextTag + BitVec.ofNat 16 k)) ∧
      (∀ k : Slot, findEntry k entries =
        if k = slot then some { e with state := .tracked, tag := some tag, length := some length } else entryAt k s) ∧
      entries.length = s.table.entries.length ∧
      exec (.debounceExpiry l) s = .next
        (offer (.detect l tag e.epoch e.leading length false) { s with
          motion := { s.motion with tick := max s.motion.tick ed.expires },
          detectors := { s.detectors with lane := s.detectors.lane.set l {
            state := if (s.motion.h - (ed.latched + minGap.setWidth 32)).toNat < 2 ^ 31 then .clear else .gap,
            edge := none, gap := some { trailing := ed.latched, minGap := minGap }, nextTag := tag + 1 } },
          table := { s.table with
            entries := entries,
            counters := s.table.counters.set l { s.table.counters[l] with
              confirmed := s.table.counters[l].confirmed + 1 } } })

/-- A trailing edge taken in BLOCKED measures nothing: the lane's gap reference is set and the lane goes to CLEAR
where the gap end has been reached and to GAP otherwise. -/
def Obligations.TrailingEdgeInBlockedOpensAGap : Prop :=
  ∀ (l : Lane) (s : State) (ed : PendingEdge), tracking s = true → drainOpen s = true →
    (detectorOf l s).edge = some ed → (detectorOf l s).state = .blocked →
    let minGap := (currentBank s).lanes[l].minGap
    exec (.debounceExpiry l) s = .next { s with
      motion := { s.motion with tick := max s.motion.tick ed.expires },
      detectors := { s.detectors with lane := s.detectors.lane.set l { detectorOf l s with
        edge := none, gap := some { trailing := ed.latched, minGap := minGap },
        state := if (s.motion.h - (ed.latched + minGap.setWidth 32)).toNat < 2 ^ 31 then .clear else .gap } } }

/-! ### The engine -/

/-- FAULT_REPORT: with none on its way nothing changes (assumption 11); in STOPPED the report is discarded; in FROZEN
the further-fault count rises and saturates at 255. In RUNNING or DRAINING the engine enters FROZEN with the fault
record and the frozen-from state; pending edges are discarded; every ACTIVE action goes, its entry gains CUT and its
channel enters RECOVERY or IDLE; FAULT sets and a FAULT record is admitted with one place free or lost. Nothing else
changes. -/
def Obligations.FaultReportIsTakenByTheEngine : Prop :=
  (∀ s : State,
    (s.motion.reports = [] → exec .faultReport s = .next s) ∧
    ∀ r rest, s.motion.reports = r :: rest →
      let u : State := { s with motion := { s.motion with reports := rest } }
      (s.engine.state = .stopped → exec .faultReport s = .next u) ∧
      (s.engine.state = .frozen → exec .faultReport s = .next { u with engine := { s.engine with fault := { s.engine.fault with
        further := if s.engine.fault.further = 255 then 255 else s.engine.fault.further + 1 } } })) ∧
  ∀ (s : State) (r : FaultReport) (rest : List FaultReport), ChannelsSound s → tracking s = true →
    s.motion.reports = r :: rest →
    let cut (slot : Slot) : Bool := s.schedule.any fun a => a.isActive && decide (a.item = some slot)
    let full : Bool := decide (64 ≤ s.queue.records.length)
    ∃ t, exec .faultReport s = .next t ∧
      t.engine = { s.engine with
        state := .frozen, frozenFrom := some s.engine.state,
        fault := { cause := r.cause, prior := s.engine.state, further := 0, p := r.p, h := r.h } } ∧
      t.motion = { s.motion with reports := rest } ∧
      t.detectors.enabled = s.detectors.enabled ∧
      (∀ l : Lane, detectorOf l t = { detectorOf l s with edge := none }) ∧
      t.schedule = s.schedule.filter (fun a => !a.isActive) ∧
      (∀ n : Channel, t.channels[n] =
        match activeAction n s with
        | none => s.channels[n]
        | some a => { s.channels[n] with
            state := if a.recovery = 0 then .idle else .recovery (s.motion.tick + a.recovery.toNat) }) ∧
      (∀ slot : Slot, entryAt slot t = (entryAt slot s).map fun e =>
        if cut slot then { e with flags := { e.flags with cut := true } } else e) ∧
      t.table = { s.table with entries := t.table.entries } ∧
      t.queue = { s.queue with
        records := if full then s.queue.records else s.queue.records ++ [.fault r.cause s.engine.state r.p r.h],
        lost := if full then satSucc s.queue.lost else s.queue.lost } ∧
      t.interrupts.enables = s.interrupts.enables ∧
      (∀ f : Flag, stickySet f t = (stickySet f s || decide (f = .fault) || (decide (f = .lost) && full))) ∧
      t.det = s.det ∧ t.verdicts = s.verdicts ∧ t.epochUnit = s.epochUnit ∧ t.window = s.window

/-- STOP: refused with REFUSED_STATE outside RUNNING; in RUNNING the engine enters DRAINING, or STOPPED at once where
no entry is live and the schedule is empty; the command is recorded, and the line is left as it is. DRAIN_COMPLETE
takes the engine from DRAINING to STOPPED where no entry is live and the schedule is empty: pending edges are
discarded, STOPPED_REACHED sets, and nothing else changes. A DRAIN_COMPLETE where no drain is done is no event and
changes nothing (the model's choice, assumption 11). -/
def Obligations.StopAndDrainCompletionEndTheRun : Prop :=
  (∀ s : State, s.window.takesWrite 0x0004 = true →
    let w := s.window.afterWrite
    (s.engine.state ≠ .running → exec .stop s = .next { s with
      engine := { s.engine with lastCommand := 2, lastResult := .refusedState },
      interrupts := { s.interrupts with sticky := s.interrupts.sticky ||| Flag.cmdRefused.bit }, window := w }) ∧
    (s.engine.state = .running → (∃ x ∈ s.table.entries, x.2.state ≠ .done) ∨ s.schedule ≠ [] →
      exec .stop s = .next { s with
        engine := { s.engine with state := .draining, lastCommand := 2, lastResult := .accepted }, window := w }) ∧
    (s.engine.state = .running → (∀ x ∈ s.table.entries, x.2.state = .done) → s.schedule = [] →
      ∃ t, exec .stop s = .next t ∧
        (∀ l : Lane, detectorOf l t = { detectorOf l s with edge := none }) ∧
        t = { s with
          engine := { s.engine with state := .stopped, frozenFrom := none, lastCommand := 2, lastResult := .accepted },
          detectors := { s.detectors with lane := t.detectors.lane },
          interrupts := { s.interrupts with sticky := s.interrupts.sticky ||| Flag.stoppedReached.bit }, window := w })) ∧
  ∀ s : State,
    (s.engine.state = .draining → (∀ x ∈ s.table.entries, x.2.state = .done) → s.schedule = [] →
      ∃ t, exec .drainComplete s = .next t ∧
        (∀ l : Lane, detectorOf l t = { detectorOf l s with edge := none }) ∧
        t = { s with
          engine := { s.engine with state := .stopped, frozenFrom := none },
          detectors := { s.detectors with lane := t.detectors.lane },
          interrupts := { s.interrupts with sticky := s.interrupts.sticky ||| Flag.stoppedReached.bit } }) ∧
    (s.engine.state ≠ .draining ∨ (∃ x ∈ s.table.entries, x.2.state ≠ .done) ∨ s.schedule ≠ [] →
      exec .drainComplete s = .next s)

/-- START refused: with REFUSED_STATE outside STOPPED, without a validation; in STOPPED with REFUSED_INVALID where the
set that the run would use fails: a shadow set due to commit is rejected with its check code, and otherwise the
current bank gives CURRENT_INVALID. RESUME refused: with REFUSED_STATE outside FROZEN, and in FROZEN with
REFUSED_POSITION where P lies further from H than the backlash allowance in both directions. Nothing else changes. A
validation makes the checks V1 to V9 of Table 5-6 in their order, each over its lanes or channels in ascending number,
and answers the number and index of the first condition that does not hold, or none. -/
def Obligations.StartAndResumeAreRefused : Prop :=
  (∀ (p : ProfileSet) (s : State),
    let enabled (l : Lane) : Prop := s.detectors.enabled.getLsbD l.val = true
    let cfg (n : Channel) : ChannelConfig := s.channels[n].config
    let itsLane (n : Channel) : LaneProfile := p.lanes[(cfg n).lane]
    let names (n : Channel) : Prop := (cfg n).mode = .perItem ∨ (cfg n).mode = .verdict
    let fails (number index : Nat) : Prop :=
      match number with
      | 1 => index = 0 ∧ ¬ (16 ≤ p.pitch.toNat ∧ p.pitch.toNat ≤ 1048575)
      | 2 => ∃ l : Lane, l.val = index ∧ enabled l ∧
          ¬ (1 ≤ p.lanes[l].minLength.toNat ∧ p.lanes[l].minLength.toNat ≤ p.lanes[l].maxLength.toNat)
      | 3 => ∃ l : Lane, l.val = index ∧ enabled l ∧ ¬ p.lanes[l].maxLength.toNat < p.lanes[l].decisionOffset.toNat
      | 4 => ∃ l : Lane, l.val = index ∧ enabled l ∧
          ¬ (p.lanes[l].decisionOffset.toNat + 2 ≤ p.lanes[l].exitOffset.toNat ∧ p.lanes[l].exitOffset.toNat ≤ 1048575)
      | 5 => ∃ n : Channel, n.val = index ∧ names n ∧
          ¬ p.channels[n].offset.toNat + (if (cfg n).unit = .counts then p.channels[n].width.toNat else 0) <
            (itsLane n).exitOffset.toNat
      | 6 => ∃ n : Channel, n.val = index ∧ (cfg n).mode = .verdict ∧
          ¬ (itsLane n).decisionOffset.toNat < p.channels[n].offset.toNat
      | 7 => ∃ n : Channel, n.val = index ∧ (cfg n).mode = .perPitch ∧ ¬ p.channels[n].offset.toNat < p.pitch.toNat
      | 8 => ∃ n : Channel, n.val = index ∧ (cfg n).mode ≠ .off ∧ ¬ 1 ≤ p.channels[n].width.toNat
      | 9 => ∃ n : Channel, n.val = index ∧ names n ∧ ¬ enabled (cfg n).lane
      | _ => False
    (validate p s = none ↔ ∀ number index, ¬ fails number index) ∧
    ∀ code, validate p s = some code ↔ fails code.number code.index ∧
      ∀ number index, fails number index → code.number < number ∨ code.number = number ∧ code.index ≤ index) ∧
  (∀ s : State, s.window.takesWrite 0x0004 = true →
    let w := s.window.afterWrite
    let due : Bool := s.epochUnit.pending && !s.epochUnit.hold && !s.epochUnit.rejected
    let invalid : Engine := { s.engine with lastCommand := 1, lastResult := .refusedInvalid }
    (s.engine.state ≠ .stopped → exec .start s = .next { s with
      engine := { s.engine with lastCommand := 1, lastResult := .refusedState },
      interrupts := { s.interrupts with sticky := s.interrupts.sticky ||| Flag.cmdRefused.bit }, window := w }) ∧
    (∀ code, s.engine.state = .stopped → due = true → validate s.epochUnit.shadow s = some code →
      exec .start s = .next { s with
        engine := invalid,
        epochUnit := { s.epochUnit with rejected := true, deferral := false, lastResult := .rejected, check := code },
        interrupts := { s.interrupts with
          sticky := s.interrupts.sticky ||| Flag.commitRejected.bit ||| Flag.cmdRefused.bit }, window := w }) ∧
    (∀ code, s.engine.state = .stopped → due = false → validate (currentBank s) s = some code →
      exec .start s = .next { s with
        engine := invalid,
        epochUnit := { s.epochUnit with lastResult := .currentInvalid, check := code },
        interrupts := { s.interrupts with sticky := s.interrupts.sticky ||| Flag.cmdRefused.bit }, window := w })) ∧
  ∀ (first : List Lane) (s : State), s.window.takesWrite 0x0004 = true →
    let refused (r : CommandResult) : State := { s with
      engine := { s.engine with lastCommand := 3, lastResult := r },
      interrupts := { s.interrupts with sticky := s.interrupts.sticky ||| Flag.cmdRefused.bit },
      window := s.window.afterWrite }
    (s.engine.state ≠ .frozen → exec (.resume first) s = .next (refused .refusedState)) ∧
    (s.engine.state = .frozen → s.motion.backlash.toNat < (s.motion.p - s.motion.h).toNat →
      s.motion.backlash.toNat < (s.motion.h - s.motion.p).toNat →
      exec (.resume first) s = .next (refused .refusedPosition))

/-- START accepted: the shadow set is committed where it is due, with a COMMIT record that carries the new E and the
new H; H is set to P and M one pitch beyond; the phase-error count and the deferral marker are cleared; each lane
begins in BLOCKED or CLEAR from its input; the engine enters RUNNING. Nothing else changes, but that fault reports on
their way are dropped (the model's reading, assumption 12). -/
def Obligations.StartBeginsTheRun : Prop :=
  ∀ s : State, s.window.takesWrite 0x0004 = true → s.engine.state = .stopped →
    let due : Bool := s.epochUnit.pending && !s.epochUnit.hold && !s.epochUnit.rejected
    validate (if due then s.epochUnit.shadow else currentBank s) s = none →
    let committed : EpochUnit := { s.epochUnit with
      bankA := if s.epochUnit.current = .b then s.epochUnit.shadow else s.epochUnit.bankA,
      bankB := if s.epochUnit.current = .a then s.epochUnit.shadow else s.epochUnit.bankB,
      current := s.epochUnit.current.other, epoch := s.epochUnit.epoch + 1, pending := false, rejected := false,
      lastResult := .committed, check := { number := 0, index := 0 } }
    let set := if due then s.epochUnit.shadow else currentBank s
    let room : Bool := decide (s.queue.records.length ≤ 55)
    ∃ t, exec .start s = .next t ∧
      t.engine = { s.engine with state := .running, lastCommand := 1, lastResult := .accepted } ∧
      t.motion = { s.motion with
        h := s.motion.p, m := s.motion.p + set.pitch, phaseErrors := 0, reports := [] } ∧
      t.epochUnit = { (if due then committed else s.epochUnit) with deferral := false } ∧
      t.detectors.enabled = s.detectors.enabled ∧
      (∀ l : Lane, detectorOf l t = {
        state := if s.detectors.enabled.getLsbD l.val ∧ s.det[l] = set.lanes[l].activeHigh then .blocked else .clear,
        edge := none, gap := none, nextTag := (detectorOf l s).nextTag }) ∧
      t.queue = { s.queue with
        records := if due && room then s.queue.records ++ [.commit (s.epochUnit.epoch + 1) s.motion.p]
          else s.queue.records,
        lost := if due && !room then satSucc s.queue.lost else s.queue.lost } ∧
      t.interrupts.enables = s.interrupts.enables ∧
      (∀ f : Flag, stickySet f t =
        (stickySet f s || (decide (f = .commitDone) && due) || (decide (f = .lost) && due && !room))) ∧
      t.window = s.window.afterWrite ∧ t.det = s.det ∧ t.table = s.table ∧ t.verdicts = s.verdicts ∧
      t.schedule = s.schedule ∧ t.channels = s.channels

/-- RESUME accepted, with P within the allowance of H: the engine takes the frozen-from state (or completes a drain
that is over), the phase-error count is cleared, and H, P and M stay. With debounces above 0, each enabled lane whose
input differs from its taken level gets a pending edge from the present H, and each IDLE channel with deferred actions
fires; nothing else of the line and no flag changes, but for STOPPED_REACHED, which sets where the RESUME completes
the drain. With a debounce of 0 the edge that the resample creates is taken at once, as by its DEBOUNCE_EXPIRY, lane
after lane in the order that `first` gives (assumption 17): the RESUME then does what those events do, with the
completion of the drain at its end. That is with no deferred action on an IDLE channel and, in DRAINING, at most one
such lane or a fault report on its way, since the event of one lane may complete the drain (assumption 6). -/
def Obligations.ResumeReturnsToTheFrozenFromState : Prop :=
  ∀ (first : List Lane) (s : State) (back : EngineState), LineSound s → s.window.takesWrite 0x0004 = true →
    s.engine.state = .frozen → s.engine.frozenFrom = some back →
    (s.motion.p - s.motion.h).toNat ≤ s.motion.backlash.toNat ∨
      (s.motion.h - s.motion.p).toNat ≤ s.motion.backlash.toNat →
    ∃ t, exec (.resume first) s = .next t ∧
      t.engine = { s.engine with
        state := if back = .draining ∧ liveEntries t = 0 ∧ t.schedule = [] then .stopped else back,
        frozenFrom := none, lastCommand := 3, lastResult := .accepted } ∧
      t.motion = { s.motion with phaseErrors := 0 } ∧ t.window = s.window.afterWrite ∧ t.epochUnit = s.epochUnit ∧
      t.verdicts = s.verdicts ∧ t.det = s.det ∧ (t.engine.state = .stopped → stickySet .stoppedReached t = true) ∧
      ((∀ l : Lane, (currentBank s).lanes[l].debounce ≠ 0) →
        (∀ l : Lane, detectorOf l t = { detectorOf l s with
          edge :=
            if t.engine.state ≠ .stopped ∧ s.detectors.enabled.getLsbD l.val = true ∧
               decide (s.det[l] = (currentBank s).lanes[l].activeHigh) ≠ takenLevel (detectorOf l s).state then
              some { latched := s.motion.h,
                     expires := s.motion.tick + (currentBank s).lanes[l].debounce.toNat,
                     inGap := decide ((detectorOf l s).state = .gap) }
            else none }) ∧
        t.queue = s.queue ∧ t.table = { s.table with entries := t.table.entries } ∧
        t.interrupts = (if t.engine.state = .stopped then
          { s.interrupts with sticky := s.interrupts.sticky ||| Flag.stoppedReached.bit } else s.interrupts) ∧
        (∀ n : Channel,
          if s.channels[n].state = .idle ∧ s.schedule.filter (deferredOn n) ≠ [] then
            t.channels[n].state = .active ∧ t.schedule.filter (deferredOn n) = []
          else
            t.channels[n] = s.channels[n] ∧
              t.schedule.filter (fun a => a.channel = n) = s.schedule.filter (fun a => a.channel = n))) ∧
      (let differs (l : Lane) : Bool := s.detectors.enabled.getLsbD l.val &&
         (decide (s.det[l] = (currentBank s).lanes[l].activeHigh) != takenLevel (detectorOf l s).state)
       let debounce (l : Lane) : Byte := (currentBank s).lanes[l].debounce
       let atOnce := (preferred first (List.finRange 4)).filter fun l => differs l && debounce l == 0
       (∀ n : Channel, s.channels[n].state = .idle → s.schedule.filter (deferredOn n) = []) →
       back = .running ∨ atOnce.length ≤ 1 ∨ s.motion.reports ≠ [] →
       let u : State := { s with
         engine := { s.engine with state := back, frozenFrom := none }, motion := { s.motion with phaseErrors := 0 },
         detectors := { s.detectors with lane := Vector.ofFn fun l => { detectorOf l s with
           edge := if differs l then some { latched := s.motion.h, expires := s.motion.tick + (debounce l).toNat,
                                            inGap := decide ((detectorOf l s).state = .gap) } else none } } }
       let v : State := atOnce.foldl (fun r l => match exec (.debounceExpiry l) r with | .next x => x | _ => r) u
       ∃ w, exec .drainComplete v = .next w ∧
         t = { w with
           engine := { w.engine with lastCommand := 3, lastResult := .accepted }, window := s.window.afterWrite })

/-- FLUSH is accepted in every engine state, and in STOPPED has no other effect. Out of STOPPED every action goes and
its channel ends its pulse into RECOVERY or IDLE; OPENING entries are freed without a record; the confirmed live
entries go to DONE with ABANDONED in belt order, behind those already there, and the OUTCOME records of the DONE list
are posted in that order while the queue has places, or by OUTCOME_POST where a verdict record waits in the FIFO
(assumption 13); the detectors take BLOCKED or CLEAR from their inputs; the engine enters STOPPED with
STOPPED_REACHED. The lane counters but for the outcomes, the tags, H, M, the FIFO, the epoch unit and the fault record
are kept. -/
def Obligations.FlushEmptiesTheLine : Prop :=
  (∀ s : State, s.window.takesWrite 0x0004 = true → s.engine.state = .stopped →
    exec .flush s = .next { s with
      engine := { s.engine with lastCommand := 4, lastResult := .accepted }, window := s.window.afterWrite }) ∧
  ∀ s : State, LineSound s → s.window.takesWrite 0x0004 = true → s.engine.state ≠ .stopped →
    let behind (x : Slot × Entry) : Nat := (s.motion.h - x.2.leading).toNat
    let abandon (e : Entry) : Entry := { e with state := .done, flags := { e.flags with abandoned := true } }
    ∃ (t : State) (leaving waiting : List (Slot × Entry)), exec .flush s = .next t ∧
      leaving.Perm (s.table.entries.filter fun x => decide (x.2.state ≠ .opening) && isLive x.2) ∧
      leaving.Pairwise (fun x y => behind y < behind x ∨ behind x = behind y ∧ x.2.lane ≤ y.2.lane) ∧
      List.Forall₂ (fun (slot : Slot) (x : Slot × Entry) => x.1 = slot ∧ entryAt slot s = some x.2)
        s.table.doneList waiting ∧
      (let out := waiting ++ leaving.map fun x => (x.1, abandon x.2)
       let places := if s.verdicts.fifo = [] then 64 - s.queue.records.length else 0
       t.queue = { s.queue with records := s.queue.records ++ (out.take places).map fun x => outcomeRecord x.2 } ∧
       t.table.doneList = (out.drop places).map (·.1) ∧
       (∀ slot : Slot, entryAt slot t = ((out.drop places).find? fun x => x.1 = slot).map (·.2)) ∧
       (∀ l : Lane, t.table.counters[l] = { s.table.counters[l] with
         outcomes := s.table.counters[l].outcomes +
           BitVec.ofNat 32 ((out.take places).countP fun x => x.2.lane = l) })) ∧
      (∀ l : Lane, t.table.laneList[l] = []) ∧ t.table.inspection = s.table.inspection ∧ t.schedule = [] ∧
      (∀ n : Channel, t.channels[n] =
        match activeAction n s with
        | none => s.channels[n]
        | some a => { s.channels[n] with
            state := if a.recovery = 0 then .idle else .recovery (s.motion.tick + a.recovery.toNat) }) ∧
      t.detectors.enabled = s.detectors.enabled ∧
      (∀ l : Lane, detectorOf l t = {
        state := if s.detectors.enabled.getLsbD l.val ∧ s.det[l] = (currentBank s).lanes[l].activeHigh then .blocked
          else .clear,
        edge := none, gap := none, nextTag := (detectorOf l s).nextTag }) ∧
      t.engine = { s.engine with state := .stopped, frozenFrom := none, lastCommand := 4, lastResult := .accepted } ∧
      t.interrupts = { s.interrupts with sticky := s.interrupts.sticky ||| Flag.stoppedReached.bit } ∧
      t.motion = s.motion ∧ t.det = s.det ∧ t.verdicts = s.verdicts ∧ t.epochUnit = s.epochUnit ∧
      t.window = s.window.afterWrite

/-- COMMIT_NOW: REFUSED_STATE outside STOPPED; in STOPPED REFUSED_HOLD with the hold set, then REFUSED_STATE with
nothing pending, then REFUSED_INVALID and a rejection where the shadow set fails, and else the commit with its COMMIT
record and COMMIT_DONE, whether or not the rejected mark is set. -/
def Obligations.CommitNowIsSettledInOrder : Prop :=
  ∀ s : State, s.window.takesWrite 0x0004 = true →
    let engine (r : CommandResult) : Engine := { s.engine with lastCommand := 5, lastResult := r }
    let refused (r : CommandResult) : State := { s with
      engine := engine r,
      interrupts := { s.interrupts with sticky := s.interrupts.sticky ||| Flag.cmdRefused.bit },
      window := s.window.afterWrite }
    (s.engine.state ≠ .stopped → exec .commitNow s = .next (refused .refusedState)) ∧
    (s.engine.state = .stopped → s.epochUnit.hold = true → exec .commitNow s = .next (refused .refusedHold)) ∧
    (s.engine.state = .stopped → s.epochUnit.hold = false → s.epochUnit.pending = false →
      exec .commitNow s = .next (refused .refusedState)) ∧
    (∀ code, s.engine.state = .stopped → s.epochUnit.hold = false → s.epochUnit.pending = true →
      validate s.epochUnit.shadow s = some code →
      exec .commitNow s = .next { s with
        engine := engine .refusedInvalid,
        epochUnit := { s.epochUnit with rejected := true, deferral := false, lastResult := .rejected, check := code },
        interrupts := { s.interrupts with
          sticky := s.interrupts.sticky ||| Flag.commitRejected.bit ||| Flag.cmdRefused.bit },
        window := s.window.afterWrite }) ∧
    (s.engine.state = .stopped → s.epochUnit.hold = false → s.epochUnit.pending = true →
      validate s.epochUnit.shadow s = none →
      exec .commitNow s = .next (offer (.commit (s.epochUnit.epoch + 1) s.motion.h) { s with
        engine := engine .accepted,
        epochUnit := { s.epochUnit with
          bankA := if s.epochUnit.current = .b then s.epochUnit.shadow else s.epochUnit.bankA,
          bankB := if s.epochUnit.current = .a then s.epochUnit.shadow else s.epochUnit.bankB,
          current := s.epochUnit.current.other, epoch := s.epochUnit.epoch + 1, pending := false, rejected := false,
          deferral := false, lastResult := .committed, check := { number := 0, index := 0 } },
        interrupts := { s.interrupts with sticky := s.interrupts.sticky ||| Flag.commitDone.bit },
        window := s.window.afterWrite }))

/-! ### Verdicts -/

/-- VERDICT_PUSH: a class of 0 to 7 is stored and a record of the staging bytes as they then stand joins the tail of
the FIFO, or VERDICT_FULL sets where the FIFO holds 16; a value above 7 is refused. The lane byte and the tag bytes
store any value. -/
def Obligations.ClassBytePushesARecord : Prop :=
  ∀ (v : Byte) (s : State),
    let refused : State := { s with
      interrupts := { s.interrupts with sticky := s.interrupts.sticky ||| Flag.accessErr.bit },
      window := ({ s.window with lastRefused := 0x0503 }).afterWrite }
    (s.window.takesWrite 0x0503 = true → v.toNat ≤ 7 → s.verdicts.fifo.length < 16 →
      exec (.verdictPush v) s = .next { s with
        verdicts := { s.verdicts with
          classByte := v.setWidth 3,
          fifo := s.verdicts.fifo ++ [{ lane := s.verdicts.laneByte, tag := s.verdicts.tagHigh ++ s.verdicts.tagLow,
                                        cls := v.setWidth 3 }] },
        window := s.window.afterWrite }) ∧
    (s.window.takesWrite 0x0503 = true → v.toNat ≤ 7 → 16 ≤ s.verdicts.fifo.length →
      exec (.verdictPush v) s = .next { s with
        verdicts := { s.verdicts with classByte := v.setWidth 3 },
        interrupts := { s.interrupts with sticky := s.interrupts.sticky ||| Flag.verdictFull.bit },
        window := s.window.afterWrite }) ∧
    (s.window.takesWrite 0x0503 = true → 7 < v.toNat → exec (.verdictPush v) s = .next refused) ∧
    (s.window.takesWrite 0x0500 = true → exec (.registerWrite 0x0500 v) s = .next { s with
      verdicts := { s.verdicts with laneByte := v }, window := s.window.afterWrite }) ∧
    (s.window.takesWrite 0x0501 = true → exec (.registerWrite 0x0501 v) s = .next { s with
      verdicts := { s.verdicts with tagLow := v }, window := s.window.afterWrite }) ∧
    (s.window.takesWrite 0x0502 = true → exec (.registerWrite 0x0502 v) s = .next { s with
      verdicts := { s.verdicts with tagHigh := v }, window := s.window.afterWrite })

/-- VERDICT_TAKE: the head record leaves the FIFO and is settled by the entry with its lane and tag (Table 4-2):
APPLIED to a TRACKED entry, LATE where the verdict is the default's or an abandoned entry has none, DUPLICATE where it
is the host's, LOCKED where it was forced, UNKNOWN where there is no such entry. Every result but APPLIED is counted,
sets VERDICT_ERR and EXCEPTION and offers its EXCEPTION record. The take that empties the FIFO is followed by the
posting of the entries in DONE, as by OUTCOME_POST (assumption 13). With an empty FIFO nothing changes (assumption
11). -/
def Obligations.VerdictRecordIsSettledByItsEntry : Prop :=
  ∀ s : State, TableSound s → EntriesSound s →
    (s.verdicts.fifo = [] → exec .verdictTake s = .next s) ∧
    ∀ r rest, s.verdicts.fifo = r :: rest →
      let taken : State := { s with verdicts := { s.verdicts with fifo := rest } }
      let settled (u : State) : Host.Outcome State Fault Refusal := if rest = [] then exec .outcomePost u else .next u
      let failed (code : ExceptionCode) (lane : Option Lane) (u : State) : State :=
        offer (.exception code lane (some r.tag) s.motion.h) { u with
          verdicts := { s.verdicts with fifo := rest, exceptionCount := satSucc s.verdicts.exceptionCount },
          interrupts := { s.interrupts with
            sticky := s.interrupts.sticky ||| Flag.verdictErr.bit ||| Flag.exception.bit } }
      ((∀ x ∈ s.table.entries, x.2.lane.val = r.lane.toNat → x.2.tag ≠ some r.tag) →
        exec .verdictTake s = settled
          (failed .verdictUnknown (if h : r.lane.toNat < 4 then some ⟨r.lane.toNat, h⟩ else none) s)) ∧
      ∀ slot e, (slot, e) ∈ s.table.entries → e.lane.val = r.lane.toNat → e.tag = some r.tag →
        let becomes (e' : Entry) (entries : List (Slot × Entry)) : Prop :=
          entries.length = s.table.entries.length ∧
          ∀ k : Slot, findEntry k entries = if k = slot then some e' else entryAt k s
        (e.verdict = none → e.state = .tracked → ∃ entries,
          becomes { e with state := .held, verdict := some { cls := r.cls, source := .host } } entries ∧
          exec .verdictTake s = settled { taken with table := { s.table with entries := entries } }) ∧
        ((e.verdict = none ∧ e.state ≠ .tracked) ∨ (∃ cls, e.verdict = some { cls := cls, source := .laneDefault }) →
          ∃ entries, becomes { e with flags := { e.flags with lateVerdict := true } } entries ∧
            exec .verdictTake s = settled
              (failed .verdictLate (some e.lane) { s with table := { s.table with entries := entries } })) ∧
        (∀ cls, e.verdict = some { cls := cls, source := .host } →
          exec .verdictTake s = settled (failed .verdictDuplicate (some e.lane) s)) ∧
        (∀ cls, e.verdict = some { cls := cls, source := .forced } →
          exec .verdictTake s = settled (failed .verdictLocked (some e.lane) s))

/-- R74: the verdict exception count rises by one and saturates at 65535, and VERDICT_ERR sets, at every result other
than APPLIED, whether or not its record is admitted; it is 0 after pin reset and engine reset; no other command
changes it; a write of it is refused, and it is read through the read snapshot. -/
def Obligations.VerdictExceptionCountFollowsTheResults : Prop :=
  (∀ (c : Instr) (s t : State), exec c s = .next t →
    let applied (r : VerdictRecord) : Prop :=
      ∃ slot e, namedEntry r s = some (slot, e) ∧ e.state = .tracked ∧ e.verdict = none
    (∀ r rest, c = .verdictTake → s.verdicts.fifo = r :: rest → ¬ applied r →
      t.verdicts.exceptionCount =
        (if s.verdicts.exceptionCount = 65535 then 65535 else s.verdicts.exceptionCount + 1) ∧
      stickySet .verdictErr t = true) ∧
    ((∃ levels, c = .pinReset levels) ∨ issues c 6 s = true → t.verdicts.exceptionCount = 0) ∧
    ((∀ levels, c ≠ .pinReset levels) → issues c 6 s = false →
      (∀ r rest, c = .verdictTake → s.verdicts.fifo = r :: rest → applied r) →
      t.verdicts.exceptionCount = s.verdicts.exceptionCount)) ∧
  (∀ (k : Fin 2) (v : Byte) (s : State), s.window.takesWrite (BitVec.ofNat 16 (0x0506 + k.val)) = true →
    exec (.registerWrite (BitVec.ofNat 16 (0x0506 + k.val)) v) s = .next { s with
      interrupts := { s.interrupts with sticky := s.interrupts.sticky ||| Flag.accessErr.bit },
      window := ({ s.window with lastRefused := BitVec.ofNat 16 (0x0506 + k.val) }).afterWrite }) ∧
  (∀ (k : Fin 2) (s : State), s.window.takesRead (BitVec.ofNat 16 (0x0506 + k.val)) = true →
    let snap : Half := if k.val = 0 then s.verdicts.exceptionCount else s.window.snapshots.verdictExceptions
    exec (.snapshotRead (BitVec.ofNat 16 (0x0506 + k.val))) s = .next { s with
      window := ({ s.window with snapshots := { s.window.snapshots with verdictExceptions := snap } }).afterRead
        (BitVec.ofNat 16 (0x0506 + k.val)) ((snap >>> (8 * k.val)).setWidth 8) })

/-! ### The report queue -/

/-- POP removes the head record, or is refused with REFUSED_EMPTY and CMD_REFUSED on an empty queue; it then serves
the DONE list as OUTCOME_POST does, so that the place it frees in a full queue takes the OUTCOME record of the head of
the list. OUTCOME_POST posts the records of the entries in DONE in the order of the list while there are places: each
slot becomes FREE, each lane's outcomes count rises, and the entries left keep their order. With no waiting entry or
no place nothing changes (assumption 11). -/
def Obligations.PopAndOutcomePostServeTheQueue : Prop :=
  ∀ s : State,
    let engine (r : CommandResult) : Engine := { s.engine with lastCommand := 7, lastResult := r }
    let record (e : Entry) : Report :=
      .outcome e.lane (e.tag.getD 0) e.epoch e.leading e.verdict e.fired e.flags
    (s.window.takesWrite 0x0004 = true → s.queue.records = [] →
      exec .pop s = .next { s with
        engine := engine .refusedEmpty,
        interrupts := { s.interrupts with sticky := s.interrupts.sticky ||| Flag.cmdRefused.bit },
        window := s.window.afterWrite }) ∧
    (∀ r rest, s.window.takesWrite 0x0004 = true → s.queue.records = r :: rest → s.table.doneList = [] →
      exec .pop s = .next { s with
        engine := engine .accepted, queue := { s.queue with records := rest }, window := s.window.afterWrite }) ∧
    (∀ r rest, s.window.takesWrite 0x0004 = true → s.queue.records = r :: rest →
      ∃ v, exec .outcomePost { s with queue := { s.queue with records := rest } } = .next v ∧
        exec .pop s = .next { v with engine := engine .accepted, window := s.window.afterWrite }) ∧
    (s.table.doneList = [] ∨ 64 ≤ s.queue.records.length → exec .outcomePost s = .next s) ∧
    ∀ waiting : List (Slot × Entry), s.table.doneList.Nodup →
      List.Forall₂ (fun (slot : Slot) (x : Slot × Entry) => x.1 = slot ∧ entryAt slot s = some x.2)
        s.table.doneList waiting →
      let places := 64 - s.queue.records.length
      let out := waiting.take places
      ∃ counters : Vector LaneCounters 4,
        (∀ l : Lane, counters[l] = { s.table.counters[l] with
          outcomes := s.table.counters[l].outcomes + BitVec.ofNat 32 (out.countP fun x => x.2.lane = l) }) ∧
        exec .outcomePost s = .next { s with
          queue := { s.queue with records := s.queue.records ++ out.map fun x => record x.2 },
          table := { s.table with
            entries := s.table.entries.filter fun x => !(out.map (·.1)).contains x.1,
            doneList := s.table.doneList.drop places, counters := counters } }

/-! ### The register window -/

/-- The frame: CSN falling starts one with the marker and the ignore mark clear and puts out the summary byte (Table
10-6); a valid control byte gives direction and INCREMENT, an invalid one sets ACCESS_ERR and the ignore mark; two
address bytes give the current address, with which a READ frame takes its first value; CSN rising ends it in any
state. The first value is that of the byte at the address: the lowest byte of a quantity of Table 10-3 copies the
quantity into its read snapshot, and each byte of one is read from its snapshot. CSN falling with CSN low already, and
bytes that do not belong to the frame's state, are no events and change nothing (the model's choice, assumption 11);
that a byte with no value of its own shifts out 0 is assumption 16. -/
def Obligations.FrameWalksThroughItsStates : Prop :=
  (∀ s : State, s.window.csn = true → ∃ v : Byte,
    v &&& 3 = s.engine.state.code ∧ v.getLsbD 2 = irqActive s ∧ v.getLsbD 3 = decide (s.queue.records ≠ []) ∧
    v.getLsbD 4 = decide (s.verdicts.fifo.length = 16) ∧ v.getLsbD 5 = s.epochUnit.pending ∧
    v.getLsbD 6 = s.epochUnit.hold ∧ v.getLsbD 7 = stickySet .powerOn s ∧
    exec .frameBegin s = .next { s with
      window := { s.window with csn := false, frame := .control, frameOpen := false, shiftOut := v } }) ∧
  (∀ s : State, s.window.csn = false → exec .frameBegin s = .next s) ∧
  (∀ s : State, exec .frameEnd s = .next { s with
    window := { s.window with csn := true, frame := .idle, frameOpen := false } }) ∧
  (∀ (v : Byte) (s : State), s.window.frame = .control → v.toNat % 64 = 0 →
    exec (.controlByte v) s = .next { s with window := { s.window with
      frame := .addressHigh { read := v.getLsbD 7, increment := v.getLsbD 6 }, shiftOut := 0 } }) ∧
  (∀ (v : Byte) (s : State), s.window.frame = .control → v.toNat % 64 ≠ 0 →
    exec (.controlByte v) s = .next { s with
      interrupts := { s.interrupts with sticky := s.interrupts.sticky ||| Flag.accessErr.bit },
      window := { s.window with frame := .ignored, shiftOut := 0 } }) ∧
  (∀ (v : Byte) (s : State), s.window.frame ≠ .control → exec (.controlByte v) s = .next s) ∧
  (∀ (v : Byte) (m : FrameMode) (s : State), s.window.frame = .addressHigh m →
    exec (.addressByte v) s = .next { s with window := { s.window with frame := .addressLow m v } }) ∧
  (∀ (v high : Byte) (m : FrameMode) (s : State), s.window.frame = .addressLow m high → m.read = false →
    exec (.addressByte v) s = .next { s with window := { s.window with
      frame := .data m (BitVec.ofNat 16 (256 * high.toNat + v.toNat)) } }) ∧
  (∀ (v high : Byte) (m : FrameMode) (s : State), s.window.frame = .addressLow m high → m.read = true →
    let a : Addr := BitVec.ofNat 16 (256 * high.toNat + v.toNat)
    let copied := takeSnapshot (target a) s
    let t : State := { s with window := { s.window with
      frame := .data m a, snapshots := copied.window.snapshots, shiftOut := readTarget (target a) copied } }
    exec (.addressByte v) s = .next t ∧ ReadsByte a s t) ∧
  (∀ (v : Byte) (s : State), (∀ m, s.window.frame ≠ .addressHigh m) → (∀ m high, s.window.frame ≠ .addressLow m high) →
    exec (.addressByte v) s = .next s)

/-- Every command of a data byte written is the register write of that byte, at its address and with its value; and a
byte that the window does not take (no WRITE frame in DATA at its address, and a frame open or CSN low) changes
nothing (assumption 9). -/
def Obligations.EveryWriteIsADataByte : Prop :=
  ∀ (c : Instr) (a : Addr) (v : Byte) (s : State), c.byteWritten = some (a, v) →
    ((∀ first, c = .resume first → first = []) → exec c s = exec (.registerWrite a v) s) ∧
    (s.window.takesWrite a = false → exec c s = .next s)

/-- A write to a READ-ONLY or an unmapped address, or to the command register of a code of 0 or above 7, is refused or
ignored: ACCESS_ERR sets, the address is the last refused address, and nothing else changes but the frame's current
address. Which addresses these are is Table 10-4 with Tables 5-4, 7-2 and 9-2: the class of every address is as listed. -/
def Obligations.RefusedWriteChangesNothingElse : Prop :=
  (∀ (a : Addr) (v : Byte) (s : State), s.window.takesWrite a = true →
    accessClass (target a) = .readOnly ∨ accessClass (target a) = .unmapped ∨
      a = 0x0004 ∧ (v = 0 ∨ 7 < v.toNat) →
    exec (.registerWrite a v) s = .next { s with
      interrupts := { s.interrupts with sticky := s.interrupts.sticky ||| Flag.accessErr.bit },
      window := ({ s.window with lastRefused := a }).afterWrite }) ∧
  ∀ a : Addr,
    let off := a.toNat % 256
    accessClass (target a) =
      match a.toNat / 256 with
      | 0x00 =>
        if off ≤ 0x02 ∨ 0x05 ≤ off ∧ off ≤ 0x13 ∨ off = 0x18 ∨ off = 0x19 then .readOnly
        else if off = 0x04 ∨ 0x14 ≤ off ∧ off ≤ 0x17 then .live else .unmapped
      | 0x01 => if off ≤ 0x0A then .readOnly else if 0x0C ≤ off ∧ off ≤ 0x10 then .stoppedOnly else .unmapped
      | 0x02 =>
        if off ≤ 0x01 then .live else if off ≤ 0x09 then .readOnly
        else if 0x0C ≤ off ∧ off ≤ 0x0F ∨ 0x80 ≤ off ∧ off % 32 < 18 then .staged else .unmapped
      | 0x03 => if off ≤ 0x3F then .stoppedOnly else .unmapped
      | 0x04 => if off % 16 < 12 then .staged else .unmapped
      | 0x05 =>
        if off ≤ 0x03 then .live else if off = 0x04 ∨ off = 0x06 ∨ off = 0x07 then .readOnly else .unmapped
      | 0x06 => if off = 0x11 then .live else if off ≤ 0x13 then .readOnly else .unmapped
      | 0x07 => if off ≤ 0x2F then .readOnly else .unmapped
      | 0x08 => if off = 0x00 then .live else if 0x10 ≤ off ∧ off ≤ 0x25 then .readOnly else .unmapped
      | _ => .unmapped

/-- STAGED_WRITE: the byte lands in the shadow set and nowhere else in it, reduced to the field's range (active level
and policy modulo 2, classes modulo 8); pending sets, the rejected mark clears, and the frame that carries it is
marked. It is taken in every engine state, with the hold set or clear, and changes neither bank, E nor anything else. -/
def Obligations.StagedWriteLandsInTheShadowSet : Prop :=
  ∀ (a : Addr) (v : Byte) (s : State), s.window.takesWrite a = true → accessClass (target a) = .staged →
    let shadowByte (b : Addr) (u : State) : Byte :=
      readTarget (target b) { u with epochUnit := { u.epochUnit with view := .shadow } }
    let stored : Byte :=
      match target a with
      | .laneBlock _ k => if k = 15 then v &&& 1 else if k = 16 ∨ k = 17 then v &&& 7 else v
      | .channelBlock _ k => if k = 10 then v &&& 1 else v
      | _ => v
    ∃ t, exec (.stagedWrite a v) s = .next t ∧
      (∀ b : Addr, accessClass (target b) = .staged → shadowByte b t = if b = a then stored else shadowByte b s) ∧
      t = { s with
        epochUnit := { s.epochUnit with shadow := t.epochUnit.shadow, pending := true, rejected := false },
        window := ({ s.window with
          frameOpen := s.window.frameOpen || inWriteData s.window.frame }).afterWrite }

/-- The LIVE settings: the stage hold and the view select take 0 or 1, the report threshold 1 to 64, and any other
value is refused; the inspection slot select takes every value and copies the slot's entry and its pending count at
that moment. -/
def Obligations.LiveSettingsTakeTheirValues : Prop :=
  ∀ (v : Byte) (s : State),
    let refused (a : Addr) : State := { s with
      interrupts := { s.interrupts with sticky := s.interrupts.sticky ||| Flag.accessErr.bit },
      window := ({ s.window with lastRefused := a }).afterWrite }
    (s.window.takesWrite 0x0200 = true →
      (v.toNat ≤ 1 → exec (.stageHoldWrite v) s = .next { s with
        epochUnit := { s.epochUnit with hold := v.getLsbD 0 }, window := s.window.afterWrite }) ∧
      (1 < v.toNat → exec (.stageHoldWrite v) s = .next (refused 0x0200))) ∧
    (s.window.takesWrite 0x0201 = true →
      (v.toNat ≤ 1 → exec (.viewSelectWrite v) s = .next { s with
        epochUnit := { s.epochUnit with view := if v = 0 then .shadow else .active }, window := s.window.afterWrite }) ∧
      (1 < v.toNat → exec (.viewSelectWrite v) s = .next (refused 0x0201))) ∧
    (s.window.takesWrite 0x0611 = true →
      (1 ≤ v.toNat ∧ v.toNat ≤ 64 → exec (.reportThresholdWrite v) s = .next { s with
        queue := { s.queue with threshold := v }, window := s.window.afterWrite }) ∧
      (v.toNat = 0 ∨ 64 < v.toNat → exec (.reportThresholdWrite v) s = .next (refused 0x0611))) ∧
    (s.window.takesWrite 0x0800 = true →
      exec (.inspectionSlotSelect v) s = .next { s with
        table := { s.table with inspection := {
          slot := Fin.ofNat 256 v.toNat, entry := entryAt (Fin.ofNat 256 v.toNat) s,
          pendingCount := (s.schedule.filter fun a => a.item = some (Fin.ofNat 256 v.toNat)).length } },
        window := s.window.afterWrite })

/-- FLAG_REGISTER_WRITE clears exactly the sticky flags whose position in the byte is written 1, and REPORT_LEVEL
follows the depth and the threshold alone; and a sticky flag that is set stays set through every other command but the
two resets. -/
def Obligations.StickyFlagsStayUntilTheHostClearsThem : Prop :=
  (∀ (which : RegisterHalf) (v : Byte) (s : State), s.window.takesWrite (flagAddress which) = true →
    ∃ t, exec (.flagRegisterWrite which v) s = .next t ∧
      (∀ f : Flag, f ≠ .reportLevel → flagSet f t =
        (flagSet f s && !(v.getLsbD (f.position % 8) &&
          decide (f.position / 8 = match which with | .byte0 => 0 | .byte1 => 1)))) ∧
      flagSet .reportLevel t = decide (s.queue.threshold.toNat ≤ s.queue.records.length) ∧
      t = { s with
        interrupts := { s.interrupts with sticky := t.interrupts.sticky }, window := s.window.afterWrite }) ∧
  (∀ (c : Instr) (s t : State) (f : Flag), exec c s = .next t → stickySet f s = true →
    (∀ levels, c ≠ .pinReset levels) → issues c 6 s = false →
    (∀ which v, c.byteWritten ≠ some (flagAddress which, v)) → stickySet f t = true)

/-- R168: each position of a written byte of the enable register takes its value; IRQN is low exactly while some flag
is set whose enable is set, in every state; the summary byte of a frame carries that and POWER_ON; writes of the two
registers leave the frame-open marker. -/
def Obligations.EnablesDriveIrqn : Prop :=
  (∀ (which : RegisterHalf) (v : Byte) (s : State), s.window.takesWrite (enableAddress which) = true →
    ∃ t, exec (.enableRegisterWrite which v) s = .next t ∧
      (∀ f : Flag, t.interrupts.enables.getLsbD f.position =
        if f.position / 8 = (match which with | .byte0 => 0 | .byte1 => 1) then v.getLsbD (f.position % 8)
        else s.interrupts.enables.getLsbD f.position) ∧
      t = { s with
        interrupts := { s.interrupts with enables := t.interrupts.enables }, window := s.window.afterWrite } ∧
      t.window.frameOpen = s.window.frameOpen) ∧
  (∀ (which : RegisterHalf) (v : Byte) (s t : State),
    exec (.flagRegisterWrite which v) s = .next t → t.window.frameOpen = s.window.frameOpen) ∧
  (∀ s : State, irqActive s = true ↔ ∃ f : Flag, flagSet f s = true ∧ s.interrupts.enables.getLsbD f.position = true) ∧
  (∀ s t : State, s.window.csn = true → exec .frameBegin s = .next t →
    t.window.shiftOut.getLsbD 2 = irqActive s ∧ t.window.shiftOut.getLsbD 7 = flagSet .powerOn s)

/-- The STOPPED-only settings: out of STOPPED a write of any of them is refused; in STOPPED the lane enable mask takes
its four bits and sends each lane it disables to CLEAR with nothing held, a channel's configuration byte is stored
(active level and width unit modulo 2) with a mode or a lane above 3 refused, the decode mode takes the codes 0 to 2,
invert bit 0, the backlash allowance any value, and the phase-error limit 0 (stored as 1) to 15. -/
def Obligations.StoppedOnlyWritesTakeEffectInStopped : Prop :=
  (∀ (v : Byte) (n : Channel) (which : ConfigByte) (s : State),
    let refused (a : Addr) : State := { s with
      interrupts := { s.interrupts with sticky := s.interrupts.sticky ||| Flag.accessErr.bit },
      window := ({ s.window with lastRefused := a }).afterWrite }
    let cfg := s.channels[n].config
    let configured (c : ChannelConfig) : State := { s with
      channels := s.channels.set n { s.channels[n] with config := c }, window := s.window.afterWrite }
    let address : Addr := BitVec.ofNat 16 (0x0300 + 4 * n.val +
      match which with | .mode => 0 | .lane => 1 | .activeLevel => 2 | .widthUnit => 3)
    (∀ a : Addr, s.engine.state ≠ .stopped → accessClass (target a) = .stoppedOnly → s.window.takesWrite a = true →
      exec (.registerWrite a v) s = .next (refused a) ∧
      (a = 0x0110 → exec (.laneEnableMaskWrite v) s = .next (refused a)) ∧
      (a = address → exec (.channelConfigurationWrite n which v) s = .next (refused a))) ∧
    (s.engine.state = .stopped → s.window.takesWrite 0x0110 = true →
      ∃ t, exec (.laneEnableMaskWrite v) s = .next t ∧
        (∀ l : Lane, detectorOf l t = if v.getLsbD l.val then detectorOf l s
          else { detectorOf l s with state := .clear, edge := none, gap := none }) ∧
        t = { s with
          detectors := { enabled := v.setWidth 4, lane := t.detectors.lane }, window := s.window.afterWrite }) ∧
    (s.engine.state = .stopped → s.window.takesWrite address = true →
      exec (.channelConfigurationWrite n which v) s = .next
        (match which with
         | .mode =>
           match v.toNat with
           | 0 => configured { cfg with mode := .off }
           | 1 => configured { cfg with mode := .perItem }
           | 2 => configured { cfg with mode := .perPitch }
           | 3 => configured { cfg with mode := .verdict }
           | _ => refused address
         | .lane =>
           if h : v.toNat < 4 then configured { cfg with lane := ⟨v.toNat, h⟩ } else refused address
         | .activeLevel => configured { cfg with activeHigh := v.getLsbD 0 }
         | .widthUnit => configured { cfg with unit := if v.getLsbD 0 then .microseconds else .counts }))) ∧
  ∀ (v : Byte) (s : State), s.engine.state = .stopped →
    let refused (a : Addr) : State := { s with
      interrupts := { s.interrupts with sticky := s.interrupts.sticky ||| Flag.accessErr.bit },
      window := ({ s.window with lastRefused := a }).afterWrite }
    let taken (m : Motion) : State := { s with motion := m, window := s.window.afterWrite }
    (s.window.takesWrite 0x010C = true → exec (.registerWrite 0x010C v) s = .next
      (match v.toNat with
       | 0 => taken { s.motion with decodeMode := .x1 }
       | 1 => taken { s.motion with decodeMode := .x2 }
       | 2 => taken { s.motion with decodeMode := .x4 }
       | _ => refused 0x010C)) ∧
    (s.window.takesWrite 0x010D = true →
      exec (.registerWrite 0x010D v) s = .next (taken { s.motion with invert := v.getLsbD 0 })) ∧
    (s.window.takesWrite 0x010E = true →
      exec (.registerWrite 0x010E v) s = .next (taken { s.motion with backlash := v })) ∧
    (s.window.takesWrite 0x010F = true → exec (.registerWrite 0x010F v) s = .next
      (if 15 < v.toNat then refused 0x010F
       else taken { s.motion with phaseLimit := if v = 0 then 1 else v.setWidth 4 }))

/-- SNAPSHOT_READ: the read of the lowest byte of a quantity of Table 10-3 copies the whole quantity into its own
snapshot and no other, and each byte of the quantity is read from that copy; every other byte is read as it stands; a
read changes nothing outside the window and sets no flag. A read that the window does not take changes nothing (the
model's choice, assumptions 9 and 11). The bytes themselves are those of sections 10.4 and 10.5: the part code and the
revision, the command status and the engine state, the fault record (Table 10-12), the flag and enable registers (Table
10-9), the settings and counts of pages 0x01, 0x02, 0x05, 0x06 and 0x08, the commit status, the staged bytes of the set
that the view select shows (R88, Tables 5-2 to 5-4), the channel configuration (Table 7-2), the head window with the
five record layouts (R163, Table 10-11) and the inspection snapshot (R61, Table 10-14), each with its codes; an unmapped
address reads 0. -/
def Obligations.ReadsTakeWholeSnapshots : Prop :=
  (∀ x ∈ [((0x0008 : Addr), 12, Quantity.fault), (0x0018, 2, .lastRefused), (0x0100, 4, .p), (0x0104, 4, .h),
          (0x0108, 2, .speed), (0x0208, 2, .epoch), (0x0506, 2, .verdictExceptions), (0x0612, 2, .lost)],
    ∀ k : Fin 12, k.val < x.2.1 → target (x.1 + BitVec.ofNat 16 k.val) = .quantity x.2.2 k.val) ∧
  (∀ (l : Lane) (k : Fin 4),
    target (BitVec.ofNat 16 (0x0700 + 12 * l.val + k.val)) = .quantity (.counter l .confirmed) k.val ∧
    target (BitVec.ofNat 16 (0x0704 + 12 * l.val + k.val)) = .quantity (.counter l .outcomes) k.val ∧
    target (BitVec.ofNat 16 (0x0708 + 12 * l.val + k.val)) = .quantity (.counter l .dropped) k.val) ∧
  (∀ (a : Addr) (s : State),
    (s.window.takesRead a = false → exec (.snapshotRead a) s = .next s) ∧
    (s.window.takesRead a = true → ∃ t, exec (.snapshotRead a) s = .next t ∧
      t = { s with
        window := ({ s.window with snapshots := t.window.snapshots }).afterRead a t.window.shiftOut } ∧
      ReadsByte a s t)) ∧
  ∀ s : State,
    let value (a : Nat) : Byte := readTarget (target (BitVec.ofNat 16 a)) s
    let shows (a : Nat) (bytes : List Nat) (k : Nat) : Prop := value (a + k) = BitVec.ofNat 8 (bytes.getD k 0)
    let two (v : Nat) : List Nat := [v % 256, v / 256]
    let four (v : Word) : List Nat := [v.toNat % 256, v.toNat / 256 % 256, v.toNat / 65536 % 256, v.toNat / 16777216]
    let bit (b : Bool) : Nat := if b then 1 else 0
    let state (x : EngineState) : Nat :=
      match x with
      | .stopped => 0 | .running => 1 | .draining => 2 | .frozen => 3
    let result (x : CommandResult) : Nat :=
      match x with
      | .none => 0 | .accepted => 1 | .refusedState => 2 | .refusedInvalid => 3 | .refusedPosition => 4
      | .refusedHold => 5 | .refusedEmpty => 6
    let commitResult (x : CommitResult) : Nat :=
      match x with
      | .none => 0 | .committed => 1 | .deferredFrame => 2 | .deferredReferenced => 3 | .rejected => 4
      | .currentInvalid => 5
    let cause (x : FaultCause) : Nat :=
      match x with
      | .none => 0 | .reversal => 1 | .encoderPhase => 2
    let exception (x : ExceptionCode) : Nat :=
      match x with
      | .shortItem => 1 | .gapShort => 2 | .tableFull => 3 | .edgeWhileDraining => 4 | .verdictLate => 5
      | .verdictUnknown => 6 | .verdictDuplicate => 7 | .verdictLocked => 8 | .pitchScheduleFull => 9
      | .pitchCollision => 10
    let source (v : Option Verdict) : Nat :=
      match v with
      | none => 0
      | some x =>
        match x.source with
        | .host => 1 | .laneDefault => 2 | .forced => 3
    let cls (v : Option Verdict) : Nat :=
      match v with
      | none => 0
      | some x => x.cls.toNat
    let flags (f : EntryFlags) : Nat :=
      bit f.overlength + 2 * bit f.lateVerdict + 4 * bit f.lateStart + 8 * bit f.collision + 16 * bit f.deferred +
      32 * bit f.joined + 64 * bit f.cut + 128 * bit f.missed + 256 * bit f.scheduleFull + 512 * bit f.abandoned
    let record (r : Report) : List Nat :=
      match r with
      | .detect lane tag epoch leading length overlength =>
        [1, 14, lane.val, bit overlength] ++ two tag.toNat ++ two epoch.toNat ++ four leading ++ two length.toNat
      | .outcome lane tag epoch leading verdict fired f =>
        [2, 16, lane.val, cls verdict + 16 * source verdict] ++ two tag.toNat ++ two epoch.toNat ++ four leading ++
          two fired.toNat ++ two (flags f)
      | .exception code lane tag position =>
        [3, 10, exception code, bit lane.isSome + 2 * bit tag.isSome + 16 * (lane.getD 0).val] ++
          two (tag.getD 0).toNat ++ four position
      | .fault x prior p h => [4, 12, cause x, state prior] ++ four p ++ four h
      | .commit epoch h => [5, 8] ++ two epoch.toNat ++ four h
    let set : ProfileSet :=
      match s.epochUnit.view with
      | .shadow => s.epochUnit.shadow
      | .active => currentBank s
    (∀ x ∈ [(0x0000, 0x12), (0x0001, 0x04), (0x0002, 1), (0x0004, 0), (0x0005, s.engine.lastCommand.toNat),
        (0x0006, result s.engine.lastResult), (0x0007, state s.engine.state), (0x010A, s.motion.phaseErrors.toNat),
        (0x010C, match s.motion.decodeMode with | .x1 => 0 | .x2 => 1 | .x4 => 2), (0x010D, bit s.motion.invert),
        (0x010E, s.motion.backlash.toNat), (0x010F, s.motion.phaseLimit.toNat), (0x0110, s.detectors.enabled.toNat),
        (0x0200, bit s.epochUnit.hold), (0x0201, match s.epochUnit.view with | .shadow => 0 | .active => 1),
        (0x0202, bit s.epochUnit.pending), (0x0203, bit s.epochUnit.rejected), (0x0204, bit s.epochUnit.deferral),
        (0x0205, commitResult s.epochUnit.lastResult), (0x0206, s.epochUnit.check.number),
        (0x0207, s.epochUnit.check.index), (0x0500, s.verdicts.laneByte.toNat), (0x0501, s.verdicts.tagLow.toNat),
        (0x0502, s.verdicts.tagHigh.toNat), (0x0503, s.verdicts.classByte.toNat), (0x0504, s.verdicts.fifo.length),
        (0x0610, s.queue.records.length), (0x0611, s.queue.threshold.toNat), (0x0800, s.table.inspection.slot.val)],
      value x.1 = BitVec.ofNat 8 x.2) ∧
    (∀ x ∈ [(Flag.powerOn, 0), (.reportLevel, 1), (.lost, 2), (.exception, 3), (.fault, 4), (.commitDone, 5),
        (.commitDeferred, 6), (.commitRejected, 7), (.verdictErr, 8), (.verdictFull, 9), (.cmdRefused, 10),
        (.accessErr, 11), (.stoppedReached, 12)],
      (value (0x0014 + x.2 / 8)).getLsbD (x.2 % 8) = flagSet x.1 s ∧
      (value (0x0016 + x.2 / 8)).getLsbD (x.2 % 8) = s.interrupts.enables.getLsbD x.1.position) ∧
    (value 0x0015).toNat < 32 ∧ (value 0x0017).toNat < 32 ∧
    (∀ k < 12, shows 0x0008
      (let r := s.window.snapshots.fault
       [cause r.cause, state r.prior, r.further.toNat, 0] ++ four r.p ++ four r.h) k) ∧
    (∀ k < 4, shows 0x020C (four set.pitch) k) ∧
    (∀ (l : Lane), ∀ k < 18, shows (0x0280 + 32 * l.val)
      (let p := set.lanes[l]
       four p.decisionOffset ++ four p.exitOffset ++ two p.minLength.toNat ++ two p.maxLength.toNat ++
         two p.minGap.toNat ++ [p.debounce.toNat, bit p.activeHigh, p.defaultClass.toNat, p.overlengthClass.toNat]) k) ∧
    (∀ (n : Channel), ∀ k < 12, shows (0x0400 + 16 * n.val)
      (let p := set.channels[n]
       four p.offset ++ two p.width.toNat ++ two p.lead.toNat ++ two p.recovery.toNat ++
         [match p.policy with | .refuse => 0 | .join => 1, p.classMask.toNat]) k) ∧
    (∀ (n : Channel), ∀ k < 4, shows (0x0300 + 4 * n.val)
      (let c := s.channels[n].config
       [match c.mode with | .off => 0 | .perItem => 1 | .perPitch => 2 | .verdict => 3, c.lane.val, bit c.activeHigh,
        match c.unit with | .counts => 0 | .microseconds => 1]) k) ∧
    (∀ k < 16, shows 0x0600
      (match s.queue.records with
       | [] => []
       | r :: _ => record r) k) ∧
    (∀ k < 22, shows 0x0810
      (let x := s.table.inspection
       match x.entry with
       | none => [x.slot.val]
       | some e =>
         [x.slot.val,
          match e.state with | .opening => 1 | .tracked => 2 | .held => 3 | .scheduled => 4 | .done => 5,
          e.lane.val, bit e.tag.isSome + 2 * bit e.length.isSome + 4 * bit e.verdict.isSome] ++
         two (e.tag.getD 0).toNat ++ two (e.length.getD 0).toNat ++ two e.epoch.toNat ++
         [match e.bank with | .a => 0 | .b => 1, cls e.verdict, source e.verdict, x.pendingCount] ++
         two e.fired.toNat ++ four e.leading ++ two (flags e.flags)) k) ∧
    ∀ a : Addr, accessClass (target a) = .unmapped → value a.toNat = 0

/-! ### Rules of the whole part -/

/-- The engine changes state only at the events of Table 8-4. -/
def Obligations.EngineChangesStateOnlyAtItsEvents : Prop :=
  ∀ (c : Instr) (s t : State), exec c s = .next t → t.engine.state ≠ s.engine.state →
    (s.engine.state = .stopped ∧ t.engine.state = .running ∧ issues c 1 s = true ∧ t.engine.lastResult = .accepted) ∨
    (s.engine.state = .running ∧ (t.engine.state = .draining ∨ t.engine.state = .stopped ∧ liveEntries s = 0 ∧
      s.schedule = []) ∧ issues c 2 s = true) ∨
    (s.engine.state = .draining ∧ t.engine.state = .stopped ∧ liveEntries t = 0 ∧ t.schedule = [] ∧
      c.byteWritten = none) ∨
    ((s.engine.state = .running ∨ s.engine.state = .draining) ∧ t.engine.state = .frozen ∧ c = .faultReport ∧
      t.engine.frozenFrom = some s.engine.state) ∨
    (s.engine.state = .frozen ∧ issues c 3 s = true ∧ t.engine.lastResult = .accepted ∧
      (t.engine.state = s.engine.frozenFrom.getD .running ∨
        s.engine.frozenFrom = some .draining ∧ t.engine.state = .stopped ∧ liveEntries t = 0 ∧ t.schedule = [])) ∨
    (t.engine.state = .stopped ∧ (issues c 4 s = true ∨ issues c 6 s = true ∨ ∃ levels, c = .pinReset levels))

/-- Out of STOPPED no command but pin reset changes a STOPPED-only setting: the four encoder settings, the lane enable
mask and every channel's mode, lane, active level and width unit. Bank A, Bank B, the current bank and E change only
at a commit (and at pin reset), and a commit is made only by an advance, a START or a COMMIT_NOW, with a change
pending, the stage hold clear and the shadow set valid: it loads the whole shadow set into the previous bank, makes it
current and adds one to E. -/
def Obligations.ConfigurationChangesOnlyByItsRules : Prop :=
  (∀ (c : Instr) (s t : State), exec c s = .next t → s.engine.state ≠ .stopped → (∀ levels, c ≠ .pinReset levels) →
    t.motion.decodeMode = s.motion.decodeMode ∧ t.motion.invert = s.motion.invert ∧
    t.motion.backlash = s.motion.backlash ∧ t.motion.phaseLimit = s.motion.phaseLimit ∧
    t.detectors.enabled = s.detectors.enabled ∧ ∀ n : Channel, t.channels[n].config = s.channels[n].config) ∧
  ∀ (c : Instr) (s t : State), exec c s = .next t → (∀ levels, c ≠ .pinReset levels) →
    (t.epochUnit.bankA = s.epochUnit.bankA ∧ t.epochUnit.bankB = s.epochUnit.bankB ∧
      t.epochUnit.current = s.epochUnit.current ∧ t.epochUnit.epoch = s.epochUnit.epoch) ∨
    (((∃ first, c = .advance first) ∧ s.window.frameOpen = false ∧ s.epochUnit.rejected = false ∨
        s.engine.state = .stopped ∧ issues c 1 s = true ∧ s.epochUnit.rejected = false ∨
        s.engine.state = .stopped ∧ issues c 5 s = true) ∧
      s.epochUnit.pending = true ∧ s.epochUnit.hold = false ∧ validate s.epochUnit.shadow s = none ∧
      t.epochUnit.current = s.epochUnit.current.other ∧ t.epochUnit.epoch = s.epochUnit.epoch + 1 ∧
      bankOf t.epochUnit.current t = s.epochUnit.shadow ∧ bankOf s.epochUnit.current t = currentBank s ∧
      t.epochUnit.shadow = s.epochUnit.shadow ∧ stickySet .commitDone t = true)

/-- A record offered to the queue joins its tail: OUTCOME and FAULT records while one place is free, DETECT, EXCEPTION
and COMMIT records while the depth is 55 or less. A record that is not admitted adds one to the lost-report count,
which saturates at 65535, and sets LOST. Records leave the report queue only at its head, by POP, or all together at a
reset; every other command only adds behind those that are waiting. -/
def Obligations.RecordsLeaveOnlyAtTheHead : Prop :=
  (∀ (r : Report) (s : State),
    let admitted : Bool :=
      match r with
      | .outcome .. | .fault .. => decide (s.queue.records.length < 64)
      | .detect .. | .exception .. | .commit .. => decide (s.queue.records.length ≤ 55)
    offer r s =
      if admitted then { s with queue := { s.queue with records := s.queue.records ++ [r] } }
      else { s with
        queue := { s.queue with lost := if s.queue.lost = 65535 then 65535 else s.queue.lost + 1 },
        interrupts := { s.interrupts with sticky := s.interrupts.sticky ||| Flag.lost.bit } }) ∧
  ∀ (c : Instr) (s t : State), exec c s = .next t →
    ((∃ levels, c = .pinReset levels) ∨ issues c 6 s = true → t.queue.records = []) ∧
    (issues c 7 s = true → ∃ more, t.queue.records = s.queue.records.tail ++ more) ∧
    ((∀ levels, c ≠ .pinReset levels) → issues c 6 s = false → issues c 7 s = false →
      ∃ more, t.queue.records = s.queue.records ++ more)

/-- No confirmed item is lost: through every command but the two resets a confirmed entry either keeps its slot, its
lane, tag, length, epoch, bank, leading position, its verdict once it has one, its flags and its fired channels, or
its OUTCOME record, with all of these that the record carries, stands in the report queue. -/
def Obligations.NoConfirmedItemIsLost : Prop :=
  ∀ (c : Instr) (s t : State) (slot : Slot) (e : Entry), TableSound s → exec c s = .next t →
    (∀ levels, c ≠ .pinReset levels) → issues c 6 s = false →
    entryAt slot s = some e → e.state ≠ .opening →
    ∃ (v : Option Verdict) (f : EntryFlags) (fired : BitVec 16),
      (e.verdict ≠ none → v = e.verdict) ∧ e.flags.bits &&& f.bits = e.flags.bits ∧ e.fired &&& fired = e.fired ∧
      ((∃ state, state ≠ .opening ∧
          entryAt slot t = some { e with state := state, verdict := v, flags := f, fired := fired }) ∨
        .outcome e.lane (e.tag.getD 0) e.epoch e.leading v fired f ∈ t.queue.records)

/-- Every step keeps the bounds: the queue, the FIFO and the schedule within their capacities, the threshold and the
phase-error limit in their ranges, and entries waiting in DONE only while the queue is full or, by the model's choice
of assumption 13, while a verdict record waits for its take. -/
def Obligations.EveryStepKeepsTheBounds : Prop :=
  ∀ s t : State, Bounded s → step s = .next t → Bounded t

/-- Every step keeps the invariant of the line: the table canonical and its lists exact, tags distinct, the counters
in balance, at most one ACTIVE action on a channel and exactly one while it is ACTIVE, links only to live entries, an
empty line in STOPPED and no pulse in FROZEN, the epochs of live entries, and valid banks while the line runs. -/
def Obligations.EveryStepKeepsTheLineSound : Prop :=
  ∀ s t : State, LineSound s → step s = .next t → LineSound t

/-- The part is sound after pin reset, at the reset state and at every level of the inputs. -/
def Obligations.PinResetLeavesTheLineSound : Prop :=
  LineSound State.reset ∧
  ∀ (levels : InputLevels) (s t : State), exec (.pinReset levels) s = .next t → LineSound t
end

