-- ==== Sys2Proof/Laws/Lists.lean ====
section
/-! SUPPORT. The laws of the list and vector helpers: read after write, the canonical form of the slots, sorting and
reordering. -/

namespace Sys2Proof.Machine

/-! ### Vectors -/

@[simp] theorem updateAt_getElem (v : Vector α n) (i : Fin n) (f : α → α) (k : Nat) (h : k < n) :
    (updateAt v i f)[k] = if i.val = k then f v[i.val] else v[k] := by
  unfold updateAt
  simp [Vector.getElem_set]

@[simp] theorem mapAll_getElem (v : Vector α n) (f : α → α) (k : Nat) (h : k < n) : (mapAll v f)[k] = f v[k] := by
  simp [mapAll, Vector.getElem_mk]

/-- The component changed is the one named, and the others stay. -/
theorem updateAt_get (v : Vector α n) (i : Fin n) (f : α → α) (j : Fin n) :
    (updateAt v i f)[j] = if i = j then f v[i] else v[j] := by
  simp [Fin.ext_iff]

theorem mapAll_get (v : Vector α n) (f : α → α) (j : Fin n) : (mapAll v f)[j] = f v[j] := by simp

theorem updateAt_eq_set (v : Vector α n) (i : Fin n) (f : α → α) : updateAt v i f = v.set i (f v[i]) := rfl

/-! ### The slots -/

theorem findEntry_putEntry (slot k : Slot) (e : Entry) (l : List (Slot × Entry)) :
    findEntry k (putEntry slot e l) = if k = slot then some e else findEntry k l := by
  induction l with
  | nil => simp [putEntry, findEntry, eq_comm]
  | cons x rest ih =>
    obtain ⟨j, d⟩ := x
    unfold putEntry
    split
    · simp only [findEntry, eq_comm (a := slot)]
    · split
      · rename_i hj
        subst hj
        by_cases h : j = k
        · simp [findEntry, h]
        · simp [findEntry, h, Ne.symm h]
      · by_cases h : j = k
        · subst h; simp [findEntry, *]
        · simp [findEntry, h, ih]

theorem findEntry_dropEntry (slot k : Slot) (l : List (Slot × Entry)) :
    findEntry k (dropEntry slot l) = if k = slot then none else findEntry k l := by
  unfold dropEntry
  induction l with
  | nil => simp [findEntry]
  | cons x rest ih =>
    obtain ⟨j, d⟩ := x
    by_cases h : j = slot
    · subst h; by_cases hk : k = j <;> simp_all [findEntry, eq_comm]
    · by_cases hk : j = k
      · subst hk; simp [findEntry, h]
      · simpa [findEntry, h, hk] using ih

/-- A slot is listed exactly where it can be found, in a canonical table. -/
theorem findEntry_eq_some_iff {l : List (Slot × Entry)} (h : slotsRising l = true) (k : Slot) (e : Entry) :
    findEntry k l = some e ↔ (k, e) ∈ l := by
  induction l with
  | nil => simp [findEntry]
  | cons x rest ih =>
    obtain ⟨j, d⟩ := x
    simp only [slotsRising, decide_eq_true_eq, List.pairwise_cons] at h ih
    by_cases hk : j = k
    · subst hk
      have : (j, e) ∉ rest := fun m => (lt_irrefl _ (h.1 _ m)).elim
      simp [findEntry, this, eq_comm]
    · simp [findEntry, hk, ih h.2, Ne.symm hk]

theorem findEntry_mem {l : List (Slot × Entry)} {k : Slot} {e : Entry} (h : findEntry k l = some e) : (k, e) ∈ l := by
  induction l with
  | nil => simp [findEntry] at h
  | cons x rest ih =>
    obtain ⟨j, d⟩ := x
    by_cases hk : j = k
    · subst hk; simp [findEntry] at h; simp [h]
    · simp [findEntry, hk] at h; simp [ih h]

theorem findEntry_eq_none_iff (k : Slot) (l : List (Slot × Entry)) : findEntry k l = none ↔ ∀ e, (k, e) ∉ l := by
  induction l with
  | nil => simp [findEntry]
  | cons x rest ih =>
    obtain ⟨j, d⟩ := x
    by_cases hk : j = k
    · subst hk; simp only [findEntry, if_true, reduceCtorEq, false_iff, not_forall]; exact ⟨d, fun h => h List.mem_cons_self⟩
    · simp [findEntry, hk, ih, Ne.symm hk]

theorem mem_putEntry_slot {slot : Slot} {e : Entry} {l : List (Slot × Entry)} {x : Slot × Entry}
    (h : x ∈ putEntry slot e l) : x = (slot, e) ∨ x ∈ l := by
  induction l with
  | nil => simpa [putEntry] using h
  | cons y rest ih =>
    obtain ⟨j, d⟩ := y
    unfold putEntry at h
    split at h
    · simpa using h
    · split at h
      · rcases List.mem_cons.1 h with h | h
        · exact .inl h
        · exact .inr (List.mem_cons_of_mem _ h)
      · rcases List.mem_cons.1 h with h | h
        · exact .inr (h ▸ List.mem_cons_self)
        · exact (ih h).imp_right (List.mem_cons_of_mem _)

/-- A write of a slot keeps the canonical form. -/
theorem putEntry_rising {l : List (Slot × Entry)} (h : slotsRising l = true) (slot : Slot) (e : Entry) :
    slotsRising (putEntry slot e l) = true := by
  simp only [slotsRising, decide_eq_true_eq] at h ⊢
  induction l with
  | nil => simp [putEntry]
  | cons x rest ih =>
    obtain ⟨j, d⟩ := x
    have hc := List.pairwise_cons.1 h
    unfold putEntry
    split
    · rename_i hlt
      refine List.pairwise_cons.2 ⟨fun y hy => ?_, h⟩
      rcases List.mem_cons.1 hy with rfl | hy
      · exact hlt
      · exact lt_trans hlt (hc.1 y hy)
    · rename_i hge
      split
      · rename_i heq; subst heq; exact List.pairwise_cons.2 hc
      · rename_i hne
        refine List.pairwise_cons.2 ⟨fun y hy => ?_, ih hc.2⟩
        rcases mem_putEntry_slot hy with rfl | hy
        · exact lt_of_le_of_ne (not_lt.1 hge) hne
        · exact hc.1 y hy

/-- A slot made FREE keeps the canonical form. -/
theorem dropEntry_rising {l : List (Slot × Entry)} (h : slotsRising l = true) (slot : Slot) :
    slotsRising (dropEntry slot l) = true := by
  simp only [slotsRising, decide_eq_true_eq, dropEntry] at h ⊢
  exact decide_eq_true (h.filter _)

theorem freeSlotFrom_some {l : List (Slot × Entry)} {fuel n : Nat} {slot : Slot} (h : freeSlotFrom l fuel n = some slot) :
    n ≤ slot.val ∧ findEntry slot l = none ∧ ∀ k : Slot, n ≤ k.val → k < slot → findEntry k l ≠ none := by
  induction fuel generalizing n with
  | zero => simp [freeSlotFrom] at h
  | succ fuel ih =>
    unfold freeSlotFrom at h
    split at h
    · rename_i hn
      split at h
      · rename_i hf
        cases h
        exact ⟨le_rfl, by simpa using hf, fun k hk hlt => absurd hk (not_le.2 hlt)⟩
      · rename_i hf
        obtain ⟨h1, h2, h3⟩ := ih h
        refine ⟨by omega, h2, fun k hk hlt => ?_⟩
        by_cases hkn : k.val = n
        · have : k = ⟨n, hn⟩ := Fin.ext hkn
          subst this; simpa using hf
        · exact h3 k (by omega) hlt
    · cases h

theorem freeSlotFrom_none {l : List (Slot × Entry)} {fuel n : Nat} (hfuel : 256 ≤ fuel + n)
    (h : freeSlotFrom l fuel n = none) (k : Slot) (hk : n ≤ k.val) : findEntry k l ≠ none := by
  induction fuel generalizing n with
  | zero => have := k.isLt; omega
  | succ fuel ih =>
    unfold freeSlotFrom at h
    split at h
    · rename_i hn
      split at h
      · cases h
      · rename_i hf
        by_cases hkn : k.val = n
        · have : k = ⟨n, hn⟩ := Fin.ext hkn
          subst this; simpa using hf
        · exact ih (by omega) h (by omega)
    · have := k.isLt; omega

/-- The lowest-numbered FREE slot is FREE, and every slot below it holds an entry (R38). -/
theorem lowestFreeSlot_some {l : List (Slot × Entry)} {slot : Slot} (h : lowestFreeSlot l = some slot) :
    findEntry slot l = none ∧ ∀ k : Slot, k < slot → findEntry k l ≠ none :=
  let ⟨_, h2, h3⟩ := freeSlotFrom_some h
  ⟨h2, fun k hk => h3 k (Nat.zero_le _) hk⟩

/-- No slot is FREE exactly where the search finds none. -/
theorem lowestFreeSlot_none_iff (l : List (Slot × Entry)) :
    lowestFreeSlot l = none ↔ ∀ k : Slot, findEntry k l ≠ none := by
  constructor
  · exact fun h k => freeSlotFrom_none (by omega) h k (Nat.zero_le _)
  · intro h
    cases hs : lowestFreeSlot l with
    | none => rfl
    | some slot => exact absurd (lowestFreeSlot_some hs).1 (h slot)

/-! ### Sorting and reordering -/

theorem insertSorted_perm (before : α → α → Bool) (x : α) (l : List α) : (insertSorted before x l).Perm (x :: l) := by
  induction l with
  | nil => exact .refl _
  | cons y ys ih =>
    unfold insertSorted
    split
    · exact .refl _
    · exact (ih.cons y).trans (.swap x y ys)

theorem sortBy_perm (before : α → α → Bool) (l : List α) : (sortBy before l).Perm l := by
  induction l with
  | nil => exact .refl _
  | cons x xs ih => exact (insertSorted_perm before x _).trans (ih.cons x)

/-- A list sorted by a total and transitive order is in that order. -/
theorem sortBy_pairwise {before : α → α → Bool} (total : ∀ x y, before x y = true ∨ before y x = true)
    (trans : ∀ x y z, before x y = true → before y z = true → before x z = true) (l : List α) :
    (sortBy before l).Pairwise fun x y => before x y = true := by
  have key : ∀ (x : α) (m : List α), (m.Pairwise fun x y => before x y = true) →
      (insertSorted before x m).Pairwise fun x y => before x y = true := by
    intro x m hm
    induction m with
    | nil => simp [insertSorted]
    | cons y ys ih =>
      have hc := List.pairwise_cons.1 hm
      unfold insertSorted
      split
      · rename_i hxy
        refine List.pairwise_cons.2 ⟨fun z hz => ?_, hm⟩
        rcases List.mem_cons.1 hz with rfl | hz
        · exact hxy
        · exact trans _ _ _ hxy (hc.1 z hz)
      · rename_i hxy
        refine List.pairwise_cons.2 ⟨fun z hz => ?_, ih hc.2⟩
        rcases List.mem_cons.1 ((insertSorted_perm before x ys).mem_iff.1 hz) with rfl | hz
        · exact (total z y).resolve_left hxy
        · exact hc.1 z hz
  induction l with
  | nil => simp [sortBy]
  | cons x xs ih => exact key x _ ih

theorem insertAt_perm (n : Nat) (x : α) (l : List α) : (insertAt n x l).Perm (x :: l) := by
  induction l generalizing n with
  | nil => cases n <;> exact .refl _
  | cons y ys ih =>
    cases n with
    | zero => exact .refl _
    | succ n => exact ((ih n).cons y).trans (.swap x y ys)

/-- A number names a permutation of the list. -/
theorem reorder_perm (code : Nat) (l : List α) : (reorder code l).Perm l := by
  induction l generalizing code with
  | nil => exact .refl _
  | cons x xs ih => exact (insertAt_perm _ _ _).trans ((ih _).cons x)

@[simp] theorem modifyFirst_length (q : α → Bool) (f : α → α) (l : List α) : (modifyFirst q f l).length = l.length := by
  induction l with
  | nil => rfl
  | cons x xs ih => unfold modifyFirst; split <;> simp [*]

/-- Where no element satisfies the test nothing changes. -/
theorem modifyFirst_of_none {q : α → Bool} {f : α → α} {l : List α} (h : l.find? q = none) : modifyFirst q f l = l := by
  induction l with
  | nil => rfl
  | cons x xs ih =>
    rw [List.find?_cons] at h
    split at h
    · cases h
    · rename_i hq; simp [modifyFirst, hq, ih h]

/-- The list with its first element that satisfies the test changed, and the rest as it was. -/
theorem modifyFirst_of_some {q : α → Bool} {f : α → α} {l : List α} {x : α} (h : l.find? q = some x) :
    ∃ front back, l = front ++ x :: back ∧ (∀ y ∈ front, q y = false) ∧ q x = true ∧
      modifyFirst q f l = front ++ f x :: back := by
  induction l with
  | nil => simp at h
  | cons y ys ih =>
    rw [List.find?_cons] at h
    split at h
    · rename_i hq
      cases h
      exact ⟨[], ys, rfl, by simp, hq, by simp [modifyFirst, hq]⟩
    · rename_i hq
      obtain ⟨front, back, h1, h2, h3, h4⟩ := ih h
      refine ⟨y :: front, back, by simp [h1], ?_, h3, by simp [modifyFirst, hq, h4]⟩
      intro z hz
      rcases List.mem_cons.1 hz with rfl | hz
      · simpa using hq
      · exact h2 z hz

end Sys2Proof.Machine
end

