-- ==== Sys2Proof/Laws/State.lean ====
section
/-! SUPPORT. One lemma for each field of State under each named update, true by rfl, so that no proof unfolds a record
update. -/

namespace Sys2Proof.Machine

variable (s : State)

/-! ### setFlag -/

@[simp] theorem setFlag_motion (f : Flag) : (setFlag f s).motion = s.motion := rfl
@[simp] theorem setFlag_det (f : Flag) : (setFlag f s).det = s.det := rfl
@[simp] theorem setFlag_detectors (f : Flag) : (setFlag f s).detectors = s.detectors := rfl
@[simp] theorem setFlag_table (f : Flag) : (setFlag f s).table = s.table := rfl
@[simp] theorem setFlag_verdicts (f : Flag) : (setFlag f s).verdicts = s.verdicts := rfl
@[simp] theorem setFlag_epochUnit (f : Flag) : (setFlag f s).epochUnit = s.epochUnit := rfl
@[simp] theorem setFlag_schedule (f : Flag) : (setFlag f s).schedule = s.schedule := rfl
@[simp] theorem setFlag_channels (f : Flag) : (setFlag f s).channels = s.channels := rfl
@[simp] theorem setFlag_engine (f : Flag) : (setFlag f s).engine = s.engine := rfl
@[simp] theorem setFlag_queue (f : Flag) : (setFlag f s).queue = s.queue := rfl
@[simp] theorem setFlag_interrupts (f : Flag) :
    (setFlag f s).interrupts =
      { s.interrupts with sticky := s.interrupts.sticky ||| f.bit } := rfl
@[simp] theorem setFlag_window (f : Flag) : (setFlag f s).window = s.window := rfl
@[simp] theorem setFlag_pending (f : Flag) : (setFlag f s).pending = s.pending := rfl
@[simp] theorem setFlag_freeCount (f : Flag) : (setFlag f s).freeCount = s.freeCount := rfl

/-! ### writeFlags -/

@[simp] theorem writeFlags_motion (which : RegisterHalf) (v : Byte) : (writeFlags which v s).motion = s.motion := rfl
@[simp] theorem writeFlags_det (which : RegisterHalf) (v : Byte) : (writeFlags which v s).det = s.det := rfl
@[simp] theorem writeFlags_detectors (which : RegisterHalf) (v : Byte) : (writeFlags which v s).detectors = s.detectors := rfl
@[simp] theorem writeFlags_table (which : RegisterHalf) (v : Byte) : (writeFlags which v s).table = s.table := rfl
@[simp] theorem writeFlags_verdicts (which : RegisterHalf) (v : Byte) : (writeFlags which v s).verdicts = s.verdicts := rfl
@[simp] theorem writeFlags_epochUnit (which : RegisterHalf) (v : Byte) : (writeFlags which v s).epochUnit = s.epochUnit := rfl
@[simp] theorem writeFlags_schedule (which : RegisterHalf) (v : Byte) : (writeFlags which v s).schedule = s.schedule := rfl
@[simp] theorem writeFlags_channels (which : RegisterHalf) (v : Byte) : (writeFlags which v s).channels = s.channels := rfl
@[simp] theorem writeFlags_engine (which : RegisterHalf) (v : Byte) : (writeFlags which v s).engine = s.engine := rfl
@[simp] theorem writeFlags_queue (which : RegisterHalf) (v : Byte) : (writeFlags which v s).queue = s.queue := rfl
@[simp] theorem writeFlags_interrupts (which : RegisterHalf) (v : Byte) :
    (writeFlags which v s).interrupts =
      { s.interrupts with sticky := s.interrupts.sticky &&& ~~~halfBits which v } := rfl
@[simp] theorem writeFlags_window (which : RegisterHalf) (v : Byte) : (writeFlags which v s).window = s.window := rfl
@[simp] theorem writeFlags_pending (which : RegisterHalf) (v : Byte) : (writeFlags which v s).pending = s.pending := rfl
@[simp] theorem writeFlags_freeCount (which : RegisterHalf) (v : Byte) : (writeFlags which v s).freeCount = s.freeCount := rfl

/-! ### writeEnables -/

@[simp] theorem writeEnables_motion (which : RegisterHalf) (v : Byte) : (writeEnables which v s).motion = s.motion := rfl
@[simp] theorem writeEnables_det (which : RegisterHalf) (v : Byte) : (writeEnables which v s).det = s.det := rfl
@[simp] theorem writeEnables_detectors (which : RegisterHalf) (v : Byte) : (writeEnables which v s).detectors = s.detectors := rfl
@[simp] theorem writeEnables_table (which : RegisterHalf) (v : Byte) : (writeEnables which v s).table = s.table := rfl
@[simp] theorem writeEnables_verdicts (which : RegisterHalf) (v : Byte) : (writeEnables which v s).verdicts = s.verdicts := rfl
@[simp] theorem writeEnables_epochUnit (which : RegisterHalf) (v : Byte) : (writeEnables which v s).epochUnit = s.epochUnit := rfl
@[simp] theorem writeEnables_schedule (which : RegisterHalf) (v : Byte) : (writeEnables which v s).schedule = s.schedule := rfl
@[simp] theorem writeEnables_channels (which : RegisterHalf) (v : Byte) : (writeEnables which v s).channels = s.channels := rfl
@[simp] theorem writeEnables_engine (which : RegisterHalf) (v : Byte) : (writeEnables which v s).engine = s.engine := rfl
@[simp] theorem writeEnables_queue (which : RegisterHalf) (v : Byte) : (writeEnables which v s).queue = s.queue := rfl
@[simp] theorem writeEnables_interrupts (which : RegisterHalf) (v : Byte) :
    (writeEnables which v s).interrupts =
      { s.interrupts with enables := (s.interrupts.enables &&& ~~~halfBits which 0xFF) ||| halfBits which v } := rfl
@[simp] theorem writeEnables_window (which : RegisterHalf) (v : Byte) : (writeEnables which v s).window = s.window := rfl
@[simp] theorem writeEnables_pending (which : RegisterHalf) (v : Byte) : (writeEnables which v s).pending = s.pending := rfl
@[simp] theorem writeEnables_freeCount (which : RegisterHalf) (v : Byte) : (writeEnables which v s).freeCount = s.freeCount := rfl

/-! ### elapseTo -/

@[simp] theorem elapseTo_motion (t : Nat) :
    (elapseTo t s).motion =
      { s.motion with tick := max s.motion.tick t } := rfl
@[simp] theorem elapseTo_det (t : Nat) : (elapseTo t s).det = s.det := rfl
@[simp] theorem elapseTo_detectors (t : Nat) : (elapseTo t s).detectors = s.detectors := rfl
@[simp] theorem elapseTo_table (t : Nat) : (elapseTo t s).table = s.table := rfl
@[simp] theorem elapseTo_verdicts (t : Nat) : (elapseTo t s).verdicts = s.verdicts := rfl
@[simp] theorem elapseTo_epochUnit (t : Nat) : (elapseTo t s).epochUnit = s.epochUnit := rfl
@[simp] theorem elapseTo_schedule (t : Nat) : (elapseTo t s).schedule = s.schedule := rfl
@[simp] theorem elapseTo_channels (t : Nat) : (elapseTo t s).channels = s.channels := rfl
@[simp] theorem elapseTo_engine (t : Nat) : (elapseTo t s).engine = s.engine := rfl
@[simp] theorem elapseTo_queue (t : Nat) : (elapseTo t s).queue = s.queue := rfl
@[simp] theorem elapseTo_interrupts (t : Nat) : (elapseTo t s).interrupts = s.interrupts := rfl
@[simp] theorem elapseTo_window (t : Nat) : (elapseTo t s).window = s.window := rfl
@[simp] theorem elapseTo_pending (t : Nat) : (elapseTo t s).pending = s.pending := rfl
@[simp] theorem elapseTo_freeCount (t : Nat) : (elapseTo t s).freeCount = s.freeCount := rfl

/-! ### setEntry -/

@[simp] theorem setEntry_motion (slot : Slot) (e : Entry) : (setEntry slot e s).motion = s.motion := rfl
@[simp] theorem setEntry_det (slot : Slot) (e : Entry) : (setEntry slot e s).det = s.det := rfl
@[simp] theorem setEntry_detectors (slot : Slot) (e : Entry) : (setEntry slot e s).detectors = s.detectors := rfl
@[simp] theorem setEntry_table (slot : Slot) (e : Entry) :
    (setEntry slot e s).table =
      { s.table with entries := putEntry slot e s.table.entries } := rfl
@[simp] theorem setEntry_verdicts (slot : Slot) (e : Entry) : (setEntry slot e s).verdicts = s.verdicts := rfl
@[simp] theorem setEntry_epochUnit (slot : Slot) (e : Entry) : (setEntry slot e s).epochUnit = s.epochUnit := rfl
@[simp] theorem setEntry_schedule (slot : Slot) (e : Entry) : (setEntry slot e s).schedule = s.schedule := rfl
@[simp] theorem setEntry_channels (slot : Slot) (e : Entry) : (setEntry slot e s).channels = s.channels := rfl
@[simp] theorem setEntry_engine (slot : Slot) (e : Entry) : (setEntry slot e s).engine = s.engine := rfl
@[simp] theorem setEntry_queue (slot : Slot) (e : Entry) : (setEntry slot e s).queue = s.queue := rfl
@[simp] theorem setEntry_interrupts (slot : Slot) (e : Entry) : (setEntry slot e s).interrupts = s.interrupts := rfl
@[simp] theorem setEntry_window (slot : Slot) (e : Entry) : (setEntry slot e s).window = s.window := rfl
@[simp] theorem setEntry_pending (slot : Slot) (e : Entry) : (setEntry slot e s).pending = s.pending := rfl
@[simp] theorem setEntry_freeCount (slot : Slot) (e : Entry) : (setEntry slot e s).freeCount = s.freeCount := rfl

/-! ### leaveLaneList -/

@[simp] theorem leaveLaneList_motion (l : Lane) (slot : Slot) : (leaveLaneList l slot s).motion = s.motion := rfl
@[simp] theorem leaveLaneList_det (l : Lane) (slot : Slot) : (leaveLaneList l slot s).det = s.det := rfl
@[simp] theorem leaveLaneList_detectors (l : Lane) (slot : Slot) : (leaveLaneList l slot s).detectors = s.detectors := rfl
@[simp] theorem leaveLaneList_table (l : Lane) (slot : Slot) :
    (leaveLaneList l slot s).table =
      { s.table with laneList := updateAt s.table.laneList l (·.filter (· ≠ slot)) } := rfl
@[simp] theorem leaveLaneList_verdicts (l : Lane) (slot : Slot) : (leaveLaneList l slot s).verdicts = s.verdicts := rfl
@[simp] theorem leaveLaneList_epochUnit (l : Lane) (slot : Slot) : (leaveLaneList l slot s).epochUnit = s.epochUnit := rfl
@[simp] theorem leaveLaneList_schedule (l : Lane) (slot : Slot) : (leaveLaneList l slot s).schedule = s.schedule := rfl
@[simp] theorem leaveLaneList_channels (l : Lane) (slot : Slot) : (leaveLaneList l slot s).channels = s.channels := rfl
@[simp] theorem leaveLaneList_engine (l : Lane) (slot : Slot) : (leaveLaneList l slot s).engine = s.engine := rfl
@[simp] theorem leaveLaneList_queue (l : Lane) (slot : Slot) : (leaveLaneList l slot s).queue = s.queue := rfl
@[simp] theorem leaveLaneList_interrupts (l : Lane) (slot : Slot) : (leaveLaneList l slot s).interrupts = s.interrupts := rfl
@[simp] theorem leaveLaneList_window (l : Lane) (slot : Slot) : (leaveLaneList l slot s).window = s.window := rfl
@[simp] theorem leaveLaneList_pending (l : Lane) (slot : Slot) : (leaveLaneList l slot s).pending = s.pending := rfl
@[simp] theorem leaveLaneList_freeCount (l : Lane) (slot : Slot) : (leaveLaneList l slot s).freeCount = s.freeCount := rfl

/-! ### modifyCounters -/

@[simp] theorem modifyCounters_motion (l : Lane) (f : LaneCounters → LaneCounters) : (modifyCounters l f s).motion = s.motion := rfl
@[simp] theorem modifyCounters_det (l : Lane) (f : LaneCounters → LaneCounters) : (modifyCounters l f s).det = s.det := rfl
@[simp] theorem modifyCounters_detectors (l : Lane) (f : LaneCounters → LaneCounters) : (modifyCounters l f s).detectors = s.detectors := rfl
@[simp] theorem modifyCounters_table (l : Lane) (f : LaneCounters → LaneCounters) :
    (modifyCounters l f s).table =
      { s.table with counters := updateAt s.table.counters l f } := rfl
@[simp] theorem modifyCounters_verdicts (l : Lane) (f : LaneCounters → LaneCounters) : (modifyCounters l f s).verdicts = s.verdicts := rfl
@[simp] theorem modifyCounters_epochUnit (l : Lane) (f : LaneCounters → LaneCounters) : (modifyCounters l f s).epochUnit = s.epochUnit := rfl
@[simp] theorem modifyCounters_schedule (l : Lane) (f : LaneCounters → LaneCounters) : (modifyCounters l f s).schedule = s.schedule := rfl
@[simp] theorem modifyCounters_channels (l : Lane) (f : LaneCounters → LaneCounters) : (modifyCounters l f s).channels = s.channels := rfl
@[simp] theorem modifyCounters_engine (l : Lane) (f : LaneCounters → LaneCounters) : (modifyCounters l f s).engine = s.engine := rfl
@[simp] theorem modifyCounters_queue (l : Lane) (f : LaneCounters → LaneCounters) : (modifyCounters l f s).queue = s.queue := rfl
@[simp] theorem modifyCounters_interrupts (l : Lane) (f : LaneCounters → LaneCounters) : (modifyCounters l f s).interrupts = s.interrupts := rfl
@[simp] theorem modifyCounters_window (l : Lane) (f : LaneCounters → LaneCounters) : (modifyCounters l f s).window = s.window := rfl
@[simp] theorem modifyCounters_pending (l : Lane) (f : LaneCounters → LaneCounters) : (modifyCounters l f s).pending = s.pending := rfl
@[simp] theorem modifyCounters_freeCount (l : Lane) (f : LaneCounters → LaneCounters) : (modifyCounters l f s).freeCount = s.freeCount := rfl

/-! ### setEngineState -/

@[simp] theorem setEngineState_motion (e : EngineState) : (setEngineState e s).motion = s.motion := rfl
@[simp] theorem setEngineState_det (e : EngineState) : (setEngineState e s).det = s.det := rfl
@[simp] theorem setEngineState_detectors (e : EngineState) : (setEngineState e s).detectors = s.detectors := rfl
@[simp] theorem setEngineState_table (e : EngineState) : (setEngineState e s).table = s.table := rfl
@[simp] theorem setEngineState_verdicts (e : EngineState) : (setEngineState e s).verdicts = s.verdicts := rfl
@[simp] theorem setEngineState_epochUnit (e : EngineState) : (setEngineState e s).epochUnit = s.epochUnit := rfl
@[simp] theorem setEngineState_schedule (e : EngineState) : (setEngineState e s).schedule = s.schedule := rfl
@[simp] theorem setEngineState_channels (e : EngineState) : (setEngineState e s).channels = s.channels := rfl
@[simp] theorem setEngineState_engine (e : EngineState) :
    (setEngineState e s).engine =
      { s.engine with state := e } := rfl
@[simp] theorem setEngineState_queue (e : EngineState) : (setEngineState e s).queue = s.queue := rfl
@[simp] theorem setEngineState_interrupts (e : EngineState) : (setEngineState e s).interrupts = s.interrupts := rfl
@[simp] theorem setEngineState_window (e : EngineState) : (setEngineState e s).window = s.window := rfl
@[simp] theorem setEngineState_pending (e : EngineState) : (setEngineState e s).pending = s.pending := rfl
@[simp] theorem setEngineState_freeCount (e : EngineState) : (setEngineState e s).freeCount = s.freeCount := rfl

/-! ### refuseAccess -/

@[simp] theorem refuseAccess_motion (a : Addr) : (refuseAccess a s).motion = s.motion := rfl
@[simp] theorem refuseAccess_det (a : Addr) : (refuseAccess a s).det = s.det := rfl
@[simp] theorem refuseAccess_detectors (a : Addr) : (refuseAccess a s).detectors = s.detectors := rfl
@[simp] theorem refuseAccess_table (a : Addr) : (refuseAccess a s).table = s.table := rfl
@[simp] theorem refuseAccess_verdicts (a : Addr) : (refuseAccess a s).verdicts = s.verdicts := rfl
@[simp] theorem refuseAccess_epochUnit (a : Addr) : (refuseAccess a s).epochUnit = s.epochUnit := rfl
@[simp] theorem refuseAccess_schedule (a : Addr) : (refuseAccess a s).schedule = s.schedule := rfl
@[simp] theorem refuseAccess_channels (a : Addr) : (refuseAccess a s).channels = s.channels := rfl
@[simp] theorem refuseAccess_engine (a : Addr) : (refuseAccess a s).engine = s.engine := rfl
@[simp] theorem refuseAccess_queue (a : Addr) : (refuseAccess a s).queue = s.queue := rfl
@[simp] theorem refuseAccess_interrupts (a : Addr) :
    (refuseAccess a s).interrupts =
      { s.interrupts with sticky := s.interrupts.sticky ||| Flag.accessErr.bit } := rfl
@[simp] theorem refuseAccess_window (a : Addr) :
    (refuseAccess a s).window =
      { s.window with lastRefused := a } := rfl
@[simp] theorem refuseAccess_pending (a : Addr) : (refuseAccess a s).pending = s.pending := rfl
@[simp] theorem refuseAccess_freeCount (a : Addr) : (refuseAccess a s).freeCount = s.freeCount := rfl

/-! ### place -/

@[simp] theorem place_motion (a : Action) : (place a s).motion = s.motion := rfl
@[simp] theorem place_det (a : Action) : (place a s).det = s.det := rfl
@[simp] theorem place_detectors (a : Action) : (place a s).detectors = s.detectors := rfl
@[simp] theorem place_table (a : Action) : (place a s).table = s.table := rfl
@[simp] theorem place_verdicts (a : Action) : (place a s).verdicts = s.verdicts := rfl
@[simp] theorem place_epochUnit (a : Action) : (place a s).epochUnit = s.epochUnit := rfl
@[simp] theorem place_schedule (a : Action) :
    (place a s).schedule =
      insertAction s.motion.h a s.schedule := rfl
@[simp] theorem place_channels (a : Action) : (place a s).channels = s.channels := rfl
@[simp] theorem place_engine (a : Action) : (place a s).engine = s.engine := rfl
@[simp] theorem place_queue (a : Action) : (place a s).queue = s.queue := rfl
@[simp] theorem place_interrupts (a : Action) : (place a s).interrupts = s.interrupts := rfl
@[simp] theorem place_window (a : Action) : (place a s).window = s.window := rfl
@[simp] theorem place_pending (a : Action) : (place a s).pending = s.pending := rfl
@[simp] theorem place_freeCount (a : Action) : (place a s).freeCount = s.freeCount := rfl

/-! ### setChannelState -/

@[simp] theorem setChannelState_motion (n : Channel) (c : ChannelState) : (setChannelState n c s).motion = s.motion := rfl
@[simp] theorem setChannelState_det (n : Channel) (c : ChannelState) : (setChannelState n c s).det = s.det := rfl
@[simp] theorem setChannelState_detectors (n : Channel) (c : ChannelState) : (setChannelState n c s).detectors = s.detectors := rfl
@[simp] theorem setChannelState_table (n : Channel) (c : ChannelState) : (setChannelState n c s).table = s.table := rfl
@[simp] theorem setChannelState_verdicts (n : Channel) (c : ChannelState) : (setChannelState n c s).verdicts = s.verdicts := rfl
@[simp] theorem setChannelState_epochUnit (n : Channel) (c : ChannelState) : (setChannelState n c s).epochUnit = s.epochUnit := rfl
@[simp] theorem setChannelState_schedule (n : Channel) (c : ChannelState) : (setChannelState n c s).schedule = s.schedule := rfl
@[simp] theorem setChannelState_channels (n : Channel) (c : ChannelState) :
    (setChannelState n c s).channels =
      updateAt s.channels n fun ch => { ch with state := c } := rfl
@[simp] theorem setChannelState_engine (n : Channel) (c : ChannelState) : (setChannelState n c s).engine = s.engine := rfl
@[simp] theorem setChannelState_queue (n : Channel) (c : ChannelState) : (setChannelState n c s).queue = s.queue := rfl
@[simp] theorem setChannelState_interrupts (n : Channel) (c : ChannelState) : (setChannelState n c s).interrupts = s.interrupts := rfl
@[simp] theorem setChannelState_window (n : Channel) (c : ChannelState) : (setChannelState n c s).window = s.window := rfl
@[simp] theorem setChannelState_pending (n : Channel) (c : ChannelState) : (setChannelState n c s).pending = s.pending := rfl
@[simp] theorem setChannelState_freeCount (n : Channel) (c : ChannelState) : (setChannelState n c s).freeCount = s.freeCount := rfl

/-! ### resetChannels -/

@[simp] theorem resetChannels_motion : (resetChannels s).motion = s.motion := rfl
@[simp] theorem resetChannels_det : (resetChannels s).det = s.det := rfl
@[simp] theorem resetChannels_detectors : (resetChannels s).detectors = s.detectors := rfl
@[simp] theorem resetChannels_table : (resetChannels s).table = s.table := rfl
@[simp] theorem resetChannels_verdicts : (resetChannels s).verdicts = s.verdicts := rfl
@[simp] theorem resetChannels_epochUnit : (resetChannels s).epochUnit = s.epochUnit := rfl
@[simp] theorem resetChannels_schedule :
    (resetChannels s).schedule =
      [] := rfl
@[simp] theorem resetChannels_channels :
    (resetChannels s).channels =
      mapAll s.channels fun ch => { ch with state := .idle } := rfl
@[simp] theorem resetChannels_engine : (resetChannels s).engine = s.engine := rfl
@[simp] theorem resetChannels_queue : (resetChannels s).queue = s.queue := rfl
@[simp] theorem resetChannels_interrupts : (resetChannels s).interrupts = s.interrupts := rfl
@[simp] theorem resetChannels_window : (resetChannels s).window = s.window := rfl
@[simp] theorem resetChannels_pending : (resetChannels s).pending = s.pending := rfl
@[simp] theorem resetChannels_freeCount : (resetChannels s).freeCount = s.freeCount := rfl

/-! ### setNextTag -/

@[simp] theorem setNextTag_motion (l : Lane) (tag : Half) : (setNextTag l tag s).motion = s.motion := rfl
@[simp] theorem setNextTag_det (l : Lane) (tag : Half) : (setNextTag l tag s).det = s.det := rfl
@[simp] theorem setNextTag_detectors (l : Lane) (tag : Half) :
    (setNextTag l tag s).detectors =
      { s.detectors with lane := updateAt s.detectors.lane l fun d => { d with nextTag := tag } } := rfl
@[simp] theorem setNextTag_table (l : Lane) (tag : Half) : (setNextTag l tag s).table = s.table := rfl
@[simp] theorem setNextTag_verdicts (l : Lane) (tag : Half) : (setNextTag l tag s).verdicts = s.verdicts := rfl
@[simp] theorem setNextTag_epochUnit (l : Lane) (tag : Half) : (setNextTag l tag s).epochUnit = s.epochUnit := rfl
@[simp] theorem setNextTag_schedule (l : Lane) (tag : Half) : (setNextTag l tag s).schedule = s.schedule := rfl
@[simp] theorem setNextTag_channels (l : Lane) (tag : Half) : (setNextTag l tag s).channels = s.channels := rfl
@[simp] theorem setNextTag_engine (l : Lane) (tag : Half) : (setNextTag l tag s).engine = s.engine := rfl
@[simp] theorem setNextTag_queue (l : Lane) (tag : Half) : (setNextTag l tag s).queue = s.queue := rfl
@[simp] theorem setNextTag_interrupts (l : Lane) (tag : Half) : (setNextTag l tag s).interrupts = s.interrupts := rfl
@[simp] theorem setNextTag_window (l : Lane) (tag : Half) : (setNextTag l tag s).window = s.window := rfl
@[simp] theorem setNextTag_pending (l : Lane) (tag : Half) : (setNextTag l tag s).pending = s.pending := rfl
@[simp] theorem setNextTag_freeCount (l : Lane) (tag : Half) : (setNextTag l tag s).freeCount = s.freeCount := rfl

/-! ### modifyDetector -/

@[simp] theorem modifyDetector_motion (l : Lane) (f : Detector → Detector) : (modifyDetector l f s).motion = s.motion := rfl
@[simp] theorem modifyDetector_det (l : Lane) (f : Detector → Detector) : (modifyDetector l f s).det = s.det := rfl
@[simp] theorem modifyDetector_detectors (l : Lane) (f : Detector → Detector) :
    (modifyDetector l f s).detectors =
      { s.detectors with lane := updateAt s.detectors.lane l f } := rfl
@[simp] theorem modifyDetector_table (l : Lane) (f : Detector → Detector) : (modifyDetector l f s).table = s.table := rfl
@[simp] theorem modifyDetector_verdicts (l : Lane) (f : Detector → Detector) : (modifyDetector l f s).verdicts = s.verdicts := rfl
@[simp] theorem modifyDetector_epochUnit (l : Lane) (f : Detector → Detector) : (modifyDetector l f s).epochUnit = s.epochUnit := rfl
@[simp] theorem modifyDetector_schedule (l : Lane) (f : Detector → Detector) : (modifyDetector l f s).schedule = s.schedule := rfl
@[simp] theorem modifyDetector_channels (l : Lane) (f : Detector → Detector) : (modifyDetector l f s).channels = s.channels := rfl
@[simp] theorem modifyDetector_engine (l : Lane) (f : Detector → Detector) : (modifyDetector l f s).engine = s.engine := rfl
@[simp] theorem modifyDetector_queue (l : Lane) (f : Detector → Detector) : (modifyDetector l f s).queue = s.queue := rfl
@[simp] theorem modifyDetector_interrupts (l : Lane) (f : Detector → Detector) : (modifyDetector l f s).interrupts = s.interrupts := rfl
@[simp] theorem modifyDetector_window (l : Lane) (f : Detector → Detector) : (modifyDetector l f s).window = s.window := rfl
@[simp] theorem modifyDetector_pending (l : Lane) (f : Detector → Detector) : (modifyDetector l f s).pending = s.pending := rfl
@[simp] theorem modifyDetector_freeCount (l : Lane) (f : Detector → Detector) : (modifyDetector l f s).freeCount = s.freeCount := rfl

/-! ### goTo -/

@[simp] theorem goTo_motion (l : Lane) (d : DetectorState) : (goTo l d s).motion = s.motion := rfl
@[simp] theorem goTo_det (l : Lane) (d : DetectorState) : (goTo l d s).det = s.det := rfl
@[simp] theorem goTo_detectors (l : Lane) (d : DetectorState) :
    (goTo l d s).detectors =
      { s.detectors with lane := updateAt s.detectors.lane l ({ · with state := d }) } := rfl
@[simp] theorem goTo_table (l : Lane) (d : DetectorState) : (goTo l d s).table = s.table := rfl
@[simp] theorem goTo_verdicts (l : Lane) (d : DetectorState) : (goTo l d s).verdicts = s.verdicts := rfl
@[simp] theorem goTo_epochUnit (l : Lane) (d : DetectorState) : (goTo l d s).epochUnit = s.epochUnit := rfl
@[simp] theorem goTo_schedule (l : Lane) (d : DetectorState) : (goTo l d s).schedule = s.schedule := rfl
@[simp] theorem goTo_channels (l : Lane) (d : DetectorState) : (goTo l d s).channels = s.channels := rfl
@[simp] theorem goTo_engine (l : Lane) (d : DetectorState) : (goTo l d s).engine = s.engine := rfl
@[simp] theorem goTo_queue (l : Lane) (d : DetectorState) : (goTo l d s).queue = s.queue := rfl
@[simp] theorem goTo_interrupts (l : Lane) (d : DetectorState) : (goTo l d s).interrupts = s.interrupts := rfl
@[simp] theorem goTo_window (l : Lane) (d : DetectorState) : (goTo l d s).window = s.window := rfl
@[simp] theorem goTo_pending (l : Lane) (d : DetectorState) : (goTo l d s).pending = s.pending := rfl
@[simp] theorem goTo_freeCount (l : Lane) (d : DetectorState) : (goTo l d s).freeCount = s.freeCount := rfl

/-! ### discardEdges -/

@[simp] theorem discardEdges_motion : (discardEdges s).motion = s.motion := rfl
@[simp] theorem discardEdges_det : (discardEdges s).det = s.det := rfl
@[simp] theorem discardEdges_detectors :
    (discardEdges s).detectors =
      { s.detectors with lane := mapAll s.detectors.lane ({ · with edge := none }) } := rfl
@[simp] theorem discardEdges_table : (discardEdges s).table = s.table := rfl
@[simp] theorem discardEdges_verdicts : (discardEdges s).verdicts = s.verdicts := rfl
@[simp] theorem discardEdges_epochUnit : (discardEdges s).epochUnit = s.epochUnit := rfl
@[simp] theorem discardEdges_schedule : (discardEdges s).schedule = s.schedule := rfl
@[simp] theorem discardEdges_channels : (discardEdges s).channels = s.channels := rfl
@[simp] theorem discardEdges_engine : (discardEdges s).engine = s.engine := rfl
@[simp] theorem discardEdges_queue : (discardEdges s).queue = s.queue := rfl
@[simp] theorem discardEdges_interrupts : (discardEdges s).interrupts = s.interrupts := rfl
@[simp] theorem discardEdges_window : (discardEdges s).window = s.window := rfl
@[simp] theorem discardEdges_pending : (discardEdges s).pending = s.pending := rfl
@[simp] theorem discardEdges_freeCount : (discardEdges s).freeCount = s.freeCount := rfl

/-! ### resetDetectors -/

@[simp] theorem resetDetectors_motion : (resetDetectors s).motion = s.motion := rfl
@[simp] theorem resetDetectors_det : (resetDetectors s).det = s.det := rfl
@[simp] theorem resetDetectors_detectors :
    (resetDetectors s).detectors =
      { s.detectors with lane := Vector.replicate 4 Detector.reset } := rfl
@[simp] theorem resetDetectors_table : (resetDetectors s).table = s.table := rfl
@[simp] theorem resetDetectors_verdicts : (resetDetectors s).verdicts = s.verdicts := rfl
@[simp] theorem resetDetectors_epochUnit : (resetDetectors s).epochUnit = s.epochUnit := rfl
@[simp] theorem resetDetectors_schedule : (resetDetectors s).schedule = s.schedule := rfl
@[simp] theorem resetDetectors_channels : (resetDetectors s).channels = s.channels := rfl
@[simp] theorem resetDetectors_engine : (resetDetectors s).engine = s.engine := rfl
@[simp] theorem resetDetectors_queue : (resetDetectors s).queue = s.queue := rfl
@[simp] theorem resetDetectors_interrupts : (resetDetectors s).interrupts = s.interrupts := rfl
@[simp] theorem resetDetectors_window : (resetDetectors s).window = s.window := rfl
@[simp] theorem resetDetectors_pending : (resetDetectors s).pending = s.pending := rfl
@[simp] theorem resetDetectors_freeCount : (resetDetectors s).freeCount = s.freeCount := rfl

/-! ### inspect -/

@[simp] theorem inspect_motion (slot : Slot) : (inspect slot s).motion = s.motion := rfl
@[simp] theorem inspect_det (slot : Slot) : (inspect slot s).det = s.det := rfl
@[simp] theorem inspect_detectors (slot : Slot) : (inspect slot s).detectors = s.detectors := rfl
@[simp] theorem inspect_table (slot : Slot) :
    (inspect slot s).table =
      { s.table with inspection := { slot := slot, entry := entryAt slot s, pendingCount := pendingCount slot s } } := rfl
@[simp] theorem inspect_verdicts (slot : Slot) : (inspect slot s).verdicts = s.verdicts := rfl
@[simp] theorem inspect_epochUnit (slot : Slot) : (inspect slot s).epochUnit = s.epochUnit := rfl
@[simp] theorem inspect_schedule (slot : Slot) : (inspect slot s).schedule = s.schedule := rfl
@[simp] theorem inspect_channels (slot : Slot) : (inspect slot s).channels = s.channels := rfl
@[simp] theorem inspect_engine (slot : Slot) : (inspect slot s).engine = s.engine := rfl
@[simp] theorem inspect_queue (slot : Slot) : (inspect slot s).queue = s.queue := rfl
@[simp] theorem inspect_interrupts (slot : Slot) : (inspect slot s).interrupts = s.interrupts := rfl
@[simp] theorem inspect_window (slot : Slot) : (inspect slot s).window = s.window := rfl
@[simp] theorem inspect_pending (slot : Slot) : (inspect slot s).pending = s.pending := rfl
@[simp] theorem inspect_freeCount (slot : Slot) : (inspect slot s).freeCount = s.freeCount := rfl

/-! ### retire -/

@[simp] theorem retire_motion (slot : Slot) (e : Entry) : (retire slot e s).motion = s.motion := rfl
@[simp] theorem retire_det (slot : Slot) (e : Entry) : (retire slot e s).det = s.det := rfl
@[simp] theorem retire_detectors (slot : Slot) (e : Entry) : (retire slot e s).detectors = s.detectors := rfl
@[simp] theorem retire_table (slot : Slot) (e : Entry) :
    (retire slot e s).table =
      { s.table with
      entries := putEntry slot { e with state := .done } s.table.entries,
      laneList := updateAt s.table.laneList e.lane (·.filter (· ≠ slot)),
      doneList := s.table.doneList ++ [slot] } := rfl
@[simp] theorem retire_verdicts (slot : Slot) (e : Entry) : (retire slot e s).verdicts = s.verdicts := rfl
@[simp] theorem retire_epochUnit (slot : Slot) (e : Entry) : (retire slot e s).epochUnit = s.epochUnit := rfl
@[simp] theorem retire_schedule (slot : Slot) (e : Entry) : (retire slot e s).schedule = s.schedule := rfl
@[simp] theorem retire_channels (slot : Slot) (e : Entry) : (retire slot e s).channels = s.channels := rfl
@[simp] theorem retire_engine (slot : Slot) (e : Entry) : (retire slot e s).engine = s.engine := rfl
@[simp] theorem retire_queue (slot : Slot) (e : Entry) : (retire slot e s).queue = s.queue := rfl
@[simp] theorem retire_interrupts (slot : Slot) (e : Entry) : (retire slot e s).interrupts = s.interrupts := rfl
@[simp] theorem retire_window (slot : Slot) (e : Entry) : (retire slot e s).window = s.window := rfl
@[simp] theorem retire_pending (slot : Slot) (e : Entry) : (retire slot e s).pending = s.pending := rfl
@[simp] theorem retire_freeCount (slot : Slot) (e : Entry) : (retire slot e s).freeCount = s.freeCount := rfl

/-! ### stepForward -/

@[simp] theorem stepForward_motion :
    (stepForward s).motion =
      { s.motion with h := s.motion.h + 1, windowCount := satSucc s.motion.windowCount } := rfl
@[simp] theorem stepForward_det : (stepForward s).det = s.det := rfl
@[simp] theorem stepForward_detectors : (stepForward s).detectors = s.detectors := rfl
@[simp] theorem stepForward_table : (stepForward s).table = s.table := rfl
@[simp] theorem stepForward_verdicts : (stepForward s).verdicts = s.verdicts := rfl
@[simp] theorem stepForward_epochUnit : (stepForward s).epochUnit = s.epochUnit := rfl
@[simp] theorem stepForward_schedule : (stepForward s).schedule = s.schedule := rfl
@[simp] theorem stepForward_channels : (stepForward s).channels = s.channels := rfl
@[simp] theorem stepForward_engine : (stepForward s).engine = s.engine := rfl
@[simp] theorem stepForward_queue : (stepForward s).queue = s.queue := rfl
@[simp] theorem stepForward_interrupts : (stepForward s).interrupts = s.interrupts := rfl
@[simp] theorem stepForward_window : (stepForward s).window = s.window := rfl
@[simp] theorem stepForward_pending : (stepForward s).pending = s.pending := rfl
@[simp] theorem stepForward_freeCount : (stepForward s).freeCount = s.freeCount := rfl

/-! ### resetMotion -/

@[simp] theorem resetMotion_motion :
    (resetMotion s).motion =
      { s.motion with h := s.motion.p, m := s.motion.p + (currentBank s).pitch, phaseErrors := 0 } := rfl
@[simp] theorem resetMotion_det : (resetMotion s).det = s.det := rfl
@[simp] theorem resetMotion_detectors : (resetMotion s).detectors = s.detectors := rfl
@[simp] theorem resetMotion_table : (resetMotion s).table = s.table := rfl
@[simp] theorem resetMotion_verdicts : (resetMotion s).verdicts = s.verdicts := rfl
@[simp] theorem resetMotion_epochUnit : (resetMotion s).epochUnit = s.epochUnit := rfl
@[simp] theorem resetMotion_schedule : (resetMotion s).schedule = s.schedule := rfl
@[simp] theorem resetMotion_channels : (resetMotion s).channels = s.channels := rfl
@[simp] theorem resetMotion_engine : (resetMotion s).engine = s.engine := rfl
@[simp] theorem resetMotion_queue : (resetMotion s).queue = s.queue := rfl
@[simp] theorem resetMotion_interrupts : (resetMotion s).interrupts = s.interrupts := rfl
@[simp] theorem resetMotion_window : (resetMotion s).window = s.window := rfl
@[simp] theorem resetMotion_pending : (resetMotion s).pending = s.pending := rfl
@[simp] theorem resetMotion_freeCount : (resetMotion s).freeCount = s.freeCount := rfl

/-! ### resetTable -/

@[simp] theorem resetTable_motion : (resetTable s).motion = s.motion := rfl
@[simp] theorem resetTable_det : (resetTable s).det = s.det := rfl
@[simp] theorem resetTable_detectors : (resetTable s).detectors = s.detectors := rfl
@[simp] theorem resetTable_table :
    (resetTable s).table =
      { Table.reset with inspection := s.table.inspection } := rfl
@[simp] theorem resetTable_verdicts : (resetTable s).verdicts = s.verdicts := rfl
@[simp] theorem resetTable_epochUnit : (resetTable s).epochUnit = s.epochUnit := rfl
@[simp] theorem resetTable_schedule : (resetTable s).schedule = s.schedule := rfl
@[simp] theorem resetTable_channels : (resetTable s).channels = s.channels := rfl
@[simp] theorem resetTable_engine : (resetTable s).engine = s.engine := rfl
@[simp] theorem resetTable_queue : (resetTable s).queue = s.queue := rfl
@[simp] theorem resetTable_interrupts : (resetTable s).interrupts = s.interrupts := rfl
@[simp] theorem resetTable_window : (resetTable s).window = s.window := rfl
@[simp] theorem resetTable_pending : (resetTable s).pending = s.pending := rfl
@[simp] theorem resetTable_freeCount : (resetTable s).freeCount = s.freeCount := rfl

/-! ### enterStopped -/

@[simp] theorem enterStopped_motion : (enterStopped s).motion = s.motion := rfl
@[simp] theorem enterStopped_det : (enterStopped s).det = s.det := rfl
@[simp] theorem enterStopped_detectors :
    (enterStopped s).detectors =
      { s.detectors with lane := mapAll s.detectors.lane ({ · with edge := none }) } := rfl
@[simp] theorem enterStopped_table : (enterStopped s).table = s.table := rfl
@[simp] theorem enterStopped_verdicts : (enterStopped s).verdicts = s.verdicts := rfl
@[simp] theorem enterStopped_epochUnit : (enterStopped s).epochUnit = s.epochUnit := rfl
@[simp] theorem enterStopped_schedule : (enterStopped s).schedule = s.schedule := rfl
@[simp] theorem enterStopped_channels : (enterStopped s).channels = s.channels := rfl
@[simp] theorem enterStopped_engine :
    (enterStopped s).engine =
      { s.engine with state := .stopped, frozenFrom := none } := rfl
@[simp] theorem enterStopped_queue : (enterStopped s).queue = s.queue := rfl
@[simp] theorem enterStopped_interrupts :
    (enterStopped s).interrupts =
      { s.interrupts with sticky := s.interrupts.sticky ||| Flag.stoppedReached.bit } := rfl
@[simp] theorem enterStopped_window : (enterStopped s).window = s.window := rfl
@[simp] theorem enterStopped_pending : (enterStopped s).pending = s.pending := rfl
@[simp] theorem enterStopped_freeCount : (enterStopped s).freeCount = s.freeCount := rfl

/-! ### rejectShadow -/

@[simp] theorem rejectShadow_motion (code : CheckCode) : (rejectShadow code s).motion = s.motion := rfl
@[simp] theorem rejectShadow_det (code : CheckCode) : (rejectShadow code s).det = s.det := rfl
@[simp] theorem rejectShadow_detectors (code : CheckCode) : (rejectShadow code s).detectors = s.detectors := rfl
@[simp] theorem rejectShadow_table (code : CheckCode) : (rejectShadow code s).table = s.table := rfl
@[simp] theorem rejectShadow_verdicts (code : CheckCode) : (rejectShadow code s).verdicts = s.verdicts := rfl
@[simp] theorem rejectShadow_epochUnit (code : CheckCode) :
    (rejectShadow code s).epochUnit =
      { s.epochUnit with rejected := true, deferral := false, lastResult := .rejected, check := code } := rfl
@[simp] theorem rejectShadow_schedule (code : CheckCode) : (rejectShadow code s).schedule = s.schedule := rfl
@[simp] theorem rejectShadow_channels (code : CheckCode) : (rejectShadow code s).channels = s.channels := rfl
@[simp] theorem rejectShadow_engine (code : CheckCode) : (rejectShadow code s).engine = s.engine := rfl
@[simp] theorem rejectShadow_queue (code : CheckCode) : (rejectShadow code s).queue = s.queue := rfl
@[simp] theorem rejectShadow_interrupts (code : CheckCode) :
    (rejectShadow code s).interrupts =
      { s.interrupts with sticky := s.interrupts.sticky ||| Flag.commitRejected.bit } := rfl
@[simp] theorem rejectShadow_window (code : CheckCode) : (rejectShadow code s).window = s.window := rfl
@[simp] theorem rejectShadow_pending (code : CheckCode) : (rejectShadow code s).pending = s.pending := rfl
@[simp] theorem rejectShadow_freeCount (code : CheckCode) : (rejectShadow code s).freeCount = s.freeCount := rfl

/-! ### storeStaged -/

@[simp] theorem storeStaged_motion (p : ProfileSet) : (storeStaged p s).motion = s.motion := rfl
@[simp] theorem storeStaged_det (p : ProfileSet) : (storeStaged p s).det = s.det := rfl
@[simp] theorem storeStaged_detectors (p : ProfileSet) : (storeStaged p s).detectors = s.detectors := rfl
@[simp] theorem storeStaged_table (p : ProfileSet) : (storeStaged p s).table = s.table := rfl
@[simp] theorem storeStaged_verdicts (p : ProfileSet) : (storeStaged p s).verdicts = s.verdicts := rfl
@[simp] theorem storeStaged_epochUnit (p : ProfileSet) :
    (storeStaged p s).epochUnit =
      { s.epochUnit with shadow := p, pending := true, rejected := false } := rfl
@[simp] theorem storeStaged_schedule (p : ProfileSet) : (storeStaged p s).schedule = s.schedule := rfl
@[simp] theorem storeStaged_channels (p : ProfileSet) : (storeStaged p s).channels = s.channels := rfl
@[simp] theorem storeStaged_engine (p : ProfileSet) : (storeStaged p s).engine = s.engine := rfl
@[simp] theorem storeStaged_queue (p : ProfileSet) : (storeStaged p s).queue = s.queue := rfl
@[simp] theorem storeStaged_interrupts (p : ProfileSet) : (storeStaged p s).interrupts = s.interrupts := rfl
@[simp] theorem storeStaged_window (p : ProfileSet) :
    (storeStaged p s).window =
      { s.window with frameOpen := s.window.frameOpen || inData s.window.frame } := rfl
@[simp] theorem storeStaged_pending (p : ProfileSet) : (storeStaged p s).pending = s.pending := rfl
@[simp] theorem storeStaged_freeCount (p : ProfileSet) : (storeStaged p s).freeCount = s.freeCount := rfl

/-! ### setFrame -/

@[simp] theorem setFrame_motion (f : Frame) : (setFrame f s).motion = s.motion := rfl
@[simp] theorem setFrame_det (f : Frame) : (setFrame f s).det = s.det := rfl
@[simp] theorem setFrame_detectors (f : Frame) : (setFrame f s).detectors = s.detectors := rfl
@[simp] theorem setFrame_table (f : Frame) : (setFrame f s).table = s.table := rfl
@[simp] theorem setFrame_verdicts (f : Frame) : (setFrame f s).verdicts = s.verdicts := rfl
@[simp] theorem setFrame_epochUnit (f : Frame) : (setFrame f s).epochUnit = s.epochUnit := rfl
@[simp] theorem setFrame_schedule (f : Frame) : (setFrame f s).schedule = s.schedule := rfl
@[simp] theorem setFrame_channels (f : Frame) : (setFrame f s).channels = s.channels := rfl
@[simp] theorem setFrame_engine (f : Frame) : (setFrame f s).engine = s.engine := rfl
@[simp] theorem setFrame_queue (f : Frame) : (setFrame f s).queue = s.queue := rfl
@[simp] theorem setFrame_interrupts (f : Frame) : (setFrame f s).interrupts = s.interrupts := rfl
@[simp] theorem setFrame_window (f : Frame) :
    (setFrame f s).window =
      { s.window with frame := f } := rfl
@[simp] theorem setFrame_pending (f : Frame) : (setFrame f s).pending = s.pending := rfl
@[simp] theorem setFrame_freeCount (f : Frame) : (setFrame f s).freeCount = s.freeCount := rfl

/-! ### setShiftOut -/

@[simp] theorem setShiftOut_motion (v : Byte) : (setShiftOut v s).motion = s.motion := rfl
@[simp] theorem setShiftOut_det (v : Byte) : (setShiftOut v s).det = s.det := rfl
@[simp] theorem setShiftOut_detectors (v : Byte) : (setShiftOut v s).detectors = s.detectors := rfl
@[simp] theorem setShiftOut_table (v : Byte) : (setShiftOut v s).table = s.table := rfl
@[simp] theorem setShiftOut_verdicts (v : Byte) : (setShiftOut v s).verdicts = s.verdicts := rfl
@[simp] theorem setShiftOut_epochUnit (v : Byte) : (setShiftOut v s).epochUnit = s.epochUnit := rfl
@[simp] theorem setShiftOut_schedule (v : Byte) : (setShiftOut v s).schedule = s.schedule := rfl
@[simp] theorem setShiftOut_channels (v : Byte) : (setShiftOut v s).channels = s.channels := rfl
@[simp] theorem setShiftOut_engine (v : Byte) : (setShiftOut v s).engine = s.engine := rfl
@[simp] theorem setShiftOut_queue (v : Byte) : (setShiftOut v s).queue = s.queue := rfl
@[simp] theorem setShiftOut_interrupts (v : Byte) : (setShiftOut v s).interrupts = s.interrupts := rfl
@[simp] theorem setShiftOut_window (v : Byte) :
    (setShiftOut v s).window =
      { s.window with shiftOut := v } := rfl
@[simp] theorem setShiftOut_pending (v : Byte) : (setShiftOut v s).pending = s.pending := rfl
@[simp] theorem setShiftOut_freeCount (v : Byte) : (setShiftOut v s).freeCount = s.freeCount := rfl

/-! ### endFrame -/

@[simp] theorem endFrame_motion : (endFrame s).motion = s.motion := rfl
@[simp] theorem endFrame_det : (endFrame s).det = s.det := rfl
@[simp] theorem endFrame_detectors : (endFrame s).detectors = s.detectors := rfl
@[simp] theorem endFrame_table : (endFrame s).table = s.table := rfl
@[simp] theorem endFrame_verdicts : (endFrame s).verdicts = s.verdicts := rfl
@[simp] theorem endFrame_epochUnit : (endFrame s).epochUnit = s.epochUnit := rfl
@[simp] theorem endFrame_schedule : (endFrame s).schedule = s.schedule := rfl
@[simp] theorem endFrame_channels : (endFrame s).channels = s.channels := rfl
@[simp] theorem endFrame_engine : (endFrame s).engine = s.engine := rfl
@[simp] theorem endFrame_queue : (endFrame s).queue = s.queue := rfl
@[simp] theorem endFrame_interrupts : (endFrame s).interrupts = s.interrupts := rfl
@[simp] theorem endFrame_window :
    (endFrame s).window =
      { s.window with csn := true, frame := .idle, frameOpen := false } := rfl
@[simp] theorem endFrame_pending : (endFrame s).pending = s.pending := rfl
@[simp] theorem endFrame_freeCount : (endFrame s).freeCount = s.freeCount := rfl

/-! ### setDet -/

@[simp] theorem setDet_motion (l : Lane) (high : Bool) : (setDet l high s).motion = s.motion := rfl
@[simp] theorem setDet_det (l : Lane) (high : Bool) :
    (setDet l high s).det =
      s.det.set l high := rfl
@[simp] theorem setDet_detectors (l : Lane) (high : Bool) : (setDet l high s).detectors = s.detectors := rfl
@[simp] theorem setDet_table (l : Lane) (high : Bool) : (setDet l high s).table = s.table := rfl
@[simp] theorem setDet_verdicts (l : Lane) (high : Bool) : (setDet l high s).verdicts = s.verdicts := rfl
@[simp] theorem setDet_epochUnit (l : Lane) (high : Bool) : (setDet l high s).epochUnit = s.epochUnit := rfl
@[simp] theorem setDet_schedule (l : Lane) (high : Bool) : (setDet l high s).schedule = s.schedule := rfl
@[simp] theorem setDet_channels (l : Lane) (high : Bool) : (setDet l high s).channels = s.channels := rfl
@[simp] theorem setDet_engine (l : Lane) (high : Bool) : (setDet l high s).engine = s.engine := rfl
@[simp] theorem setDet_queue (l : Lane) (high : Bool) : (setDet l high s).queue = s.queue := rfl
@[simp] theorem setDet_interrupts (l : Lane) (high : Bool) : (setDet l high s).interrupts = s.interrupts := rfl
@[simp] theorem setDet_window (l : Lane) (high : Bool) : (setDet l high s).window = s.window := rfl
@[simp] theorem setDet_pending (l : Lane) (high : Bool) : (setDet l high s).pending = s.pending := rfl
@[simp] theorem setDet_freeCount (l : Lane) (high : Bool) : (setDet l high s).freeCount = s.freeCount := rfl

/-! ### enqueueEvents -/

@[simp] theorem enqueueEvents_motion (events : List Instr) : (enqueueEvents events s).motion = s.motion := rfl
@[simp] theorem enqueueEvents_det (events : List Instr) : (enqueueEvents events s).det = s.det := rfl
@[simp] theorem enqueueEvents_detectors (events : List Instr) : (enqueueEvents events s).detectors = s.detectors := rfl
@[simp] theorem enqueueEvents_table (events : List Instr) : (enqueueEvents events s).table = s.table := rfl
@[simp] theorem enqueueEvents_verdicts (events : List Instr) : (enqueueEvents events s).verdicts = s.verdicts := rfl
@[simp] theorem enqueueEvents_epochUnit (events : List Instr) : (enqueueEvents events s).epochUnit = s.epochUnit := rfl
@[simp] theorem enqueueEvents_schedule (events : List Instr) : (enqueueEvents events s).schedule = s.schedule := rfl
@[simp] theorem enqueueEvents_channels (events : List Instr) : (enqueueEvents events s).channels = s.channels := rfl
@[simp] theorem enqueueEvents_engine (events : List Instr) : (enqueueEvents events s).engine = s.engine := rfl
@[simp] theorem enqueueEvents_queue (events : List Instr) : (enqueueEvents events s).queue = s.queue := rfl
@[simp] theorem enqueueEvents_interrupts (events : List Instr) : (enqueueEvents events s).interrupts = s.interrupts := rfl
@[simp] theorem enqueueEvents_window (events : List Instr) : (enqueueEvents events s).window = s.window := rfl
@[simp] theorem enqueueEvents_pending (events : List Instr) :
    (enqueueEvents events s).pending =
      s.pending ++ reorder (Config.eventOrder s.freeCount) events := rfl
@[simp] theorem enqueueEvents_freeCount (events : List Instr) :
    (enqueueEvents events s).freeCount =
      s.freeCount + 1 := rfl

end Sys2Proof.Machine
end

