-- ==== Sys2Proof/Laws/Frames.lean ====
section
/-! SUPPORT. The frames of the shared operations: one lemma for each field of State that an operation leaves as it was. -/

namespace Sys2Proof.Machine

-- One thread: these many small proofs elaborated at once take more memory than a check allows.
set_option Elab.async false

/-- A fold whose every step keeps a quantity keeps it. -/
theorem foldl_field (g : State → β) (step : State → α → State) (h : ∀ s x, g (step s x) = g s) (l : List α) (s : State) :
    g (l.foldl step s) = g s := by
  induction l generalizing s with
  | nil => rfl
  | cons x xs ih => rw [List.foldl_cons, ih, h]

variable (s : State)

/-! ### The report queue -/

@[simp] theorem offer_motion (r : Report) : (offer r s).motion = s.motion := by unfold offer; (repeat' split) <;> simp
@[simp] theorem offer_det (r : Report) : (offer r s).det = s.det := by unfold offer; (repeat' split) <;> simp
@[simp] theorem offer_detectors (r : Report) : (offer r s).detectors = s.detectors :=
  by unfold offer; (repeat' split) <;> simp
@[simp] theorem offer_table (r : Report) : (offer r s).table = s.table := by unfold offer; (repeat' split) <;> simp
@[simp] theorem offer_verdicts (r : Report) : (offer r s).verdicts = s.verdicts :=
  by unfold offer; (repeat' split) <;> simp
@[simp] theorem offer_epochUnit (r : Report) : (offer r s).epochUnit = s.epochUnit :=
  by unfold offer; (repeat' split) <;> simp
@[simp] theorem offer_schedule (r : Report) : (offer r s).schedule = s.schedule :=
  by unfold offer; (repeat' split) <;> simp
@[simp] theorem offer_channels (r : Report) : (offer r s).channels = s.channels :=
  by unfold offer; (repeat' split) <;> simp
@[simp] theorem offer_engine (r : Report) : (offer r s).engine = s.engine := by unfold offer; (repeat' split) <;> simp
@[simp] theorem offer_window (r : Report) : (offer r s).window = s.window := by unfold offer; (repeat' split) <;> simp
@[simp] theorem offer_pending (r : Report) : (offer r s).pending = s.pending :=
  by unfold offer; (repeat' split) <;> simp
@[simp] theorem offer_freeCount (r : Report) : (offer r s).freeCount = s.freeCount :=
  by unfold offer; (repeat' split) <;> simp

@[simp] theorem raise_motion (code : ExceptionCode) (l : Option Lane) (tag : Option Half) : (raise code l tag s).motion = s.motion :=
  by simp [raise]
@[simp] theorem raise_det (code : ExceptionCode) (l : Option Lane) (tag : Option Half) : (raise code l tag s).det = s.det :=
  by simp [raise]
@[simp] theorem raise_detectors (code : ExceptionCode) (l : Option Lane) (tag : Option Half) : (raise code l tag s).detectors = s.detectors :=
  by simp [raise]
@[simp] theorem raise_table (code : ExceptionCode) (l : Option Lane) (tag : Option Half) : (raise code l tag s).table = s.table :=
  by simp [raise]
@[simp] theorem raise_verdicts (code : ExceptionCode) (l : Option Lane) (tag : Option Half) : (raise code l tag s).verdicts = s.verdicts :=
  by simp [raise]
@[simp] theorem raise_epochUnit (code : ExceptionCode) (l : Option Lane) (tag : Option Half) : (raise code l tag s).epochUnit = s.epochUnit :=
  by simp [raise]
@[simp] theorem raise_schedule (code : ExceptionCode) (l : Option Lane) (tag : Option Half) : (raise code l tag s).schedule = s.schedule :=
  by simp [raise]
@[simp] theorem raise_channels (code : ExceptionCode) (l : Option Lane) (tag : Option Half) : (raise code l tag s).channels = s.channels :=
  by simp [raise]
@[simp] theorem raise_engine (code : ExceptionCode) (l : Option Lane) (tag : Option Half) : (raise code l tag s).engine = s.engine :=
  by simp [raise]
@[simp] theorem raise_window (code : ExceptionCode) (l : Option Lane) (tag : Option Half) : (raise code l tag s).window = s.window :=
  by simp [raise]
@[simp] theorem raise_pending (code : ExceptionCode) (l : Option Lane) (tag : Option Half) : (raise code l tag s).pending = s.pending :=
  by simp [raise]
@[simp] theorem raise_freeCount (code : ExceptionCode) (l : Option Lane) (tag : Option Half) : (raise code l tag s).freeCount = s.freeCount :=
  by simp [raise]

/-! ### Entries -/

@[simp] theorem modifyEntry_motion (slot : Slot) (f : Entry → Entry) : (modifyEntry slot f s).motion = s.motion :=
  by unfold modifyEntry; (repeat' split) <;> simp
@[simp] theorem modifyEntry_det (slot : Slot) (f : Entry → Entry) : (modifyEntry slot f s).det = s.det :=
  by unfold modifyEntry; (repeat' split) <;> simp
@[simp] theorem modifyEntry_detectors (slot : Slot) (f : Entry → Entry) : (modifyEntry slot f s).detectors = s.detectors :=
  by unfold modifyEntry; (repeat' split) <;> simp
@[simp] theorem modifyEntry_verdicts (slot : Slot) (f : Entry → Entry) : (modifyEntry slot f s).verdicts = s.verdicts :=
  by unfold modifyEntry; (repeat' split) <;> simp
@[simp] theorem modifyEntry_epochUnit (slot : Slot) (f : Entry → Entry) : (modifyEntry slot f s).epochUnit = s.epochUnit :=
  by unfold modifyEntry; (repeat' split) <;> simp
@[simp] theorem modifyEntry_schedule (slot : Slot) (f : Entry → Entry) : (modifyEntry slot f s).schedule = s.schedule :=
  by unfold modifyEntry; (repeat' split) <;> simp
@[simp] theorem modifyEntry_channels (slot : Slot) (f : Entry → Entry) : (modifyEntry slot f s).channels = s.channels :=
  by unfold modifyEntry; (repeat' split) <;> simp
@[simp] theorem modifyEntry_engine (slot : Slot) (f : Entry → Entry) : (modifyEntry slot f s).engine = s.engine :=
  by unfold modifyEntry; (repeat' split) <;> simp
@[simp] theorem modifyEntry_queue (slot : Slot) (f : Entry → Entry) : (modifyEntry slot f s).queue = s.queue :=
  by unfold modifyEntry; (repeat' split) <;> simp
@[simp] theorem modifyEntry_interrupts (slot : Slot) (f : Entry → Entry) : (modifyEntry slot f s).interrupts = s.interrupts :=
  by unfold modifyEntry; (repeat' split) <;> simp
@[simp] theorem modifyEntry_window (slot : Slot) (f : Entry → Entry) : (modifyEntry slot f s).window = s.window :=
  by unfold modifyEntry; (repeat' split) <;> simp
@[simp] theorem modifyEntry_pending (slot : Slot) (f : Entry → Entry) : (modifyEntry slot f s).pending = s.pending :=
  by unfold modifyEntry; (repeat' split) <;> simp
@[simp] theorem modifyEntry_freeCount (slot : Slot) (f : Entry → Entry) : (modifyEntry slot f s).freeCount = s.freeCount :=
  by unfold modifyEntry; (repeat' split) <;> simp

@[simp] theorem addFlags_motion (slot : Slot) (f : EntryFlags → EntryFlags) : (addFlags slot f s).motion = s.motion :=
  by simp [addFlags]
@[simp] theorem addFlags_det (slot : Slot) (f : EntryFlags → EntryFlags) : (addFlags slot f s).det = s.det :=
  by simp [addFlags]
@[simp] theorem addFlags_detectors (slot : Slot) (f : EntryFlags → EntryFlags) : (addFlags slot f s).detectors = s.detectors :=
  by simp [addFlags]
@[simp] theorem addFlags_verdicts (slot : Slot) (f : EntryFlags → EntryFlags) : (addFlags slot f s).verdicts = s.verdicts :=
  by simp [addFlags]
@[simp] theorem addFlags_epochUnit (slot : Slot) (f : EntryFlags → EntryFlags) : (addFlags slot f s).epochUnit = s.epochUnit :=
  by simp [addFlags]
@[simp] theorem addFlags_schedule (slot : Slot) (f : EntryFlags → EntryFlags) : (addFlags slot f s).schedule = s.schedule :=
  by simp [addFlags]
@[simp] theorem addFlags_channels (slot : Slot) (f : EntryFlags → EntryFlags) : (addFlags slot f s).channels = s.channels :=
  by simp [addFlags]
@[simp] theorem addFlags_engine (slot : Slot) (f : EntryFlags → EntryFlags) : (addFlags slot f s).engine = s.engine :=
  by simp [addFlags]
@[simp] theorem addFlags_queue (slot : Slot) (f : EntryFlags → EntryFlags) : (addFlags slot f s).queue = s.queue :=
  by simp [addFlags]
@[simp] theorem addFlags_interrupts (slot : Slot) (f : EntryFlags → EntryFlags) : (addFlags slot f s).interrupts = s.interrupts :=
  by simp [addFlags]
@[simp] theorem addFlags_window (slot : Slot) (f : EntryFlags → EntryFlags) : (addFlags slot f s).window = s.window :=
  by simp [addFlags]
@[simp] theorem addFlags_pending (slot : Slot) (f : EntryFlags → EntryFlags) : (addFlags slot f s).pending = s.pending :=
  by simp [addFlags]
@[simp] theorem addFlags_freeCount (slot : Slot) (f : EntryFlags → EntryFlags) : (addFlags slot f s).freeCount = s.freeCount :=
  by simp [addFlags]

@[simp] theorem addFired_motion (slot : Slot) (n : Channel) : (addFired slot n s).motion = s.motion :=
  by simp [addFired]
@[simp] theorem addFired_det (slot : Slot) (n : Channel) : (addFired slot n s).det = s.det := by simp [addFired]
@[simp] theorem addFired_detectors (slot : Slot) (n : Channel) : (addFired slot n s).detectors = s.detectors :=
  by simp [addFired]
@[simp] theorem addFired_verdicts (slot : Slot) (n : Channel) : (addFired slot n s).verdicts = s.verdicts :=
  by simp [addFired]
@[simp] theorem addFired_epochUnit (slot : Slot) (n : Channel) : (addFired slot n s).epochUnit = s.epochUnit :=
  by simp [addFired]
@[simp] theorem addFired_schedule (slot : Slot) (n : Channel) : (addFired slot n s).schedule = s.schedule :=
  by simp [addFired]
@[simp] theorem addFired_channels (slot : Slot) (n : Channel) : (addFired slot n s).channels = s.channels :=
  by simp [addFired]
@[simp] theorem addFired_engine (slot : Slot) (n : Channel) : (addFired slot n s).engine = s.engine :=
  by simp [addFired]
@[simp] theorem addFired_queue (slot : Slot) (n : Channel) : (addFired slot n s).queue = s.queue := by simp [addFired]
@[simp] theorem addFired_interrupts (slot : Slot) (n : Channel) : (addFired slot n s).interrupts = s.interrupts :=
  by simp [addFired]
@[simp] theorem addFired_window (slot : Slot) (n : Channel) : (addFired slot n s).window = s.window :=
  by simp [addFired]
@[simp] theorem addFired_pending (slot : Slot) (n : Channel) : (addFired slot n s).pending = s.pending :=
  by simp [addFired]
@[simp] theorem addFired_freeCount (slot : Slot) (n : Channel) : (addFired slot n s).freeCount = s.freeCount :=
  by simp [addFired]

@[simp] theorem postEntry_motion (slot : Slot) (e : Entry) : (postEntry slot e s).motion = s.motion :=
  by simp [postEntry]
@[simp] theorem postEntry_det (slot : Slot) (e : Entry) : (postEntry slot e s).det = s.det := by simp [postEntry]
@[simp] theorem postEntry_detectors (slot : Slot) (e : Entry) : (postEntry slot e s).detectors = s.detectors :=
  by simp [postEntry]
@[simp] theorem postEntry_verdicts (slot : Slot) (e : Entry) : (postEntry slot e s).verdicts = s.verdicts :=
  by simp [postEntry]
@[simp] theorem postEntry_epochUnit (slot : Slot) (e : Entry) : (postEntry slot e s).epochUnit = s.epochUnit :=
  by simp [postEntry]
@[simp] theorem postEntry_schedule (slot : Slot) (e : Entry) : (postEntry slot e s).schedule = s.schedule :=
  by simp [postEntry]
@[simp] theorem postEntry_channels (slot : Slot) (e : Entry) : (postEntry slot e s).channels = s.channels :=
  by simp [postEntry]
@[simp] theorem postEntry_engine (slot : Slot) (e : Entry) : (postEntry slot e s).engine = s.engine :=
  by simp [postEntry]
@[simp] theorem postEntry_window (slot : Slot) (e : Entry) : (postEntry slot e s).window = s.window :=
  by simp [postEntry]
@[simp] theorem postEntry_pending (slot : Slot) (e : Entry) : (postEntry slot e s).pending = s.pending :=
  by simp [postEntry]
@[simp] theorem postEntry_freeCount (slot : Slot) (e : Entry) : (postEntry slot e s).freeCount = s.freeCount :=
  by simp [postEntry]

@[simp] theorem postOutcome_motion : (postOutcome s).motion = s.motion :=
  by unfold postOutcome; (repeat' split) <;> simp
@[simp] theorem postOutcome_det : (postOutcome s).det = s.det := by unfold postOutcome; (repeat' split) <;> simp
@[simp] theorem postOutcome_detectors : (postOutcome s).detectors = s.detectors :=
  by unfold postOutcome; (repeat' split) <;> simp
@[simp] theorem postOutcome_verdicts : (postOutcome s).verdicts = s.verdicts :=
  by unfold postOutcome; (repeat' split) <;> simp
@[simp] theorem postOutcome_epochUnit : (postOutcome s).epochUnit = s.epochUnit :=
  by unfold postOutcome; (repeat' split) <;> simp
@[simp] theorem postOutcome_schedule : (postOutcome s).schedule = s.schedule :=
  by unfold postOutcome; (repeat' split) <;> simp
@[simp] theorem postOutcome_channels : (postOutcome s).channels = s.channels :=
  by unfold postOutcome; (repeat' split) <;> simp
@[simp] theorem postOutcome_engine : (postOutcome s).engine = s.engine :=
  by unfold postOutcome; (repeat' split) <;> simp
@[simp] theorem postOutcome_window : (postOutcome s).window = s.window :=
  by unfold postOutcome; (repeat' split) <;> simp
@[simp] theorem postOutcome_pending : (postOutcome s).pending = s.pending :=
  by unfold postOutcome; (repeat' split) <;> simp
@[simp] theorem postOutcome_freeCount : (postOutcome s).freeCount = s.freeCount :=
  by unfold postOutcome; (repeat' split) <;> simp

@[simp] theorem postOutcomes_motion (n : Nat) : (postOutcomes n s).motion = s.motion := by
  induction n generalizing s with
  | zero => rfl
  | succ n ih => simp [postOutcomes, ih]
@[simp] theorem postOutcomes_det (n : Nat) : (postOutcomes n s).det = s.det := by
  induction n generalizing s with
  | zero => rfl
  | succ n ih => simp [postOutcomes, ih]
@[simp] theorem postOutcomes_detectors (n : Nat) : (postOutcomes n s).detectors = s.detectors := by
  induction n generalizing s with
  | zero => rfl
  | succ n ih => simp [postOutcomes, ih]
@[simp] theorem postOutcomes_verdicts (n : Nat) : (postOutcomes n s).verdicts = s.verdicts := by
  induction n generalizing s with
  | zero => rfl
  | succ n ih => simp [postOutcomes, ih]
@[simp] theorem postOutcomes_epochUnit (n : Nat) : (postOutcomes n s).epochUnit = s.epochUnit := by
  induction n generalizing s with
  | zero => rfl
  | succ n ih => simp [postOutcomes, ih]
@[simp] theorem postOutcomes_schedule (n : Nat) : (postOutcomes n s).schedule = s.schedule := by
  induction n generalizing s with
  | zero => rfl
  | succ n ih => simp [postOutcomes, ih]
@[simp] theorem postOutcomes_channels (n : Nat) : (postOutcomes n s).channels = s.channels := by
  induction n generalizing s with
  | zero => rfl
  | succ n ih => simp [postOutcomes, ih]
@[simp] theorem postOutcomes_engine (n : Nat) : (postOutcomes n s).engine = s.engine := by
  induction n generalizing s with
  | zero => rfl
  | succ n ih => simp [postOutcomes, ih]
@[simp] theorem postOutcomes_window (n : Nat) : (postOutcomes n s).window = s.window := by
  induction n generalizing s with
  | zero => rfl
  | succ n ih => simp [postOutcomes, ih]
@[simp] theorem postOutcomes_pending (n : Nat) : (postOutcomes n s).pending = s.pending := by
  induction n generalizing s with
  | zero => rfl
  | succ n ih => simp [postOutcomes, ih]
@[simp] theorem postOutcomes_freeCount (n : Nat) : (postOutcomes n s).freeCount = s.freeCount := by
  induction n generalizing s with
  | zero => rfl
  | succ n ih => simp [postOutcomes, ih]

@[simp] theorem serveDone_motion : (serveDone s).motion = s.motion := by simp [serveDone]
@[simp] theorem serveDone_det : (serveDone s).det = s.det := by simp [serveDone]
@[simp] theorem serveDone_detectors : (serveDone s).detectors = s.detectors := by simp [serveDone]
@[simp] theorem serveDone_verdicts : (serveDone s).verdicts = s.verdicts := by simp [serveDone]
@[simp] theorem serveDone_epochUnit : (serveDone s).epochUnit = s.epochUnit := by simp [serveDone]
@[simp] theorem serveDone_schedule : (serveDone s).schedule = s.schedule := by simp [serveDone]
@[simp] theorem serveDone_channels : (serveDone s).channels = s.channels := by simp [serveDone]
@[simp] theorem serveDone_engine : (serveDone s).engine = s.engine := by simp [serveDone]
@[simp] theorem serveDone_window : (serveDone s).window = s.window := by simp [serveDone]
@[simp] theorem serveDone_pending : (serveDone s).pending = s.pending := by simp [serveDone]
@[simp] theorem serveDone_freeCount : (serveDone s).freeCount = s.freeCount := by simp [serveDone]

@[simp] theorem settlePosts_motion : (settlePosts s).motion = s.motion := by unfold settlePosts; split <;> simp
@[simp] theorem settlePosts_det : (settlePosts s).det = s.det := by unfold settlePosts; split <;> simp
@[simp] theorem settlePosts_detectors : (settlePosts s).detectors = s.detectors := by unfold settlePosts; split <;> simp
@[simp] theorem settlePosts_verdicts : (settlePosts s).verdicts = s.verdicts := by unfold settlePosts; split <;> simp
@[simp] theorem settlePosts_epochUnit : (settlePosts s).epochUnit = s.epochUnit := by unfold settlePosts; split <;> simp
@[simp] theorem settlePosts_schedule : (settlePosts s).schedule = s.schedule := by unfold settlePosts; split <;> simp
@[simp] theorem settlePosts_channels : (settlePosts s).channels = s.channels := by unfold settlePosts; split <;> simp
@[simp] theorem settlePosts_engine : (settlePosts s).engine = s.engine := by unfold settlePosts; split <;> simp
@[simp] theorem settlePosts_window : (settlePosts s).window = s.window := by unfold settlePosts; split <;> simp
@[simp] theorem settlePosts_pending : (settlePosts s).pending = s.pending := by unfold settlePosts; split <;> simp
@[simp] theorem settlePosts_freeCount : (settlePosts s).freeCount = s.freeCount := by unfold settlePosts; split <;> simp

@[simp] theorem discardEntry_motion (slot : Slot) (e : Entry) : (discardEntry slot e s).motion = s.motion :=
  by simp [discardEntry]
@[simp] theorem discardEntry_det (slot : Slot) (e : Entry) : (discardEntry slot e s).det = s.det :=
  by simp [discardEntry]
@[simp] theorem discardEntry_detectors (slot : Slot) (e : Entry) : (discardEntry slot e s).detectors = s.detectors :=
  by simp [discardEntry]
@[simp] theorem discardEntry_verdicts (slot : Slot) (e : Entry) : (discardEntry slot e s).verdicts = s.verdicts :=
  by simp [discardEntry]
@[simp] theorem discardEntry_epochUnit (slot : Slot) (e : Entry) : (discardEntry slot e s).epochUnit = s.epochUnit :=
  by simp [discardEntry]
@[simp] theorem discardEntry_channels (slot : Slot) (e : Entry) : (discardEntry slot e s).channels = s.channels :=
  by simp [discardEntry]
@[simp] theorem discardEntry_engine (slot : Slot) (e : Entry) : (discardEntry slot e s).engine = s.engine :=
  by simp [discardEntry]
@[simp] theorem discardEntry_queue (slot : Slot) (e : Entry) : (discardEntry slot e s).queue = s.queue :=
  by simp [discardEntry]
@[simp] theorem discardEntry_interrupts (slot : Slot) (e : Entry) : (discardEntry slot e s).interrupts = s.interrupts :=
  by simp [discardEntry]
@[simp] theorem discardEntry_window (slot : Slot) (e : Entry) : (discardEntry slot e s).window = s.window :=
  by simp [discardEntry]
@[simp] theorem discardEntry_pending (slot : Slot) (e : Entry) : (discardEntry slot e s).pending = s.pending :=
  by simp [discardEntry]
@[simp] theorem discardEntry_freeCount (slot : Slot) (e : Entry) : (discardEntry slot e s).freeCount = s.freeCount :=
  by simp [discardEntry]

@[simp] theorem confirm_motion (slot : Slot) (e : Entry) (length : Half) (overlength : Option Sys2Proof.Class) : (confirm slot e length overlength s).motion = s.motion :=
  by simp [confirm]
@[simp] theorem confirm_det (slot : Slot) (e : Entry) (length : Half) (overlength : Option Sys2Proof.Class) : (confirm slot e length overlength s).det = s.det :=
  by simp [confirm]
@[simp] theorem confirm_verdicts (slot : Slot) (e : Entry) (length : Half) (overlength : Option Sys2Proof.Class) : (confirm slot e length overlength s).verdicts = s.verdicts :=
  by simp [confirm]
@[simp] theorem confirm_epochUnit (slot : Slot) (e : Entry) (length : Half) (overlength : Option Sys2Proof.Class) : (confirm slot e length overlength s).epochUnit = s.epochUnit :=
  by simp [confirm]
@[simp] theorem confirm_schedule (slot : Slot) (e : Entry) (length : Half) (overlength : Option Sys2Proof.Class) : (confirm slot e length overlength s).schedule = s.schedule :=
  by simp [confirm]
@[simp] theorem confirm_channels (slot : Slot) (e : Entry) (length : Half) (overlength : Option Sys2Proof.Class) : (confirm slot e length overlength s).channels = s.channels :=
  by simp [confirm]
@[simp] theorem confirm_engine (slot : Slot) (e : Entry) (length : Half) (overlength : Option Sys2Proof.Class) : (confirm slot e length overlength s).engine = s.engine :=
  by simp [confirm]
@[simp] theorem confirm_window (slot : Slot) (e : Entry) (length : Half) (overlength : Option Sys2Proof.Class) : (confirm slot e length overlength s).window = s.window :=
  by simp [confirm]
@[simp] theorem confirm_pending (slot : Slot) (e : Entry) (length : Half) (overlength : Option Sys2Proof.Class) : (confirm slot e length overlength s).pending = s.pending :=
  by simp [confirm]
@[simp] theorem confirm_freeCount (slot : Slot) (e : Entry) (length : Half) (overlength : Option Sys2Proof.Class) : (confirm slot e length overlength s).freeCount = s.freeCount :=
  by simp [confirm]

/-! ### The command status -/

@[simp] theorem finishCommand_motion (code : Byte) (r : CommandResult) : (finishCommand code r s).motion = s.motion :=
  by unfold finishCommand; (repeat' split) <;> simp
@[simp] theorem finishCommand_det (code : Byte) (r : CommandResult) : (finishCommand code r s).det = s.det :=
  by unfold finishCommand; (repeat' split) <;> simp
@[simp] theorem finishCommand_detectors (code : Byte) (r : CommandResult) : (finishCommand code r s).detectors = s.detectors :=
  by unfold finishCommand; (repeat' split) <;> simp
@[simp] theorem finishCommand_table (code : Byte) (r : CommandResult) : (finishCommand code r s).table = s.table :=
  by unfold finishCommand; (repeat' split) <;> simp
@[simp] theorem finishCommand_verdicts (code : Byte) (r : CommandResult) : (finishCommand code r s).verdicts = s.verdicts :=
  by unfold finishCommand; (repeat' split) <;> simp
@[simp] theorem finishCommand_epochUnit (code : Byte) (r : CommandResult) : (finishCommand code r s).epochUnit = s.epochUnit :=
  by unfold finishCommand; (repeat' split) <;> simp
@[simp] theorem finishCommand_schedule (code : Byte) (r : CommandResult) : (finishCommand code r s).schedule = s.schedule :=
  by unfold finishCommand; (repeat' split) <;> simp
@[simp] theorem finishCommand_channels (code : Byte) (r : CommandResult) : (finishCommand code r s).channels = s.channels :=
  by unfold finishCommand; (repeat' split) <;> simp
@[simp] theorem finishCommand_queue (code : Byte) (r : CommandResult) : (finishCommand code r s).queue = s.queue :=
  by unfold finishCommand; (repeat' split) <;> simp
@[simp] theorem finishCommand_window (code : Byte) (r : CommandResult) : (finishCommand code r s).window = s.window :=
  by unfold finishCommand; (repeat' split) <;> simp
@[simp] theorem finishCommand_pending (code : Byte) (r : CommandResult) : (finishCommand code r s).pending = s.pending :=
  by unfold finishCommand; (repeat' split) <;> simp
@[simp] theorem finishCommand_freeCount (code : Byte) (r : CommandResult) : (finishCommand code r s).freeCount = s.freeCount :=
  by unfold finishCommand; (repeat' split) <;> simp

/-! ### The epoch unit -/

@[simp] theorem deferCommit_motion (r : CommitResult) : (deferCommit r s).motion = s.motion :=
  by unfold deferCommit; (repeat' split) <;> simp
@[simp] theorem deferCommit_det (r : CommitResult) : (deferCommit r s).det = s.det :=
  by unfold deferCommit; (repeat' split) <;> simp
@[simp] theorem deferCommit_detectors (r : CommitResult) : (deferCommit r s).detectors = s.detectors :=
  by unfold deferCommit; (repeat' split) <;> simp
@[simp] theorem deferCommit_table (r : CommitResult) : (deferCommit r s).table = s.table :=
  by unfold deferCommit; (repeat' split) <;> simp
@[simp] theorem deferCommit_verdicts (r : CommitResult) : (deferCommit r s).verdicts = s.verdicts :=
  by unfold deferCommit; (repeat' split) <;> simp
@[simp] theorem deferCommit_schedule (r : CommitResult) : (deferCommit r s).schedule = s.schedule :=
  by unfold deferCommit; (repeat' split) <;> simp
@[simp] theorem deferCommit_channels (r : CommitResult) : (deferCommit r s).channels = s.channels :=
  by unfold deferCommit; (repeat' split) <;> simp
@[simp] theorem deferCommit_engine (r : CommitResult) : (deferCommit r s).engine = s.engine :=
  by unfold deferCommit; (repeat' split) <;> simp
@[simp] theorem deferCommit_queue (r : CommitResult) : (deferCommit r s).queue = s.queue :=
  by unfold deferCommit; (repeat' split) <;> simp
@[simp] theorem deferCommit_window (r : CommitResult) : (deferCommit r s).window = s.window :=
  by unfold deferCommit; (repeat' split) <;> simp
@[simp] theorem deferCommit_pending (r : CommitResult) : (deferCommit r s).pending = s.pending :=
  by unfold deferCommit; (repeat' split) <;> simp
@[simp] theorem deferCommit_freeCount (r : CommitResult) : (deferCommit r s).freeCount = s.freeCount :=
  by unfold deferCommit; (repeat' split) <;> simp

@[simp] theorem commit_motion : (commit s).motion = s.motion := by simp [commit]
@[simp] theorem commit_det : (commit s).det = s.det := by simp [commit]
@[simp] theorem commit_detectors : (commit s).detectors = s.detectors := by simp [commit]
@[simp] theorem commit_table : (commit s).table = s.table := by simp [commit]
@[simp] theorem commit_verdicts : (commit s).verdicts = s.verdicts := by simp [commit]
@[simp] theorem commit_schedule : (commit s).schedule = s.schedule := by simp [commit]
@[simp] theorem commit_channels : (commit s).channels = s.channels := by simp [commit]
@[simp] theorem commit_engine : (commit s).engine = s.engine := by simp [commit]
@[simp] theorem commit_window : (commit s).window = s.window := by simp [commit]
@[simp] theorem commit_pending : (commit s).pending = s.pending := by simp [commit]
@[simp] theorem commit_freeCount : (commit s).freeCount = s.freeCount := by simp [commit]

@[simp] theorem commitAttempt_motion : (commitAttempt s).motion = s.motion :=
  by unfold commitAttempt; (repeat' split) <;> simp
@[simp] theorem commitAttempt_det : (commitAttempt s).det = s.det := by unfold commitAttempt; (repeat' split) <;> simp
@[simp] theorem commitAttempt_detectors : (commitAttempt s).detectors = s.detectors :=
  by unfold commitAttempt; (repeat' split) <;> simp
@[simp] theorem commitAttempt_table : (commitAttempt s).table = s.table :=
  by unfold commitAttempt; (repeat' split) <;> simp
@[simp] theorem commitAttempt_verdicts : (commitAttempt s).verdicts = s.verdicts :=
  by unfold commitAttempt; (repeat' split) <;> simp
@[simp] theorem commitAttempt_schedule : (commitAttempt s).schedule = s.schedule :=
  by unfold commitAttempt; (repeat' split) <;> simp
@[simp] theorem commitAttempt_channels : (commitAttempt s).channels = s.channels :=
  by unfold commitAttempt; (repeat' split) <;> simp
@[simp] theorem commitAttempt_engine : (commitAttempt s).engine = s.engine :=
  by unfold commitAttempt; (repeat' split) <;> simp
@[simp] theorem commitAttempt_window : (commitAttempt s).window = s.window :=
  by unfold commitAttempt; (repeat' split) <;> simp
@[simp] theorem commitAttempt_pending : (commitAttempt s).pending = s.pending :=
  by unfold commitAttempt; (repeat' split) <;> simp
@[simp] theorem commitAttempt_freeCount : (commitAttempt s).freeCount = s.freeCount :=
  by unfold commitAttempt; (repeat' split) <;> simp

@[simp] theorem pitchMark_det : (pitchMark s).det = s.det := by simp [pitchMark]
@[simp] theorem pitchMark_detectors : (pitchMark s).detectors = s.detectors := by simp [pitchMark]
@[simp] theorem pitchMark_table : (pitchMark s).table = s.table := by simp [pitchMark]
@[simp] theorem pitchMark_verdicts : (pitchMark s).verdicts = s.verdicts := by simp [pitchMark]
@[simp] theorem pitchMark_schedule : (pitchMark s).schedule = s.schedule := by simp [pitchMark]
@[simp] theorem pitchMark_channels : (pitchMark s).channels = s.channels := by simp [pitchMark]
@[simp] theorem pitchMark_engine : (pitchMark s).engine = s.engine := by simp [pitchMark]
@[simp] theorem pitchMark_window : (pitchMark s).window = s.window := by simp [pitchMark]
@[simp] theorem pitchMark_pending : (pitchMark s).pending = s.pending := by simp [pitchMark]
@[simp] theorem pitchMark_freeCount : (pitchMark s).freeCount = s.freeCount := by simp [pitchMark]

/-! ### The motion unit -/

@[simp] theorem raiseFault_det (cause : FaultCause) : (raiseFault cause s).det = s.det :=
  by unfold raiseFault; (repeat' split) <;> simp
@[simp] theorem raiseFault_detectors (cause : FaultCause) : (raiseFault cause s).detectors = s.detectors :=
  by unfold raiseFault; (repeat' split) <;> simp
@[simp] theorem raiseFault_table (cause : FaultCause) : (raiseFault cause s).table = s.table :=
  by unfold raiseFault; (repeat' split) <;> simp
@[simp] theorem raiseFault_verdicts (cause : FaultCause) : (raiseFault cause s).verdicts = s.verdicts :=
  by unfold raiseFault; (repeat' split) <;> simp
@[simp] theorem raiseFault_epochUnit (cause : FaultCause) : (raiseFault cause s).epochUnit = s.epochUnit :=
  by unfold raiseFault; (repeat' split) <;> simp
@[simp] theorem raiseFault_schedule (cause : FaultCause) : (raiseFault cause s).schedule = s.schedule :=
  by unfold raiseFault; (repeat' split) <;> simp
@[simp] theorem raiseFault_channels (cause : FaultCause) : (raiseFault cause s).channels = s.channels :=
  by unfold raiseFault; (repeat' split) <;> simp
@[simp] theorem raiseFault_engine (cause : FaultCause) : (raiseFault cause s).engine = s.engine :=
  by unfold raiseFault; (repeat' split) <;> simp
@[simp] theorem raiseFault_queue (cause : FaultCause) : (raiseFault cause s).queue = s.queue :=
  by unfold raiseFault; (repeat' split) <;> simp
@[simp] theorem raiseFault_interrupts (cause : FaultCause) : (raiseFault cause s).interrupts = s.interrupts :=
  by unfold raiseFault; (repeat' split) <;> simp
@[simp] theorem raiseFault_window (cause : FaultCause) : (raiseFault cause s).window = s.window :=
  by unfold raiseFault; (repeat' split) <;> simp
@[simp] theorem raiseFault_pending (cause : FaultCause) : (raiseFault cause s).pending = s.pending :=
  by unfold raiseFault; (repeat' split) <;> simp
@[simp] theorem raiseFault_freeCount (cause : FaultCause) : (raiseFault cause s).freeCount = s.freeCount :=
  by unfold raiseFault; (repeat' split) <;> simp

@[simp] theorem takeCount_det (forward : Bool) : (takeCount forward s).det = s.det :=
  by unfold takeCount; dsimp only; (repeat' split) <;> simp
@[simp] theorem takeCount_detectors (forward : Bool) : (takeCount forward s).detectors = s.detectors :=
  by unfold takeCount; dsimp only; (repeat' split) <;> simp
@[simp] theorem takeCount_table (forward : Bool) : (takeCount forward s).table = s.table :=
  by unfold takeCount; dsimp only; (repeat' split) <;> simp
@[simp] theorem takeCount_verdicts (forward : Bool) : (takeCount forward s).verdicts = s.verdicts :=
  by unfold takeCount; dsimp only; (repeat' split) <;> simp
@[simp] theorem takeCount_epochUnit (forward : Bool) : (takeCount forward s).epochUnit = s.epochUnit :=
  by unfold takeCount; dsimp only; (repeat' split) <;> simp
@[simp] theorem takeCount_schedule (forward : Bool) : (takeCount forward s).schedule = s.schedule :=
  by unfold takeCount; dsimp only; (repeat' split) <;> simp
@[simp] theorem takeCount_channels (forward : Bool) : (takeCount forward s).channels = s.channels :=
  by unfold takeCount; dsimp only; (repeat' split) <;> simp
@[simp] theorem takeCount_engine (forward : Bool) : (takeCount forward s).engine = s.engine :=
  by unfold takeCount; dsimp only; (repeat' split) <;> simp
@[simp] theorem takeCount_queue (forward : Bool) : (takeCount forward s).queue = s.queue :=
  by unfold takeCount; dsimp only; (repeat' split) <;> simp
@[simp] theorem takeCount_interrupts (forward : Bool) : (takeCount forward s).interrupts = s.interrupts :=
  by unfold takeCount; dsimp only; (repeat' split) <;> simp
@[simp] theorem takeCount_window (forward : Bool) : (takeCount forward s).window = s.window :=
  by unfold takeCount; dsimp only; (repeat' split) <;> simp
@[simp] theorem takeCount_pending (forward : Bool) : (takeCount forward s).pending = s.pending :=
  by unfold takeCount; dsimp only; (repeat' split) <;> simp
@[simp] theorem takeCount_freeCount (forward : Bool) : (takeCount forward s).freeCount = s.freeCount :=
  by unfold takeCount; dsimp only; (repeat' split) <;> simp

@[simp] theorem legalSample_det (sample : Phases) : (legalSample sample s).det = s.det :=
  by unfold legalSample; (repeat' split) <;> simp
@[simp] theorem legalSample_detectors (sample : Phases) : (legalSample sample s).detectors = s.detectors :=
  by unfold legalSample; (repeat' split) <;> simp
@[simp] theorem legalSample_table (sample : Phases) : (legalSample sample s).table = s.table :=
  by unfold legalSample; (repeat' split) <;> simp
@[simp] theorem legalSample_verdicts (sample : Phases) : (legalSample sample s).verdicts = s.verdicts :=
  by unfold legalSample; (repeat' split) <;> simp
@[simp] theorem legalSample_epochUnit (sample : Phases) : (legalSample sample s).epochUnit = s.epochUnit :=
  by unfold legalSample; (repeat' split) <;> simp
@[simp] theorem legalSample_schedule (sample : Phases) : (legalSample sample s).schedule = s.schedule :=
  by unfold legalSample; (repeat' split) <;> simp
@[simp] theorem legalSample_channels (sample : Phases) : (legalSample sample s).channels = s.channels :=
  by unfold legalSample; (repeat' split) <;> simp
@[simp] theorem legalSample_engine (sample : Phases) : (legalSample sample s).engine = s.engine :=
  by unfold legalSample; (repeat' split) <;> simp
@[simp] theorem legalSample_queue (sample : Phases) : (legalSample sample s).queue = s.queue :=
  by unfold legalSample; (repeat' split) <;> simp
@[simp] theorem legalSample_interrupts (sample : Phases) : (legalSample sample s).interrupts = s.interrupts :=
  by unfold legalSample; (repeat' split) <;> simp
@[simp] theorem legalSample_window (sample : Phases) : (legalSample sample s).window = s.window :=
  by unfold legalSample; (repeat' split) <;> simp
@[simp] theorem legalSample_pending (sample : Phases) : (legalSample sample s).pending = s.pending :=
  by unfold legalSample; (repeat' split) <;> simp
@[simp] theorem legalSample_freeCount (sample : Phases) : (legalSample sample s).freeCount = s.freeCount :=
  by unfold legalSample; (repeat' split) <;> simp

@[simp] theorem illegalSample_det (sample : Phases) : (illegalSample sample s).det = s.det :=
  by unfold illegalSample; dsimp only; split <;> simp
@[simp] theorem illegalSample_detectors (sample : Phases) : (illegalSample sample s).detectors = s.detectors :=
  by unfold illegalSample; dsimp only; split <;> simp
@[simp] theorem illegalSample_table (sample : Phases) : (illegalSample sample s).table = s.table :=
  by unfold illegalSample; dsimp only; split <;> simp
@[simp] theorem illegalSample_verdicts (sample : Phases) : (illegalSample sample s).verdicts = s.verdicts :=
  by unfold illegalSample; dsimp only; split <;> simp
@[simp] theorem illegalSample_epochUnit (sample : Phases) : (illegalSample sample s).epochUnit = s.epochUnit :=
  by unfold illegalSample; dsimp only; split <;> simp
@[simp] theorem illegalSample_schedule (sample : Phases) : (illegalSample sample s).schedule = s.schedule :=
  by unfold illegalSample; dsimp only; split <;> simp
@[simp] theorem illegalSample_channels (sample : Phases) : (illegalSample sample s).channels = s.channels :=
  by unfold illegalSample; dsimp only; split <;> simp
@[simp] theorem illegalSample_engine (sample : Phases) : (illegalSample sample s).engine = s.engine :=
  by unfold illegalSample; dsimp only; split <;> simp
@[simp] theorem illegalSample_queue (sample : Phases) : (illegalSample sample s).queue = s.queue :=
  by unfold illegalSample; dsimp only; split <;> simp
@[simp] theorem illegalSample_interrupts (sample : Phases) : (illegalSample sample s).interrupts = s.interrupts :=
  by unfold illegalSample; dsimp only; split <;> simp
@[simp] theorem illegalSample_window (sample : Phases) : (illegalSample sample s).window = s.window :=
  by unfold illegalSample; dsimp only; split <;> simp
@[simp] theorem illegalSample_pending (sample : Phases) : (illegalSample sample s).pending = s.pending :=
  by unfold illegalSample; dsimp only; split <;> simp
@[simp] theorem illegalSample_freeCount (sample : Phases) : (illegalSample sample s).freeCount = s.freeCount :=
  by unfold illegalSample; dsimp only; split <;> simp

@[simp] theorem endWindow_det : (endWindow s).det = s.det := rfl
@[simp] theorem endWindow_detectors : (endWindow s).detectors = s.detectors := rfl
@[simp] theorem endWindow_table : (endWindow s).table = s.table := rfl
@[simp] theorem endWindow_verdicts : (endWindow s).verdicts = s.verdicts := rfl
@[simp] theorem endWindow_epochUnit : (endWindow s).epochUnit = s.epochUnit := rfl
@[simp] theorem endWindow_schedule : (endWindow s).schedule = s.schedule := rfl
@[simp] theorem endWindow_channels : (endWindow s).channels = s.channels := rfl
@[simp] theorem endWindow_engine : (endWindow s).engine = s.engine := rfl
@[simp] theorem endWindow_queue : (endWindow s).queue = s.queue := rfl
@[simp] theorem endWindow_interrupts : (endWindow s).interrupts = s.interrupts := rfl
@[simp] theorem endWindow_window : (endWindow s).window = s.window := rfl
@[simp] theorem endWindow_pending : (endWindow s).pending = s.pending := rfl
@[simp] theorem endWindow_freeCount : (endWindow s).freeCount = s.freeCount := rfl

/-! ### The schedule -/

@[simp] theorem placeItemAction_motion (slot : Slot) (e : Entry) (n : Channel) : (placeItemAction slot e n s).motion = s.motion :=
  by simp [placeItemAction, apply_ite State.motion]
@[simp] theorem placeItemAction_det (slot : Slot) (e : Entry) (n : Channel) : (placeItemAction slot e n s).det = s.det :=
  by simp [placeItemAction, apply_ite State.det]
@[simp] theorem placeItemAction_detectors (slot : Slot) (e : Entry) (n : Channel) : (placeItemAction slot e n s).detectors = s.detectors :=
  by simp [placeItemAction, apply_ite State.detectors]
@[simp] theorem placeItemAction_verdicts (slot : Slot) (e : Entry) (n : Channel) : (placeItemAction slot e n s).verdicts = s.verdicts :=
  by simp [placeItemAction, apply_ite State.verdicts]
@[simp] theorem placeItemAction_epochUnit (slot : Slot) (e : Entry) (n : Channel) : (placeItemAction slot e n s).epochUnit = s.epochUnit :=
  by simp [placeItemAction, apply_ite State.epochUnit]
@[simp] theorem placeItemAction_channels (slot : Slot) (e : Entry) (n : Channel) : (placeItemAction slot e n s).channels = s.channels :=
  by simp [placeItemAction, apply_ite State.channels]
@[simp] theorem placeItemAction_engine (slot : Slot) (e : Entry) (n : Channel) : (placeItemAction slot e n s).engine = s.engine :=
  by simp [placeItemAction, apply_ite State.engine]
@[simp] theorem placeItemAction_queue (slot : Slot) (e : Entry) (n : Channel) : (placeItemAction slot e n s).queue = s.queue :=
  by simp [placeItemAction, apply_ite State.queue]
@[simp] theorem placeItemAction_interrupts (slot : Slot) (e : Entry) (n : Channel) : (placeItemAction slot e n s).interrupts = s.interrupts :=
  by simp [placeItemAction, apply_ite State.interrupts]
@[simp] theorem placeItemAction_window (slot : Slot) (e : Entry) (n : Channel) : (placeItemAction slot e n s).window = s.window :=
  by simp [placeItemAction, apply_ite State.window]
@[simp] theorem placeItemAction_pending (slot : Slot) (e : Entry) (n : Channel) : (placeItemAction slot e n s).pending = s.pending :=
  by simp [placeItemAction, apply_ite State.pending]
@[simp] theorem placeItemAction_freeCount (slot : Slot) (e : Entry) (n : Channel) : (placeItemAction slot e n s).freeCount = s.freeCount :=
  by simp [placeItemAction, apply_ite State.freeCount]

@[simp] theorem placeItemActions_motion (slot : Slot) (e : Entry) : (placeItemActions slot e s).motion = s.motion :=
  foldl_field (fun s : State => s.motion) _ (fun s n => placeItemAction_motion s slot e n) _ s
@[simp] theorem placeItemActions_det (slot : Slot) (e : Entry) : (placeItemActions slot e s).det = s.det :=
  foldl_field (fun s : State => s.det) _ (fun s n => placeItemAction_det s slot e n) _ s
@[simp] theorem placeItemActions_detectors (slot : Slot) (e : Entry) : (placeItemActions slot e s).detectors = s.detectors :=
  foldl_field (fun s : State => s.detectors) _ (fun s n => placeItemAction_detectors s slot e n) _ s
@[simp] theorem placeItemActions_verdicts (slot : Slot) (e : Entry) : (placeItemActions slot e s).verdicts = s.verdicts :=
  foldl_field (fun s : State => s.verdicts) _ (fun s n => placeItemAction_verdicts s slot e n) _ s
@[simp] theorem placeItemActions_epochUnit (slot : Slot) (e : Entry) : (placeItemActions slot e s).epochUnit = s.epochUnit :=
  foldl_field (fun s : State => s.epochUnit) _ (fun s n => placeItemAction_epochUnit s slot e n) _ s
@[simp] theorem placeItemActions_channels (slot : Slot) (e : Entry) : (placeItemActions slot e s).channels = s.channels :=
  foldl_field (fun s : State => s.channels) _ (fun s n => placeItemAction_channels s slot e n) _ s
@[simp] theorem placeItemActions_engine (slot : Slot) (e : Entry) : (placeItemActions slot e s).engine = s.engine :=
  foldl_field (fun s : State => s.engine) _ (fun s n => placeItemAction_engine s slot e n) _ s
@[simp] theorem placeItemActions_queue (slot : Slot) (e : Entry) : (placeItemActions slot e s).queue = s.queue :=
  foldl_field (fun s : State => s.queue) _ (fun s n => placeItemAction_queue s slot e n) _ s
@[simp] theorem placeItemActions_interrupts (slot : Slot) (e : Entry) : (placeItemActions slot e s).interrupts = s.interrupts :=
  foldl_field (fun s : State => s.interrupts) _ (fun s n => placeItemAction_interrupts s slot e n) _ s
@[simp] theorem placeItemActions_window (slot : Slot) (e : Entry) : (placeItemActions slot e s).window = s.window :=
  foldl_field (fun s : State => s.window) _ (fun s n => placeItemAction_window s slot e n) _ s
@[simp] theorem placeItemActions_pending (slot : Slot) (e : Entry) : (placeItemActions slot e s).pending = s.pending :=
  foldl_field (fun s : State => s.pending) _ (fun s n => placeItemAction_pending s slot e n) _ s
@[simp] theorem placeItemActions_freeCount (slot : Slot) (e : Entry) : (placeItemActions slot e s).freeCount = s.freeCount :=
  foldl_field (fun s : State => s.freeCount) _ (fun s n => placeItemAction_freeCount s slot e n) _ s

@[simp] theorem placeVerdictAction_motion (slot : Slot) (e : Entry) (n : Channel) : (placeVerdictAction slot e n s).motion = s.motion :=
  by unfold placeVerdictAction; dsimp only; (repeat' split) <;> simp
@[simp] theorem placeVerdictAction_det (slot : Slot) (e : Entry) (n : Channel) : (placeVerdictAction slot e n s).det = s.det :=
  by unfold placeVerdictAction; dsimp only; (repeat' split) <;> simp
@[simp] theorem placeVerdictAction_detectors (slot : Slot) (e : Entry) (n : Channel) : (placeVerdictAction slot e n s).detectors = s.detectors :=
  by unfold placeVerdictAction; dsimp only; (repeat' split) <;> simp
@[simp] theorem placeVerdictAction_verdicts (slot : Slot) (e : Entry) (n : Channel) : (placeVerdictAction slot e n s).verdicts = s.verdicts :=
  by unfold placeVerdictAction; dsimp only; (repeat' split) <;> simp
@[simp] theorem placeVerdictAction_epochUnit (slot : Slot) (e : Entry) (n : Channel) : (placeVerdictAction slot e n s).epochUnit = s.epochUnit :=
  by unfold placeVerdictAction; dsimp only; (repeat' split) <;> simp
@[simp] theorem placeVerdictAction_channels (slot : Slot) (e : Entry) (n : Channel) : (placeVerdictAction slot e n s).channels = s.channels :=
  by unfold placeVerdictAction; dsimp only; (repeat' split) <;> simp
@[simp] theorem placeVerdictAction_engine (slot : Slot) (e : Entry) (n : Channel) : (placeVerdictAction slot e n s).engine = s.engine :=
  by unfold placeVerdictAction; dsimp only; (repeat' split) <;> simp
@[simp] theorem placeVerdictAction_queue (slot : Slot) (e : Entry) (n : Channel) : (placeVerdictAction slot e n s).queue = s.queue :=
  by unfold placeVerdictAction; dsimp only; (repeat' split) <;> simp
@[simp] theorem placeVerdictAction_interrupts (slot : Slot) (e : Entry) (n : Channel) : (placeVerdictAction slot e n s).interrupts = s.interrupts :=
  by unfold placeVerdictAction; dsimp only; (repeat' split) <;> simp
@[simp] theorem placeVerdictAction_window (slot : Slot) (e : Entry) (n : Channel) : (placeVerdictAction slot e n s).window = s.window :=
  by unfold placeVerdictAction; dsimp only; (repeat' split) <;> simp
@[simp] theorem placeVerdictAction_pending (slot : Slot) (e : Entry) (n : Channel) : (placeVerdictAction slot e n s).pending = s.pending :=
  by unfold placeVerdictAction; dsimp only; (repeat' split) <;> simp
@[simp] theorem placeVerdictAction_freeCount (slot : Slot) (e : Entry) (n : Channel) : (placeVerdictAction slot e n s).freeCount = s.freeCount :=
  by unfold placeVerdictAction; dsimp only; (repeat' split) <;> simp

@[simp] theorem placeVerdictActions_motion (slot : Slot) (e : Entry) (c : Sys2Proof.Class) : (placeVerdictActions slot e c s).motion = s.motion :=
  foldl_field (fun s : State => s.motion) _ (fun s n => placeVerdictAction_motion s slot e n) _ s
@[simp] theorem placeVerdictActions_det (slot : Slot) (e : Entry) (c : Sys2Proof.Class) : (placeVerdictActions slot e c s).det = s.det :=
  foldl_field (fun s : State => s.det) _ (fun s n => placeVerdictAction_det s slot e n) _ s
@[simp] theorem placeVerdictActions_detectors (slot : Slot) (e : Entry) (c : Sys2Proof.Class) : (placeVerdictActions slot e c s).detectors = s.detectors :=
  foldl_field (fun s : State => s.detectors) _ (fun s n => placeVerdictAction_detectors s slot e n) _ s
@[simp] theorem placeVerdictActions_verdicts (slot : Slot) (e : Entry) (c : Sys2Proof.Class) : (placeVerdictActions slot e c s).verdicts = s.verdicts :=
  foldl_field (fun s : State => s.verdicts) _ (fun s n => placeVerdictAction_verdicts s slot e n) _ s
@[simp] theorem placeVerdictActions_epochUnit (slot : Slot) (e : Entry) (c : Sys2Proof.Class) : (placeVerdictActions slot e c s).epochUnit = s.epochUnit :=
  foldl_field (fun s : State => s.epochUnit) _ (fun s n => placeVerdictAction_epochUnit s slot e n) _ s
@[simp] theorem placeVerdictActions_channels (slot : Slot) (e : Entry) (c : Sys2Proof.Class) : (placeVerdictActions slot e c s).channels = s.channels :=
  foldl_field (fun s : State => s.channels) _ (fun s n => placeVerdictAction_channels s slot e n) _ s
@[simp] theorem placeVerdictActions_engine (slot : Slot) (e : Entry) (c : Sys2Proof.Class) : (placeVerdictActions slot e c s).engine = s.engine :=
  foldl_field (fun s : State => s.engine) _ (fun s n => placeVerdictAction_engine s slot e n) _ s
@[simp] theorem placeVerdictActions_queue (slot : Slot) (e : Entry) (c : Sys2Proof.Class) : (placeVerdictActions slot e c s).queue = s.queue :=
  foldl_field (fun s : State => s.queue) _ (fun s n => placeVerdictAction_queue s slot e n) _ s
@[simp] theorem placeVerdictActions_interrupts (slot : Slot) (e : Entry) (c : Sys2Proof.Class) : (placeVerdictActions slot e c s).interrupts = s.interrupts :=
  foldl_field (fun s : State => s.interrupts) _ (fun s n => placeVerdictAction_interrupts s slot e n) _ s
@[simp] theorem placeVerdictActions_window (slot : Slot) (e : Entry) (c : Sys2Proof.Class) : (placeVerdictActions slot e c s).window = s.window :=
  foldl_field (fun s : State => s.window) _ (fun s n => placeVerdictAction_window s slot e n) _ s
@[simp] theorem placeVerdictActions_pending (slot : Slot) (e : Entry) (c : Sys2Proof.Class) : (placeVerdictActions slot e c s).pending = s.pending :=
  foldl_field (fun s : State => s.pending) _ (fun s n => placeVerdictAction_pending s slot e n) _ s
@[simp] theorem placeVerdictActions_freeCount (slot : Slot) (e : Entry) (c : Sys2Proof.Class) : (placeVerdictActions slot e c s).freeCount = s.freeCount :=
  foldl_field (fun s : State => s.freeCount) _ (fun s n => placeVerdictAction_freeCount s slot e n) _ s

@[simp] theorem placePitchAction_motion (mark : Word) (n : Channel) : (placePitchAction mark n s).motion = s.motion :=
  by unfold placePitchAction; (repeat' split) <;> simp
@[simp] theorem placePitchAction_det (mark : Word) (n : Channel) : (placePitchAction mark n s).det = s.det :=
  by unfold placePitchAction; (repeat' split) <;> simp
@[simp] theorem placePitchAction_detectors (mark : Word) (n : Channel) : (placePitchAction mark n s).detectors = s.detectors :=
  by unfold placePitchAction; (repeat' split) <;> simp
@[simp] theorem placePitchAction_table (mark : Word) (n : Channel) : (placePitchAction mark n s).table = s.table :=
  by unfold placePitchAction; (repeat' split) <;> simp
@[simp] theorem placePitchAction_verdicts (mark : Word) (n : Channel) : (placePitchAction mark n s).verdicts = s.verdicts :=
  by unfold placePitchAction; (repeat' split) <;> simp
@[simp] theorem placePitchAction_epochUnit (mark : Word) (n : Channel) : (placePitchAction mark n s).epochUnit = s.epochUnit :=
  by unfold placePitchAction; (repeat' split) <;> simp
@[simp] theorem placePitchAction_channels (mark : Word) (n : Channel) : (placePitchAction mark n s).channels = s.channels :=
  by unfold placePitchAction; (repeat' split) <;> simp
@[simp] theorem placePitchAction_engine (mark : Word) (n : Channel) : (placePitchAction mark n s).engine = s.engine :=
  by unfold placePitchAction; (repeat' split) <;> simp
@[simp] theorem placePitchAction_window (mark : Word) (n : Channel) : (placePitchAction mark n s).window = s.window :=
  by unfold placePitchAction; (repeat' split) <;> simp
@[simp] theorem placePitchAction_pending (mark : Word) (n : Channel) : (placePitchAction mark n s).pending = s.pending :=
  by unfold placePitchAction; (repeat' split) <;> simp
@[simp] theorem placePitchAction_freeCount (mark : Word) (n : Channel) : (placePitchAction mark n s).freeCount = s.freeCount :=
  by unfold placePitchAction; (repeat' split) <;> simp

@[simp] theorem placePitchActions_motion (mark : Word) : (placePitchActions mark s).motion = s.motion :=
  foldl_field (fun s : State => s.motion) _ (fun s n => placePitchAction_motion s mark n) _ s
@[simp] theorem placePitchActions_det (mark : Word) : (placePitchActions mark s).det = s.det :=
  foldl_field (fun s : State => s.det) _ (fun s n => placePitchAction_det s mark n) _ s
@[simp] theorem placePitchActions_detectors (mark : Word) : (placePitchActions mark s).detectors = s.detectors :=
  foldl_field (fun s : State => s.detectors) _ (fun s n => placePitchAction_detectors s mark n) _ s
@[simp] theorem placePitchActions_table (mark : Word) : (placePitchActions mark s).table = s.table :=
  foldl_field (fun s : State => s.table) _ (fun s n => placePitchAction_table s mark n) _ s
@[simp] theorem placePitchActions_verdicts (mark : Word) : (placePitchActions mark s).verdicts = s.verdicts :=
  foldl_field (fun s : State => s.verdicts) _ (fun s n => placePitchAction_verdicts s mark n) _ s
@[simp] theorem placePitchActions_epochUnit (mark : Word) : (placePitchActions mark s).epochUnit = s.epochUnit :=
  foldl_field (fun s : State => s.epochUnit) _ (fun s n => placePitchAction_epochUnit s mark n) _ s
@[simp] theorem placePitchActions_channels (mark : Word) : (placePitchActions mark s).channels = s.channels :=
  foldl_field (fun s : State => s.channels) _ (fun s n => placePitchAction_channels s mark n) _ s
@[simp] theorem placePitchActions_engine (mark : Word) : (placePitchActions mark s).engine = s.engine :=
  foldl_field (fun s : State => s.engine) _ (fun s n => placePitchAction_engine s mark n) _ s
@[simp] theorem placePitchActions_window (mark : Word) : (placePitchActions mark s).window = s.window :=
  foldl_field (fun s : State => s.window) _ (fun s n => placePitchAction_window s mark n) _ s
@[simp] theorem placePitchActions_pending (mark : Word) : (placePitchActions mark s).pending = s.pending :=
  foldl_field (fun s : State => s.pending) _ (fun s n => placePitchAction_pending s mark n) _ s
@[simp] theorem placePitchActions_freeCount (mark : Word) : (placePitchActions mark s).freeCount = s.freeCount :=
  foldl_field (fun s : State => s.freeCount) _ (fun s n => placePitchAction_freeCount s mark n) _ s

@[simp] theorem openEntry_motion (slot : Slot) (l : Lane) (leading : Word) : (openEntry slot l leading s).motion = s.motion :=
  by simp [openEntry]
@[simp] theorem openEntry_det (slot : Slot) (l : Lane) (leading : Word) : (openEntry slot l leading s).det = s.det :=
  by simp [openEntry]
@[simp] theorem openEntry_detectors (slot : Slot) (l : Lane) (leading : Word) : (openEntry slot l leading s).detectors = s.detectors :=
  by simp [openEntry]
@[simp] theorem openEntry_verdicts (slot : Slot) (l : Lane) (leading : Word) : (openEntry slot l leading s).verdicts = s.verdicts :=
  by simp [openEntry]
@[simp] theorem openEntry_epochUnit (slot : Slot) (l : Lane) (leading : Word) : (openEntry slot l leading s).epochUnit = s.epochUnit :=
  by simp [openEntry]
@[simp] theorem openEntry_channels (slot : Slot) (l : Lane) (leading : Word) : (openEntry slot l leading s).channels = s.channels :=
  by simp [openEntry]
@[simp] theorem openEntry_engine (slot : Slot) (l : Lane) (leading : Word) : (openEntry slot l leading s).engine = s.engine :=
  by simp [openEntry]
@[simp] theorem openEntry_queue (slot : Slot) (l : Lane) (leading : Word) : (openEntry slot l leading s).queue = s.queue :=
  by simp [openEntry]
@[simp] theorem openEntry_interrupts (slot : Slot) (l : Lane) (leading : Word) : (openEntry slot l leading s).interrupts = s.interrupts :=
  by simp [openEntry]
@[simp] theorem openEntry_window (slot : Slot) (l : Lane) (leading : Word) : (openEntry slot l leading s).window = s.window :=
  by simp [openEntry]
@[simp] theorem openEntry_pending (slot : Slot) (l : Lane) (leading : Word) : (openEntry slot l leading s).pending = s.pending :=
  by simp [openEntry]
@[simp] theorem openEntry_freeCount (slot : Slot) (l : Lane) (leading : Word) : (openEntry slot l leading s).freeCount = s.freeCount :=
  by simp [openEntry]

@[simp] theorem takeDecision_motion (slot : Slot) : (takeDecision slot s).motion = s.motion :=
  by unfold takeDecision; (repeat' split) <;> simp
@[simp] theorem takeDecision_det (slot : Slot) : (takeDecision slot s).det = s.det :=
  by unfold takeDecision; (repeat' split) <;> simp
@[simp] theorem takeDecision_detectors (slot : Slot) : (takeDecision slot s).detectors = s.detectors :=
  by unfold takeDecision; (repeat' split) <;> simp
@[simp] theorem takeDecision_verdicts (slot : Slot) : (takeDecision slot s).verdicts = s.verdicts :=
  by unfold takeDecision; (repeat' split) <;> simp
@[simp] theorem takeDecision_epochUnit (slot : Slot) : (takeDecision slot s).epochUnit = s.epochUnit :=
  by unfold takeDecision; (repeat' split) <;> simp
@[simp] theorem takeDecision_channels (slot : Slot) : (takeDecision slot s).channels = s.channels :=
  by unfold takeDecision; (repeat' split) <;> simp
@[simp] theorem takeDecision_engine (slot : Slot) : (takeDecision slot s).engine = s.engine :=
  by unfold takeDecision; (repeat' split) <;> simp
@[simp] theorem takeDecision_queue (slot : Slot) : (takeDecision slot s).queue = s.queue :=
  by unfold takeDecision; (repeat' split) <;> simp
@[simp] theorem takeDecision_interrupts (slot : Slot) : (takeDecision slot s).interrupts = s.interrupts :=
  by unfold takeDecision; (repeat' split) <;> simp
@[simp] theorem takeDecision_window (slot : Slot) : (takeDecision slot s).window = s.window :=
  by unfold takeDecision; (repeat' split) <;> simp
@[simp] theorem takeDecision_pending (slot : Slot) : (takeDecision slot s).pending = s.pending :=
  by unfold takeDecision; (repeat' split) <;> simp
@[simp] theorem takeDecision_freeCount (slot : Slot) : (takeDecision slot s).freeCount = s.freeCount :=
  by unfold takeDecision; (repeat' split) <;> simp

@[simp] theorem takeDecisions_motion (slots : List Slot) : (takeDecisions slots s).motion = s.motion :=
  foldl_field (fun s : State => s.motion) _ (fun s slot => takeDecision_motion s slot) _ s
@[simp] theorem takeDecisions_det (slots : List Slot) : (takeDecisions slots s).det = s.det :=
  foldl_field (fun s : State => s.det) _ (fun s slot => takeDecision_det s slot) _ s
@[simp] theorem takeDecisions_detectors (slots : List Slot) : (takeDecisions slots s).detectors = s.detectors :=
  foldl_field (fun s : State => s.detectors) _ (fun s slot => takeDecision_detectors s slot) _ s
@[simp] theorem takeDecisions_verdicts (slots : List Slot) : (takeDecisions slots s).verdicts = s.verdicts :=
  foldl_field (fun s : State => s.verdicts) _ (fun s slot => takeDecision_verdicts s slot) _ s
@[simp] theorem takeDecisions_epochUnit (slots : List Slot) : (takeDecisions slots s).epochUnit = s.epochUnit :=
  foldl_field (fun s : State => s.epochUnit) _ (fun s slot => takeDecision_epochUnit s slot) _ s
@[simp] theorem takeDecisions_channels (slots : List Slot) : (takeDecisions slots s).channels = s.channels :=
  foldl_field (fun s : State => s.channels) _ (fun s slot => takeDecision_channels s slot) _ s
@[simp] theorem takeDecisions_engine (slots : List Slot) : (takeDecisions slots s).engine = s.engine :=
  foldl_field (fun s : State => s.engine) _ (fun s slot => takeDecision_engine s slot) _ s
@[simp] theorem takeDecisions_queue (slots : List Slot) : (takeDecisions slots s).queue = s.queue :=
  foldl_field (fun s : State => s.queue) _ (fun s slot => takeDecision_queue s slot) _ s
@[simp] theorem takeDecisions_interrupts (slots : List Slot) : (takeDecisions slots s).interrupts = s.interrupts :=
  foldl_field (fun s : State => s.interrupts) _ (fun s slot => takeDecision_interrupts s slot) _ s
@[simp] theorem takeDecisions_window (slots : List Slot) : (takeDecisions slots s).window = s.window :=
  foldl_field (fun s : State => s.window) _ (fun s slot => takeDecision_window s slot) _ s
@[simp] theorem takeDecisions_pending (slots : List Slot) : (takeDecisions slots s).pending = s.pending :=
  foldl_field (fun s : State => s.pending) _ (fun s slot => takeDecision_pending s slot) _ s
@[simp] theorem takeDecisions_freeCount (slots : List Slot) : (takeDecisions slots s).freeCount = s.freeCount :=
  foldl_field (fun s : State => s.freeCount) _ (fun s slot => takeDecision_freeCount s slot) _ s

@[simp] theorem takeExit_motion (slot : Slot) (e : Entry) : (takeExit slot e s).motion = s.motion := rfl
@[simp] theorem takeExit_det (slot : Slot) (e : Entry) : (takeExit slot e s).det = s.det := rfl
@[simp] theorem takeExit_detectors (slot : Slot) (e : Entry) : (takeExit slot e s).detectors = s.detectors := rfl
@[simp] theorem takeExit_verdicts (slot : Slot) (e : Entry) : (takeExit slot e s).verdicts = s.verdicts := rfl
@[simp] theorem takeExit_epochUnit (slot : Slot) (e : Entry) : (takeExit slot e s).epochUnit = s.epochUnit := rfl
@[simp] theorem takeExit_channels (slot : Slot) (e : Entry) : (takeExit slot e s).channels = s.channels := rfl
@[simp] theorem takeExit_engine (slot : Slot) (e : Entry) : (takeExit slot e s).engine = s.engine := rfl
@[simp] theorem takeExit_queue (slot : Slot) (e : Entry) : (takeExit slot e s).queue = s.queue := rfl
@[simp] theorem takeExit_interrupts (slot : Slot) (e : Entry) : (takeExit slot e s).interrupts = s.interrupts := rfl
@[simp] theorem takeExit_window (slot : Slot) (e : Entry) : (takeExit slot e s).window = s.window := rfl
@[simp] theorem takeExit_pending (slot : Slot) (e : Entry) : (takeExit slot e s).pending = s.pending := rfl
@[simp] theorem takeExit_freeCount (slot : Slot) (e : Entry) : (takeExit slot e s).freeCount = s.freeCount := rfl

@[simp] theorem takeExits_motion : (takeExits s).motion = s.motion := by
  unfold takeExits
  rw [settlePosts_motion]
  exact foldl_field (fun s : State => s.motion) _ (fun s (x : Slot × Entry) => takeExit_motion s x.1 x.2) _ s
@[simp] theorem takeExits_det : (takeExits s).det = s.det := by
  unfold takeExits
  rw [settlePosts_det]
  exact foldl_field (fun s : State => s.det) _ (fun s (x : Slot × Entry) => takeExit_det s x.1 x.2) _ s
@[simp] theorem takeExits_detectors : (takeExits s).detectors = s.detectors := by
  unfold takeExits
  rw [settlePosts_detectors]
  exact foldl_field (fun s : State => s.detectors) _ (fun s (x : Slot × Entry) => takeExit_detectors s x.1 x.2) _ s
@[simp] theorem takeExits_verdicts : (takeExits s).verdicts = s.verdicts := by
  unfold takeExits
  rw [settlePosts_verdicts]
  exact foldl_field (fun s : State => s.verdicts) _ (fun s (x : Slot × Entry) => takeExit_verdicts s x.1 x.2) _ s
@[simp] theorem takeExits_epochUnit : (takeExits s).epochUnit = s.epochUnit := by
  unfold takeExits
  rw [settlePosts_epochUnit]
  exact foldl_field (fun s : State => s.epochUnit) _ (fun s (x : Slot × Entry) => takeExit_epochUnit s x.1 x.2) _ s
@[simp] theorem takeExits_channels : (takeExits s).channels = s.channels := by
  unfold takeExits
  rw [settlePosts_channels]
  exact foldl_field (fun s : State => s.channels) _ (fun s (x : Slot × Entry) => takeExit_channels s x.1 x.2) _ s
@[simp] theorem takeExits_engine : (takeExits s).engine = s.engine := by
  unfold takeExits
  rw [settlePosts_engine]
  exact foldl_field (fun s : State => s.engine) _ (fun s (x : Slot × Entry) => takeExit_engine s x.1 x.2) _ s
@[simp] theorem takeExits_window : (takeExits s).window = s.window := by
  unfold takeExits
  rw [settlePosts_window]
  exact foldl_field (fun s : State => s.window) _ (fun s (x : Slot × Entry) => takeExit_window s x.1 x.2) _ s
@[simp] theorem takeExits_pending : (takeExits s).pending = s.pending := by
  unfold takeExits
  rw [settlePosts_pending]
  exact foldl_field (fun s : State => s.pending) _ (fun s (x : Slot × Entry) => takeExit_pending s x.1 x.2) _ s
@[simp] theorem takeExits_freeCount : (takeExits s).freeCount = s.freeCount := by
  unfold takeExits
  rw [settlePosts_freeCount]
  exact foldl_field (fun s : State => s.freeCount) _ (fun s (x : Slot × Entry) => takeExit_freeCount s x.1 x.2) _ s

@[simp] theorem takeNextExit_motion : (takeNextExit s).motion = s.motion :=
  by unfold takeNextExit; (repeat' split) <;> simp
@[simp] theorem takeNextExit_det : (takeNextExit s).det = s.det := by unfold takeNextExit; (repeat' split) <;> simp
@[simp] theorem takeNextExit_detectors : (takeNextExit s).detectors = s.detectors :=
  by unfold takeNextExit; (repeat' split) <;> simp
@[simp] theorem takeNextExit_verdicts : (takeNextExit s).verdicts = s.verdicts :=
  by unfold takeNextExit; (repeat' split) <;> simp
@[simp] theorem takeNextExit_epochUnit : (takeNextExit s).epochUnit = s.epochUnit :=
  by unfold takeNextExit; (repeat' split) <;> simp
@[simp] theorem takeNextExit_channels : (takeNextExit s).channels = s.channels :=
  by unfold takeNextExit; (repeat' split) <;> simp
@[simp] theorem takeNextExit_engine : (takeNextExit s).engine = s.engine :=
  by unfold takeNextExit; (repeat' split) <;> simp
@[simp] theorem takeNextExit_queue : (takeNextExit s).queue = s.queue :=
  by unfold takeNextExit; (repeat' split) <;> simp
@[simp] theorem takeNextExit_interrupts : (takeNextExit s).interrupts = s.interrupts :=
  by unfold takeNextExit; (repeat' split) <;> simp
@[simp] theorem takeNextExit_window : (takeNextExit s).window = s.window :=
  by unfold takeNextExit; (repeat' split) <;> simp
@[simp] theorem takeNextExit_pending : (takeNextExit s).pending = s.pending :=
  by unfold takeNextExit; (repeat' split) <;> simp
@[simp] theorem takeNextExit_freeCount : (takeNextExit s).freeCount = s.freeCount :=
  by unfold takeNextExit; (repeat' split) <;> simp

@[simp] theorem flushTable_motion : (flushTable s).motion = s.motion := by simp [flushTable]
@[simp] theorem flushTable_det : (flushTable s).det = s.det := by simp [flushTable]
@[simp] theorem flushTable_detectors : (flushTable s).detectors = s.detectors := by simp [flushTable]
@[simp] theorem flushTable_verdicts : (flushTable s).verdicts = s.verdicts := by simp [flushTable]
@[simp] theorem flushTable_epochUnit : (flushTable s).epochUnit = s.epochUnit := by simp [flushTable]
@[simp] theorem flushTable_schedule : (flushTable s).schedule = s.schedule := by simp [flushTable]
@[simp] theorem flushTable_channels : (flushTable s).channels = s.channels := by simp [flushTable]
@[simp] theorem flushTable_engine : (flushTable s).engine = s.engine := by simp [flushTable]
@[simp] theorem flushTable_window : (flushTable s).window = s.window := by simp [flushTable]
@[simp] theorem flushTable_pending : (flushTable s).pending = s.pending := by simp [flushTable]
@[simp] theorem flushTable_freeCount : (flushTable s).freeCount = s.freeCount := by simp [flushTable]

/-! ### The channels -/

@[simp] theorem fire_motion (q : Action → Bool) (a : Action) : (fire q a s).motion = s.motion :=
  by unfold fire onItem; split <;> simp
@[simp] theorem fire_det (q : Action → Bool) (a : Action) : (fire q a s).det = s.det :=
  by unfold fire onItem; split <;> simp
@[simp] theorem fire_detectors (q : Action → Bool) (a : Action) : (fire q a s).detectors = s.detectors :=
  by unfold fire onItem; split <;> simp
@[simp] theorem fire_verdicts (q : Action → Bool) (a : Action) : (fire q a s).verdicts = s.verdicts :=
  by unfold fire onItem; split <;> simp
@[simp] theorem fire_epochUnit (q : Action → Bool) (a : Action) : (fire q a s).epochUnit = s.epochUnit :=
  by unfold fire onItem; split <;> simp
@[simp] theorem fire_engine (q : Action → Bool) (a : Action) : (fire q a s).engine = s.engine :=
  by unfold fire onItem; split <;> simp
@[simp] theorem fire_queue (q : Action → Bool) (a : Action) : (fire q a s).queue = s.queue :=
  by unfold fire onItem; split <;> simp
@[simp] theorem fire_interrupts (q : Action → Bool) (a : Action) : (fire q a s).interrupts = s.interrupts :=
  by unfold fire onItem; split <;> simp
@[simp] theorem fire_window (q : Action → Bool) (a : Action) : (fire q a s).window = s.window :=
  by unfold fire onItem; split <;> simp
@[simp] theorem fire_pending (q : Action → Bool) (a : Action) : (fire q a s).pending = s.pending :=
  by unfold fire onItem; split <;> simp
@[simp] theorem fire_freeCount (q : Action → Bool) (a : Action) : (fire q a s).freeCount = s.freeCount :=
  by unfold fire onItem; split <;> simp

@[simp] theorem joinPulse_motion (q : Action → Bool) (a : Action) : (joinPulse q a s).motion = s.motion :=
  by unfold joinPulse onItem; split <;> simp
@[simp] theorem joinPulse_det (q : Action → Bool) (a : Action) : (joinPulse q a s).det = s.det :=
  by unfold joinPulse onItem; split <;> simp
@[simp] theorem joinPulse_detectors (q : Action → Bool) (a : Action) : (joinPulse q a s).detectors = s.detectors :=
  by unfold joinPulse onItem; split <;> simp
@[simp] theorem joinPulse_verdicts (q : Action → Bool) (a : Action) : (joinPulse q a s).verdicts = s.verdicts :=
  by unfold joinPulse onItem; split <;> simp
@[simp] theorem joinPulse_epochUnit (q : Action → Bool) (a : Action) : (joinPulse q a s).epochUnit = s.epochUnit :=
  by unfold joinPulse onItem; split <;> simp
@[simp] theorem joinPulse_channels (q : Action → Bool) (a : Action) : (joinPulse q a s).channels = s.channels :=
  by unfold joinPulse onItem; split <;> simp
@[simp] theorem joinPulse_engine (q : Action → Bool) (a : Action) : (joinPulse q a s).engine = s.engine :=
  by unfold joinPulse onItem; split <;> simp
@[simp] theorem joinPulse_queue (q : Action → Bool) (a : Action) : (joinPulse q a s).queue = s.queue :=
  by unfold joinPulse onItem; split <;> simp
@[simp] theorem joinPulse_interrupts (q : Action → Bool) (a : Action) : (joinPulse q a s).interrupts = s.interrupts :=
  by unfold joinPulse onItem; split <;> simp
@[simp] theorem joinPulse_window (q : Action → Bool) (a : Action) : (joinPulse q a s).window = s.window :=
  by unfold joinPulse onItem; split <;> simp
@[simp] theorem joinPulse_pending (q : Action → Bool) (a : Action) : (joinPulse q a s).pending = s.pending :=
  by unfold joinPulse onItem; split <;> simp
@[simp] theorem joinPulse_freeCount (q : Action → Bool) (a : Action) : (joinPulse q a s).freeCount = s.freeCount :=
  by unfold joinPulse onItem; split <;> simp

@[simp] theorem refuseNewcomer_motion (q : Action → Bool) (a : Action) : (refuseNewcomer q a s).motion = s.motion :=
  by unfold refuseNewcomer; dsimp only; split <;> simp
@[simp] theorem refuseNewcomer_det (q : Action → Bool) (a : Action) : (refuseNewcomer q a s).det = s.det :=
  by unfold refuseNewcomer; dsimp only; split <;> simp
@[simp] theorem refuseNewcomer_detectors (q : Action → Bool) (a : Action) : (refuseNewcomer q a s).detectors = s.detectors :=
  by unfold refuseNewcomer; dsimp only; split <;> simp
@[simp] theorem refuseNewcomer_verdicts (q : Action → Bool) (a : Action) : (refuseNewcomer q a s).verdicts = s.verdicts :=
  by unfold refuseNewcomer; dsimp only; split <;> simp
@[simp] theorem refuseNewcomer_epochUnit (q : Action → Bool) (a : Action) : (refuseNewcomer q a s).epochUnit = s.epochUnit :=
  by unfold refuseNewcomer; dsimp only; split <;> simp
@[simp] theorem refuseNewcomer_channels (q : Action → Bool) (a : Action) : (refuseNewcomer q a s).channels = s.channels :=
  by unfold refuseNewcomer; dsimp only; split <;> simp
@[simp] theorem refuseNewcomer_engine (q : Action → Bool) (a : Action) : (refuseNewcomer q a s).engine = s.engine :=
  by unfold refuseNewcomer; dsimp only; split <;> simp
@[simp] theorem refuseNewcomer_window (q : Action → Bool) (a : Action) : (refuseNewcomer q a s).window = s.window :=
  by unfold refuseNewcomer; dsimp only; split <;> simp
@[simp] theorem refuseNewcomer_pending (q : Action → Bool) (a : Action) : (refuseNewcomer q a s).pending = s.pending :=
  by unfold refuseNewcomer; dsimp only; split <;> simp
@[simp] theorem refuseNewcomer_freeCount (q : Action → Bool) (a : Action) : (refuseNewcomer q a s).freeCount = s.freeCount :=
  by unfold refuseNewcomer; dsimp only; split <;> simp

@[simp] theorem deferNewcomer_motion (q : Action → Bool) (a : Action) : (deferNewcomer q a s).motion = s.motion :=
  by unfold deferNewcomer onItem; split <;> simp
@[simp] theorem deferNewcomer_det (q : Action → Bool) (a : Action) : (deferNewcomer q a s).det = s.det :=
  by unfold deferNewcomer onItem; split <;> simp
@[simp] theorem deferNewcomer_detectors (q : Action → Bool) (a : Action) : (deferNewcomer q a s).detectors = s.detectors :=
  by unfold deferNewcomer onItem; split <;> simp
@[simp] theorem deferNewcomer_verdicts (q : Action → Bool) (a : Action) : (deferNewcomer q a s).verdicts = s.verdicts :=
  by unfold deferNewcomer onItem; split <;> simp
@[simp] theorem deferNewcomer_epochUnit (q : Action → Bool) (a : Action) : (deferNewcomer q a s).epochUnit = s.epochUnit :=
  by unfold deferNewcomer onItem; split <;> simp
@[simp] theorem deferNewcomer_channels (q : Action → Bool) (a : Action) : (deferNewcomer q a s).channels = s.channels :=
  by unfold deferNewcomer onItem; split <;> simp
@[simp] theorem deferNewcomer_engine (q : Action → Bool) (a : Action) : (deferNewcomer q a s).engine = s.engine :=
  by unfold deferNewcomer onItem; split <;> simp
@[simp] theorem deferNewcomer_queue (q : Action → Bool) (a : Action) : (deferNewcomer q a s).queue = s.queue :=
  by unfold deferNewcomer onItem; split <;> simp
@[simp] theorem deferNewcomer_interrupts (q : Action → Bool) (a : Action) : (deferNewcomer q a s).interrupts = s.interrupts :=
  by unfold deferNewcomer onItem; split <;> simp
@[simp] theorem deferNewcomer_window (q : Action → Bool) (a : Action) : (deferNewcomer q a s).window = s.window :=
  by unfold deferNewcomer onItem; split <;> simp
@[simp] theorem deferNewcomer_pending (q : Action → Bool) (a : Action) : (deferNewcomer q a s).pending = s.pending :=
  by unfold deferNewcomer onItem; split <;> simp
@[simp] theorem deferNewcomer_freeCount (q : Action → Bool) (a : Action) : (deferNewcomer q a s).freeCount = s.freeCount :=
  by unfold deferNewcomer onItem; split <;> simp

@[simp] theorem settleFirst_motion (q : Action → Bool) : (settleFirst q s).motion = s.motion :=
  by unfold settleFirst; (repeat' split) <;> simp
@[simp] theorem settleFirst_det (q : Action → Bool) : (settleFirst q s).det = s.det :=
  by unfold settleFirst; (repeat' split) <;> simp
@[simp] theorem settleFirst_detectors (q : Action → Bool) : (settleFirst q s).detectors = s.detectors :=
  by unfold settleFirst; (repeat' split) <;> simp
@[simp] theorem settleFirst_verdicts (q : Action → Bool) : (settleFirst q s).verdicts = s.verdicts :=
  by unfold settleFirst; (repeat' split) <;> simp
@[simp] theorem settleFirst_epochUnit (q : Action → Bool) : (settleFirst q s).epochUnit = s.epochUnit :=
  by unfold settleFirst; (repeat' split) <;> simp
@[simp] theorem settleFirst_engine (q : Action → Bool) : (settleFirst q s).engine = s.engine :=
  by unfold settleFirst; (repeat' split) <;> simp
@[simp] theorem settleFirst_window (q : Action → Bool) : (settleFirst q s).window = s.window :=
  by unfold settleFirst; (repeat' split) <;> simp
@[simp] theorem settleFirst_pending (q : Action → Bool) : (settleFirst q s).pending = s.pending :=
  by unfold settleFirst; (repeat' split) <;> simp
@[simp] theorem settleFirst_freeCount (q : Action → Bool) : (settleFirst q s).freeCount = s.freeCount :=
  by unfold settleFirst; (repeat' split) <;> simp

@[simp] theorem settleAll_motion (q : Action → Bool) (fuel : Nat) : (settleAll q fuel s).motion = s.motion := by
  induction fuel generalizing s with
  | zero => rfl
  | succ fuel ih => simp [settleAll, ih]
@[simp] theorem settleAll_det (q : Action → Bool) (fuel : Nat) : (settleAll q fuel s).det = s.det := by
  induction fuel generalizing s with
  | zero => rfl
  | succ fuel ih => simp [settleAll, ih]
@[simp] theorem settleAll_detectors (q : Action → Bool) (fuel : Nat) : (settleAll q fuel s).detectors = s.detectors := by
  induction fuel generalizing s with
  | zero => rfl
  | succ fuel ih => simp [settleAll, ih]
@[simp] theorem settleAll_verdicts (q : Action → Bool) (fuel : Nat) : (settleAll q fuel s).verdicts = s.verdicts := by
  induction fuel generalizing s with
  | zero => rfl
  | succ fuel ih => simp [settleAll, ih]
@[simp] theorem settleAll_epochUnit (q : Action → Bool) (fuel : Nat) : (settleAll q fuel s).epochUnit = s.epochUnit := by
  induction fuel generalizing s with
  | zero => rfl
  | succ fuel ih => simp [settleAll, ih]
@[simp] theorem settleAll_engine (q : Action → Bool) (fuel : Nat) : (settleAll q fuel s).engine = s.engine := by
  induction fuel generalizing s with
  | zero => rfl
  | succ fuel ih => simp [settleAll, ih]
@[simp] theorem settleAll_window (q : Action → Bool) (fuel : Nat) : (settleAll q fuel s).window = s.window := by
  induction fuel generalizing s with
  | zero => rfl
  | succ fuel ih => simp [settleAll, ih]
@[simp] theorem settleAll_pending (q : Action → Bool) (fuel : Nat) : (settleAll q fuel s).pending = s.pending := by
  induction fuel generalizing s with
  | zero => rfl
  | succ fuel ih => simp [settleAll, ih]
@[simp] theorem settleAll_freeCount (q : Action → Bool) (fuel : Nat) : (settleAll q fuel s).freeCount = s.freeCount := by
  induction fuel generalizing s with
  | zero => rfl
  | succ fuel ih => simp [settleAll, ih]

@[simp] theorem takeDue_motion (n : Channel) : (takeDue n s).motion = s.motion := by simp [takeDue]
@[simp] theorem takeDue_det (n : Channel) : (takeDue n s).det = s.det := by simp [takeDue]
@[simp] theorem takeDue_detectors (n : Channel) : (takeDue n s).detectors = s.detectors := by simp [takeDue]
@[simp] theorem takeDue_verdicts (n : Channel) : (takeDue n s).verdicts = s.verdicts := by simp [takeDue]
@[simp] theorem takeDue_epochUnit (n : Channel) : (takeDue n s).epochUnit = s.epochUnit := by simp [takeDue]
@[simp] theorem takeDue_engine (n : Channel) : (takeDue n s).engine = s.engine := by simp [takeDue]
@[simp] theorem takeDue_window (n : Channel) : (takeDue n s).window = s.window := by simp [takeDue]
@[simp] theorem takeDue_pending (n : Channel) : (takeDue n s).pending = s.pending := by simp [takeDue]
@[simp] theorem takeDue_freeCount (n : Channel) : (takeDue n s).freeCount = s.freeCount := by simp [takeDue]

@[simp] theorem takeDeferred_motion (n : Channel) : (takeDeferred n s).motion = s.motion := by simp [takeDeferred]
@[simp] theorem takeDeferred_det (n : Channel) : (takeDeferred n s).det = s.det := by simp [takeDeferred]
@[simp] theorem takeDeferred_detectors (n : Channel) : (takeDeferred n s).detectors = s.detectors :=
  by simp [takeDeferred]
@[simp] theorem takeDeferred_verdicts (n : Channel) : (takeDeferred n s).verdicts = s.verdicts := by simp [takeDeferred]
@[simp] theorem takeDeferred_epochUnit (n : Channel) : (takeDeferred n s).epochUnit = s.epochUnit :=
  by simp [takeDeferred]
@[simp] theorem takeDeferred_engine (n : Channel) : (takeDeferred n s).engine = s.engine := by simp [takeDeferred]
@[simp] theorem takeDeferred_window (n : Channel) : (takeDeferred n s).window = s.window := by simp [takeDeferred]
@[simp] theorem takeDeferred_pending (n : Channel) : (takeDeferred n s).pending = s.pending := by simp [takeDeferred]
@[simp] theorem takeDeferred_freeCount (n : Channel) : (takeDeferred n s).freeCount = s.freeCount :=
  by simp [takeDeferred]

@[simp] theorem endPulse_motion (n : Channel) : (endPulse n s).motion = s.motion :=
  by unfold endPulse; (repeat' split) <;> simp
@[simp] theorem endPulse_det (n : Channel) : (endPulse n s).det = s.det := by unfold endPulse; (repeat' split) <;> simp
@[simp] theorem endPulse_detectors (n : Channel) : (endPulse n s).detectors = s.detectors :=
  by unfold endPulse; (repeat' split) <;> simp
@[simp] theorem endPulse_table (n : Channel) : (endPulse n s).table = s.table :=
  by unfold endPulse; (repeat' split) <;> simp
@[simp] theorem endPulse_verdicts (n : Channel) : (endPulse n s).verdicts = s.verdicts :=
  by unfold endPulse; (repeat' split) <;> simp
@[simp] theorem endPulse_epochUnit (n : Channel) : (endPulse n s).epochUnit = s.epochUnit :=
  by unfold endPulse; (repeat' split) <;> simp
@[simp] theorem endPulse_engine (n : Channel) : (endPulse n s).engine = s.engine :=
  by unfold endPulse; (repeat' split) <;> simp
@[simp] theorem endPulse_queue (n : Channel) : (endPulse n s).queue = s.queue :=
  by unfold endPulse; (repeat' split) <;> simp
@[simp] theorem endPulse_interrupts (n : Channel) : (endPulse n s).interrupts = s.interrupts :=
  by unfold endPulse; (repeat' split) <;> simp
@[simp] theorem endPulse_window (n : Channel) : (endPulse n s).window = s.window :=
  by unfold endPulse; (repeat' split) <;> simp
@[simp] theorem endPulse_pending (n : Channel) : (endPulse n s).pending = s.pending :=
  by unfold endPulse; (repeat' split) <;> simp
@[simp] theorem endPulse_freeCount (n : Channel) : (endPulse n s).freeCount = s.freeCount :=
  by unfold endPulse; (repeat' split) <;> simp

@[simp] theorem channelAdvance_motion (n : Channel) : (channelAdvance n s).motion = s.motion :=
  by unfold channelAdvance; split <;> simp
@[simp] theorem channelAdvance_det (n : Channel) : (channelAdvance n s).det = s.det :=
  by unfold channelAdvance; split <;> simp
@[simp] theorem channelAdvance_detectors (n : Channel) : (channelAdvance n s).detectors = s.detectors :=
  by unfold channelAdvance; split <;> simp
@[simp] theorem channelAdvance_verdicts (n : Channel) : (channelAdvance n s).verdicts = s.verdicts :=
  by unfold channelAdvance; split <;> simp
@[simp] theorem channelAdvance_epochUnit (n : Channel) : (channelAdvance n s).epochUnit = s.epochUnit :=
  by unfold channelAdvance; split <;> simp
@[simp] theorem channelAdvance_engine (n : Channel) : (channelAdvance n s).engine = s.engine :=
  by unfold channelAdvance; split <;> simp
@[simp] theorem channelAdvance_window (n : Channel) : (channelAdvance n s).window = s.window :=
  by unfold channelAdvance; split <;> simp
@[simp] theorem channelAdvance_pending (n : Channel) : (channelAdvance n s).pending = s.pending :=
  by unfold channelAdvance; split <;> simp
@[simp] theorem channelAdvance_freeCount (n : Channel) : (channelAdvance n s).freeCount = s.freeCount :=
  by unfold channelAdvance; split <;> simp

@[simp] theorem channelEvent_motion (n : Channel) : (channelEvent n s).motion = s.motion :=
  by unfold channelEvent; split <;> simp
@[simp] theorem channelEvent_det (n : Channel) : (channelEvent n s).det = s.det :=
  by unfold channelEvent; split <;> simp
@[simp] theorem channelEvent_detectors (n : Channel) : (channelEvent n s).detectors = s.detectors :=
  by unfold channelEvent; split <;> simp
@[simp] theorem channelEvent_verdicts (n : Channel) : (channelEvent n s).verdicts = s.verdicts :=
  by unfold channelEvent; split <;> simp
@[simp] theorem channelEvent_epochUnit (n : Channel) : (channelEvent n s).epochUnit = s.epochUnit :=
  by unfold channelEvent; split <;> simp
@[simp] theorem channelEvent_engine (n : Channel) : (channelEvent n s).engine = s.engine :=
  by unfold channelEvent; split <;> simp
@[simp] theorem channelEvent_window (n : Channel) : (channelEvent n s).window = s.window :=
  by unfold channelEvent; split <;> simp
@[simp] theorem channelEvent_pending (n : Channel) : (channelEvent n s).pending = s.pending :=
  by unfold channelEvent; split <;> simp
@[simp] theorem channelEvent_freeCount (n : Channel) : (channelEvent n s).freeCount = s.freeCount :=
  by unfold channelEvent; split <;> simp

@[simp] theorem stopPulse_motion (a : Action) : (stopPulse a s).motion = s.motion := rfl
@[simp] theorem stopPulse_det (a : Action) : (stopPulse a s).det = s.det := rfl
@[simp] theorem stopPulse_detectors (a : Action) : (stopPulse a s).detectors = s.detectors := rfl
@[simp] theorem stopPulse_table (a : Action) : (stopPulse a s).table = s.table := rfl
@[simp] theorem stopPulse_verdicts (a : Action) : (stopPulse a s).verdicts = s.verdicts := rfl
@[simp] theorem stopPulse_epochUnit (a : Action) : (stopPulse a s).epochUnit = s.epochUnit := rfl
@[simp] theorem stopPulse_schedule (a : Action) : (stopPulse a s).schedule = s.schedule := rfl
@[simp] theorem stopPulse_engine (a : Action) : (stopPulse a s).engine = s.engine := rfl
@[simp] theorem stopPulse_queue (a : Action) : (stopPulse a s).queue = s.queue := rfl
@[simp] theorem stopPulse_interrupts (a : Action) : (stopPulse a s).interrupts = s.interrupts := rfl
@[simp] theorem stopPulse_window (a : Action) : (stopPulse a s).window = s.window := rfl
@[simp] theorem stopPulse_pending (a : Action) : (stopPulse a s).pending = s.pending := rfl
@[simp] theorem stopPulse_freeCount (a : Action) : (stopPulse a s).freeCount = s.freeCount := rfl

@[simp] theorem cutPulses_motion : (cutPulses s).motion = s.motion := by
  unfold cutPulses
  refine foldl_field (fun s : State => s.motion) _ (fun s a => ?_) _ s
  unfold onItem; split <;> simp
@[simp] theorem cutPulses_det : (cutPulses s).det = s.det := by
  unfold cutPulses
  refine foldl_field (fun s : State => s.det) _ (fun s a => ?_) _ s
  unfold onItem; split <;> simp
@[simp] theorem cutPulses_detectors : (cutPulses s).detectors = s.detectors := by
  unfold cutPulses
  refine foldl_field (fun s : State => s.detectors) _ (fun s a => ?_) _ s
  unfold onItem; split <;> simp
@[simp] theorem cutPulses_verdicts : (cutPulses s).verdicts = s.verdicts := by
  unfold cutPulses
  refine foldl_field (fun s : State => s.verdicts) _ (fun s a => ?_) _ s
  unfold onItem; split <;> simp
@[simp] theorem cutPulses_epochUnit : (cutPulses s).epochUnit = s.epochUnit := by
  unfold cutPulses
  refine foldl_field (fun s : State => s.epochUnit) _ (fun s a => ?_) _ s
  unfold onItem; split <;> simp
@[simp] theorem cutPulses_engine : (cutPulses s).engine = s.engine := by
  unfold cutPulses
  refine foldl_field (fun s : State => s.engine) _ (fun s a => ?_) _ s
  unfold onItem; split <;> simp
@[simp] theorem cutPulses_queue : (cutPulses s).queue = s.queue := by
  unfold cutPulses
  refine foldl_field (fun s : State => s.queue) _ (fun s a => ?_) _ s
  unfold onItem; split <;> simp
@[simp] theorem cutPulses_interrupts : (cutPulses s).interrupts = s.interrupts := by
  unfold cutPulses
  refine foldl_field (fun s : State => s.interrupts) _ (fun s a => ?_) _ s
  unfold onItem; split <;> simp
@[simp] theorem cutPulses_window : (cutPulses s).window = s.window := by
  unfold cutPulses
  refine foldl_field (fun s : State => s.window) _ (fun s a => ?_) _ s
  unfold onItem; split <;> simp
@[simp] theorem cutPulses_pending : (cutPulses s).pending = s.pending := by
  unfold cutPulses
  refine foldl_field (fun s : State => s.pending) _ (fun s a => ?_) _ s
  unfold onItem; split <;> simp
@[simp] theorem cutPulses_freeCount : (cutPulses s).freeCount = s.freeCount := by
  unfold cutPulses
  refine foldl_field (fun s : State => s.freeCount) _ (fun s a => ?_) _ s
  unfold onItem; split <;> simp

@[simp] theorem flushSchedule_motion : (flushSchedule s).motion = s.motion :=
  foldl_field (fun s : State => s.motion) _ (fun s a => stopPulse_motion s a) _ s
@[simp] theorem flushSchedule_det : (flushSchedule s).det = s.det :=
  foldl_field (fun s : State => s.det) _ (fun s a => stopPulse_det s a) _ s
@[simp] theorem flushSchedule_detectors : (flushSchedule s).detectors = s.detectors :=
  foldl_field (fun s : State => s.detectors) _ (fun s a => stopPulse_detectors s a) _ s
@[simp] theorem flushSchedule_table : (flushSchedule s).table = s.table :=
  foldl_field (fun s : State => s.table) _ (fun s a => stopPulse_table s a) _ s
@[simp] theorem flushSchedule_verdicts : (flushSchedule s).verdicts = s.verdicts :=
  foldl_field (fun s : State => s.verdicts) _ (fun s a => stopPulse_verdicts s a) _ s
@[simp] theorem flushSchedule_epochUnit : (flushSchedule s).epochUnit = s.epochUnit :=
  foldl_field (fun s : State => s.epochUnit) _ (fun s a => stopPulse_epochUnit s a) _ s
@[simp] theorem flushSchedule_engine : (flushSchedule s).engine = s.engine :=
  foldl_field (fun s : State => s.engine) _ (fun s a => stopPulse_engine s a) _ s
@[simp] theorem flushSchedule_queue : (flushSchedule s).queue = s.queue :=
  foldl_field (fun s : State => s.queue) _ (fun s a => stopPulse_queue s a) _ s
@[simp] theorem flushSchedule_interrupts : (flushSchedule s).interrupts = s.interrupts :=
  foldl_field (fun s : State => s.interrupts) _ (fun s a => stopPulse_interrupts s a) _ s
@[simp] theorem flushSchedule_window : (flushSchedule s).window = s.window :=
  foldl_field (fun s : State => s.window) _ (fun s a => stopPulse_window s a) _ s
@[simp] theorem flushSchedule_pending : (flushSchedule s).pending = s.pending :=
  foldl_field (fun s : State => s.pending) _ (fun s a => stopPulse_pending s a) _ s
@[simp] theorem flushSchedule_freeCount : (flushSchedule s).freeCount = s.freeCount :=
  foldl_field (fun s : State => s.freeCount) _ (fun s a => stopPulse_freeCount s a) _ s

/-! ### The detectors -/

@[simp] theorem openGap_motion (l : Lane) (trailing : Word) : (openGap l trailing s).motion = s.motion :=
  by simp [openGap]
@[simp] theorem openGap_det (l : Lane) (trailing : Word) : (openGap l trailing s).det = s.det := by simp [openGap]
@[simp] theorem openGap_table (l : Lane) (trailing : Word) : (openGap l trailing s).table = s.table := by simp [openGap]
@[simp] theorem openGap_verdicts (l : Lane) (trailing : Word) : (openGap l trailing s).verdicts = s.verdicts :=
  by simp [openGap]
@[simp] theorem openGap_epochUnit (l : Lane) (trailing : Word) : (openGap l trailing s).epochUnit = s.epochUnit :=
  by simp [openGap]
@[simp] theorem openGap_schedule (l : Lane) (trailing : Word) : (openGap l trailing s).schedule = s.schedule :=
  by simp [openGap]
@[simp] theorem openGap_channels (l : Lane) (trailing : Word) : (openGap l trailing s).channels = s.channels :=
  by simp [openGap]
@[simp] theorem openGap_engine (l : Lane) (trailing : Word) : (openGap l trailing s).engine = s.engine :=
  by simp [openGap]
@[simp] theorem openGap_queue (l : Lane) (trailing : Word) : (openGap l trailing s).queue = s.queue := by simp [openGap]
@[simp] theorem openGap_interrupts (l : Lane) (trailing : Word) : (openGap l trailing s).interrupts = s.interrupts :=
  by simp [openGap]
@[simp] theorem openGap_window (l : Lane) (trailing : Word) : (openGap l trailing s).window = s.window :=
  by simp [openGap]
@[simp] theorem openGap_pending (l : Lane) (trailing : Word) : (openGap l trailing s).pending = s.pending :=
  by simp [openGap]
@[simp] theorem openGap_freeCount (l : Lane) (trailing : Word) : (openGap l trailing s).freeCount = s.freeCount :=
  by simp [openGap]

@[simp] theorem takeLeading_motion (l : Lane) (e : PendingEdge) : (takeLeading l e s).motion = s.motion :=
  by unfold takeLeading; (repeat' split) <;> simp
@[simp] theorem takeLeading_det (l : Lane) (e : PendingEdge) : (takeLeading l e s).det = s.det :=
  by unfold takeLeading; (repeat' split) <;> simp
@[simp] theorem takeLeading_verdicts (l : Lane) (e : PendingEdge) : (takeLeading l e s).verdicts = s.verdicts :=
  by unfold takeLeading; (repeat' split) <;> simp
@[simp] theorem takeLeading_epochUnit (l : Lane) (e : PendingEdge) : (takeLeading l e s).epochUnit = s.epochUnit :=
  by unfold takeLeading; (repeat' split) <;> simp
@[simp] theorem takeLeading_channels (l : Lane) (e : PendingEdge) : (takeLeading l e s).channels = s.channels :=
  by unfold takeLeading; (repeat' split) <;> simp
@[simp] theorem takeLeading_engine (l : Lane) (e : PendingEdge) : (takeLeading l e s).engine = s.engine :=
  by unfold takeLeading; (repeat' split) <;> simp
@[simp] theorem takeLeading_window (l : Lane) (e : PendingEdge) : (takeLeading l e s).window = s.window :=
  by unfold takeLeading; (repeat' split) <;> simp
@[simp] theorem takeLeading_pending (l : Lane) (e : PendingEdge) : (takeLeading l e s).pending = s.pending :=
  by unfold takeLeading; (repeat' split) <;> simp
@[simp] theorem takeLeading_freeCount (l : Lane) (e : PendingEdge) : (takeLeading l e s).freeCount = s.freeCount :=
  by unfold takeLeading; (repeat' split) <;> simp

@[simp] theorem measure_motion (l : Lane) (slot : Slot) (e : Entry) (trailing : Word) : (measure l slot e trailing s).motion = s.motion :=
  by unfold measure; dsimp only; split <;> simp
@[simp] theorem measure_det (l : Lane) (slot : Slot) (e : Entry) (trailing : Word) : (measure l slot e trailing s).det = s.det :=
  by unfold measure; dsimp only; split <;> simp
@[simp] theorem measure_verdicts (l : Lane) (slot : Slot) (e : Entry) (trailing : Word) : (measure l slot e trailing s).verdicts = s.verdicts :=
  by unfold measure; dsimp only; split <;> simp
@[simp] theorem measure_epochUnit (l : Lane) (slot : Slot) (e : Entry) (trailing : Word) : (measure l slot e trailing s).epochUnit = s.epochUnit :=
  by unfold measure; dsimp only; split <;> simp
@[simp] theorem measure_channels (l : Lane) (slot : Slot) (e : Entry) (trailing : Word) : (measure l slot e trailing s).channels = s.channels :=
  by unfold measure; dsimp only; split <;> simp
@[simp] theorem measure_engine (l : Lane) (slot : Slot) (e : Entry) (trailing : Word) : (measure l slot e trailing s).engine = s.engine :=
  by unfold measure; dsimp only; split <;> simp
@[simp] theorem measure_window (l : Lane) (slot : Slot) (e : Entry) (trailing : Word) : (measure l slot e trailing s).window = s.window :=
  by unfold measure; dsimp only; split <;> simp
@[simp] theorem measure_pending (l : Lane) (slot : Slot) (e : Entry) (trailing : Word) : (measure l slot e trailing s).pending = s.pending :=
  by unfold measure; dsimp only; split <;> simp
@[simp] theorem measure_freeCount (l : Lane) (slot : Slot) (e : Entry) (trailing : Word) : (measure l slot e trailing s).freeCount = s.freeCount :=
  by unfold measure; dsimp only; split <;> simp

@[simp] theorem takeTrailing_motion (l : Lane) (e : PendingEdge) : (takeTrailing l e s).motion = s.motion :=
  by unfold takeTrailing; dsimp only; (repeat' split) <;> simp
@[simp] theorem takeTrailing_det (l : Lane) (e : PendingEdge) : (takeTrailing l e s).det = s.det :=
  by unfold takeTrailing; dsimp only; (repeat' split) <;> simp
@[simp] theorem takeTrailing_verdicts (l : Lane) (e : PendingEdge) : (takeTrailing l e s).verdicts = s.verdicts :=
  by unfold takeTrailing; dsimp only; (repeat' split) <;> simp
@[simp] theorem takeTrailing_epochUnit (l : Lane) (e : PendingEdge) : (takeTrailing l e s).epochUnit = s.epochUnit :=
  by unfold takeTrailing; dsimp only; (repeat' split) <;> simp
@[simp] theorem takeTrailing_channels (l : Lane) (e : PendingEdge) : (takeTrailing l e s).channels = s.channels :=
  by unfold takeTrailing; dsimp only; (repeat' split) <;> simp
@[simp] theorem takeTrailing_engine (l : Lane) (e : PendingEdge) : (takeTrailing l e s).engine = s.engine :=
  by unfold takeTrailing; dsimp only; (repeat' split) <;> simp
@[simp] theorem takeTrailing_window (l : Lane) (e : PendingEdge) : (takeTrailing l e s).window = s.window :=
  by unfold takeTrailing; dsimp only; (repeat' split) <;> simp
@[simp] theorem takeTrailing_pending (l : Lane) (e : PendingEdge) : (takeTrailing l e s).pending = s.pending :=
  by unfold takeTrailing; dsimp only; (repeat' split) <;> simp
@[simp] theorem takeTrailing_freeCount (l : Lane) (e : PendingEdge) : (takeTrailing l e s).freeCount = s.freeCount :=
  by unfold takeTrailing; dsimp only; (repeat' split) <;> simp

@[simp] theorem takeEdge_motion (l : Lane) (e : PendingEdge) : (takeEdge l e s).motion = s.motion :=
  by unfold takeEdge; dsimp only; split <;> simp
@[simp] theorem takeEdge_det (l : Lane) (e : PendingEdge) : (takeEdge l e s).det = s.det :=
  by unfold takeEdge; dsimp only; split <;> simp
@[simp] theorem takeEdge_verdicts (l : Lane) (e : PendingEdge) : (takeEdge l e s).verdicts = s.verdicts :=
  by unfold takeEdge; dsimp only; split <;> simp
@[simp] theorem takeEdge_epochUnit (l : Lane) (e : PendingEdge) : (takeEdge l e s).epochUnit = s.epochUnit :=
  by unfold takeEdge; dsimp only; split <;> simp
@[simp] theorem takeEdge_channels (l : Lane) (e : PendingEdge) : (takeEdge l e s).channels = s.channels :=
  by unfold takeEdge; dsimp only; split <;> simp
@[simp] theorem takeEdge_engine (l : Lane) (e : PendingEdge) : (takeEdge l e s).engine = s.engine :=
  by unfold takeEdge; dsimp only; split <;> simp
@[simp] theorem takeEdge_window (l : Lane) (e : PendingEdge) : (takeEdge l e s).window = s.window :=
  by unfold takeEdge; dsimp only; split <;> simp
@[simp] theorem takeEdge_pending (l : Lane) (e : PendingEdge) : (takeEdge l e s).pending = s.pending :=
  by unfold takeEdge; dsimp only; split <;> simp
@[simp] theorem takeEdge_freeCount (l : Lane) (e : PendingEdge) : (takeEdge l e s).freeCount = s.freeCount :=
  by unfold takeEdge; dsimp only; split <;> simp

@[simp] theorem createEdge_motion (l : Lane) : (createEdge l s).motion = s.motion :=
  by unfold createEdge; dsimp only; split <;> simp
@[simp] theorem createEdge_det (l : Lane) : (createEdge l s).det = s.det :=
  by unfold createEdge; dsimp only; split <;> simp
@[simp] theorem createEdge_verdicts (l : Lane) : (createEdge l s).verdicts = s.verdicts :=
  by unfold createEdge; dsimp only; split <;> simp
@[simp] theorem createEdge_epochUnit (l : Lane) : (createEdge l s).epochUnit = s.epochUnit :=
  by unfold createEdge; dsimp only; split <;> simp
@[simp] theorem createEdge_channels (l : Lane) : (createEdge l s).channels = s.channels :=
  by unfold createEdge; dsimp only; split <;> simp
@[simp] theorem createEdge_engine (l : Lane) : (createEdge l s).engine = s.engine :=
  by unfold createEdge; dsimp only; split <;> simp
@[simp] theorem createEdge_window (l : Lane) : (createEdge l s).window = s.window :=
  by unfold createEdge; dsimp only; split <;> simp
@[simp] theorem createEdge_pending (l : Lane) : (createEdge l s).pending = s.pending :=
  by unfold createEdge; dsimp only; split <;> simp
@[simp] theorem createEdge_freeCount (l : Lane) : (createEdge l s).freeCount = s.freeCount :=
  by unfold createEdge; dsimp only; split <;> simp

@[simp] theorem rawChange_motion (l : Lane) : (rawChange l s).motion = s.motion :=
  by unfold rawChange; (repeat' split) <;> simp
@[simp] theorem rawChange_det (l : Lane) : (rawChange l s).det = s.det := by unfold rawChange; (repeat' split) <;> simp
@[simp] theorem rawChange_verdicts (l : Lane) : (rawChange l s).verdicts = s.verdicts :=
  by unfold rawChange; (repeat' split) <;> simp
@[simp] theorem rawChange_epochUnit (l : Lane) : (rawChange l s).epochUnit = s.epochUnit :=
  by unfold rawChange; (repeat' split) <;> simp
@[simp] theorem rawChange_channels (l : Lane) : (rawChange l s).channels = s.channels :=
  by unfold rawChange; (repeat' split) <;> simp
@[simp] theorem rawChange_engine (l : Lane) : (rawChange l s).engine = s.engine :=
  by unfold rawChange; (repeat' split) <;> simp
@[simp] theorem rawChange_window (l : Lane) : (rawChange l s).window = s.window :=
  by unfold rawChange; (repeat' split) <;> simp
@[simp] theorem rawChange_pending (l : Lane) : (rawChange l s).pending = s.pending :=
  by unfold rawChange; (repeat' split) <;> simp
@[simp] theorem rawChange_freeCount (l : Lane) : (rawChange l s).freeCount = s.freeCount :=
  by unfold rawChange; (repeat' split) <;> simp

@[simp] theorem takeOverlength_motion (l : Lane) (slot : Slot) (e : Entry) : (takeOverlength l slot e s).motion = s.motion :=
  by simp [takeOverlength]
@[simp] theorem takeOverlength_det (l : Lane) (slot : Slot) (e : Entry) : (takeOverlength l slot e s).det = s.det :=
  by simp [takeOverlength]
@[simp] theorem takeOverlength_verdicts (l : Lane) (slot : Slot) (e : Entry) : (takeOverlength l slot e s).verdicts = s.verdicts :=
  by simp [takeOverlength]
@[simp] theorem takeOverlength_epochUnit (l : Lane) (slot : Slot) (e : Entry) : (takeOverlength l slot e s).epochUnit = s.epochUnit :=
  by simp [takeOverlength]
@[simp] theorem takeOverlength_schedule (l : Lane) (slot : Slot) (e : Entry) : (takeOverlength l slot e s).schedule = s.schedule :=
  by simp [takeOverlength]
@[simp] theorem takeOverlength_channels (l : Lane) (slot : Slot) (e : Entry) : (takeOverlength l slot e s).channels = s.channels :=
  by simp [takeOverlength]
@[simp] theorem takeOverlength_engine (l : Lane) (slot : Slot) (e : Entry) : (takeOverlength l slot e s).engine = s.engine :=
  by simp [takeOverlength]
@[simp] theorem takeOverlength_window (l : Lane) (slot : Slot) (e : Entry) : (takeOverlength l slot e s).window = s.window :=
  by simp [takeOverlength]
@[simp] theorem takeOverlength_pending (l : Lane) (slot : Slot) (e : Entry) : (takeOverlength l slot e s).pending = s.pending :=
  by simp [takeOverlength]
@[simp] theorem takeOverlength_freeCount (l : Lane) (slot : Slot) (e : Entry) : (takeOverlength l slot e s).freeCount = s.freeCount :=
  by simp [takeOverlength]

@[simp] theorem detectorAdvance_motion (l : Lane) : (detectorAdvance l s).motion = s.motion :=
  by unfold detectorAdvance; dsimp only; (repeat' split) <;> simp
@[simp] theorem detectorAdvance_det (l : Lane) : (detectorAdvance l s).det = s.det :=
  by unfold detectorAdvance; dsimp only; (repeat' split) <;> simp
@[simp] theorem detectorAdvance_verdicts (l : Lane) : (detectorAdvance l s).verdicts = s.verdicts :=
  by unfold detectorAdvance; dsimp only; (repeat' split) <;> simp
@[simp] theorem detectorAdvance_epochUnit (l : Lane) : (detectorAdvance l s).epochUnit = s.epochUnit :=
  by unfold detectorAdvance; dsimp only; (repeat' split) <;> simp
@[simp] theorem detectorAdvance_schedule (l : Lane) : (detectorAdvance l s).schedule = s.schedule :=
  by unfold detectorAdvance; dsimp only; (repeat' split) <;> simp
@[simp] theorem detectorAdvance_channels (l : Lane) : (detectorAdvance l s).channels = s.channels :=
  by unfold detectorAdvance; dsimp only; (repeat' split) <;> simp
@[simp] theorem detectorAdvance_engine (l : Lane) : (detectorAdvance l s).engine = s.engine :=
  by unfold detectorAdvance; dsimp only; (repeat' split) <;> simp
@[simp] theorem detectorAdvance_window (l : Lane) : (detectorAdvance l s).window = s.window :=
  by unfold detectorAdvance; dsimp only; (repeat' split) <;> simp
@[simp] theorem detectorAdvance_pending (l : Lane) : (detectorAdvance l s).pending = s.pending :=
  by unfold detectorAdvance; dsimp only; (repeat' split) <;> simp
@[simp] theorem detectorAdvance_freeCount (l : Lane) : (detectorAdvance l s).freeCount = s.freeCount :=
  by unfold detectorAdvance; dsimp only; (repeat' split) <;> simp

@[simp] theorem takeFromInput_motion (l : Lane) : (takeFromInput s l).motion = s.motion := by simp [takeFromInput]
@[simp] theorem takeFromInput_det (l : Lane) : (takeFromInput s l).det = s.det := by simp [takeFromInput]
@[simp] theorem takeFromInput_table (l : Lane) : (takeFromInput s l).table = s.table := by simp [takeFromInput]
@[simp] theorem takeFromInput_verdicts (l : Lane) : (takeFromInput s l).verdicts = s.verdicts := by simp [takeFromInput]
@[simp] theorem takeFromInput_epochUnit (l : Lane) : (takeFromInput s l).epochUnit = s.epochUnit :=
  by simp [takeFromInput]
@[simp] theorem takeFromInput_schedule (l : Lane) : (takeFromInput s l).schedule = s.schedule := by simp [takeFromInput]
@[simp] theorem takeFromInput_channels (l : Lane) : (takeFromInput s l).channels = s.channels := by simp [takeFromInput]
@[simp] theorem takeFromInput_engine (l : Lane) : (takeFromInput s l).engine = s.engine := by simp [takeFromInput]
@[simp] theorem takeFromInput_queue (l : Lane) : (takeFromInput s l).queue = s.queue := by simp [takeFromInput]
@[simp] theorem takeFromInput_interrupts (l : Lane) : (takeFromInput s l).interrupts = s.interrupts :=
  by simp [takeFromInput]
@[simp] theorem takeFromInput_window (l : Lane) : (takeFromInput s l).window = s.window := by simp [takeFromInput]
@[simp] theorem takeFromInput_pending (l : Lane) : (takeFromInput s l).pending = s.pending := by simp [takeFromInput]
@[simp] theorem takeFromInput_freeCount (l : Lane) : (takeFromInput s l).freeCount = s.freeCount :=
  by simp [takeFromInput]

@[simp] theorem detectorsFromInputs_motion : (detectorsFromInputs s).motion = s.motion :=
  foldl_field (fun s : State => s.motion) _ (fun s l => takeFromInput_motion s l) _ s
@[simp] theorem detectorsFromInputs_det : (detectorsFromInputs s).det = s.det :=
  foldl_field (fun s : State => s.det) _ (fun s l => takeFromInput_det s l) _ s
@[simp] theorem detectorsFromInputs_table : (detectorsFromInputs s).table = s.table :=
  foldl_field (fun s : State => s.table) _ (fun s l => takeFromInput_table s l) _ s
@[simp] theorem detectorsFromInputs_verdicts : (detectorsFromInputs s).verdicts = s.verdicts :=
  foldl_field (fun s : State => s.verdicts) _ (fun s l => takeFromInput_verdicts s l) _ s
@[simp] theorem detectorsFromInputs_epochUnit : (detectorsFromInputs s).epochUnit = s.epochUnit :=
  foldl_field (fun s : State => s.epochUnit) _ (fun s l => takeFromInput_epochUnit s l) _ s
@[simp] theorem detectorsFromInputs_schedule : (detectorsFromInputs s).schedule = s.schedule :=
  foldl_field (fun s : State => s.schedule) _ (fun s l => takeFromInput_schedule s l) _ s
@[simp] theorem detectorsFromInputs_channels : (detectorsFromInputs s).channels = s.channels :=
  foldl_field (fun s : State => s.channels) _ (fun s l => takeFromInput_channels s l) _ s
@[simp] theorem detectorsFromInputs_engine : (detectorsFromInputs s).engine = s.engine :=
  foldl_field (fun s : State => s.engine) _ (fun s l => takeFromInput_engine s l) _ s
@[simp] theorem detectorsFromInputs_queue : (detectorsFromInputs s).queue = s.queue :=
  foldl_field (fun s : State => s.queue) _ (fun s l => takeFromInput_queue s l) _ s
@[simp] theorem detectorsFromInputs_interrupts : (detectorsFromInputs s).interrupts = s.interrupts :=
  foldl_field (fun s : State => s.interrupts) _ (fun s l => takeFromInput_interrupts s l) _ s
@[simp] theorem detectorsFromInputs_window : (detectorsFromInputs s).window = s.window :=
  foldl_field (fun s : State => s.window) _ (fun s l => takeFromInput_window s l) _ s
@[simp] theorem detectorsFromInputs_pending : (detectorsFromInputs s).pending = s.pending :=
  foldl_field (fun s : State => s.pending) _ (fun s l => takeFromInput_pending s l) _ s
@[simp] theorem detectorsFromInputs_freeCount : (detectorsFromInputs s).freeCount = s.freeCount :=
  foldl_field (fun s : State => s.freeCount) _ (fun s l => takeFromInput_freeCount s l) _ s

@[simp] theorem resample_motion (l : Lane) : (resample s l).motion = s.motion := by unfold resample; split <;> simp
@[simp] theorem resample_det (l : Lane) : (resample s l).det = s.det := by unfold resample; split <;> simp
@[simp] theorem resample_verdicts (l : Lane) : (resample s l).verdicts = s.verdicts :=
  by unfold resample; split <;> simp
@[simp] theorem resample_epochUnit (l : Lane) : (resample s l).epochUnit = s.epochUnit :=
  by unfold resample; split <;> simp
@[simp] theorem resample_channels (l : Lane) : (resample s l).channels = s.channels :=
  by unfold resample; split <;> simp
@[simp] theorem resample_engine (l : Lane) : (resample s l).engine = s.engine := by unfold resample; split <;> simp
@[simp] theorem resample_window (l : Lane) : (resample s l).window = s.window := by unfold resample; split <;> simp
@[simp] theorem resample_pending (l : Lane) : (resample s l).pending = s.pending := by unfold resample; split <;> simp
@[simp] theorem resample_freeCount (l : Lane) : (resample s l).freeCount = s.freeCount :=
  by unfold resample; split <;> simp

@[simp] theorem setLaneMask_motion (mask : BitVec 4) : (setLaneMask mask s).motion = s.motion := by
  unfold setLaneMask
  refine foldl_field (fun s : State => s.motion) _ (fun s l => ?_) _ _
  split <;> simp
@[simp] theorem setLaneMask_det (mask : BitVec 4) : (setLaneMask mask s).det = s.det := by
  unfold setLaneMask
  refine foldl_field (fun s : State => s.det) _ (fun s l => ?_) _ _
  split <;> simp
@[simp] theorem setLaneMask_table (mask : BitVec 4) : (setLaneMask mask s).table = s.table := by
  unfold setLaneMask
  refine foldl_field (fun s : State => s.table) _ (fun s l => ?_) _ _
  split <;> simp
@[simp] theorem setLaneMask_verdicts (mask : BitVec 4) : (setLaneMask mask s).verdicts = s.verdicts := by
  unfold setLaneMask
  refine foldl_field (fun s : State => s.verdicts) _ (fun s l => ?_) _ _
  split <;> simp
@[simp] theorem setLaneMask_epochUnit (mask : BitVec 4) : (setLaneMask mask s).epochUnit = s.epochUnit := by
  unfold setLaneMask
  refine foldl_field (fun s : State => s.epochUnit) _ (fun s l => ?_) _ _
  split <;> simp
@[simp] theorem setLaneMask_schedule (mask : BitVec 4) : (setLaneMask mask s).schedule = s.schedule := by
  unfold setLaneMask
  refine foldl_field (fun s : State => s.schedule) _ (fun s l => ?_) _ _
  split <;> simp
@[simp] theorem setLaneMask_channels (mask : BitVec 4) : (setLaneMask mask s).channels = s.channels := by
  unfold setLaneMask
  refine foldl_field (fun s : State => s.channels) _ (fun s l => ?_) _ _
  split <;> simp
@[simp] theorem setLaneMask_engine (mask : BitVec 4) : (setLaneMask mask s).engine = s.engine := by
  unfold setLaneMask
  refine foldl_field (fun s : State => s.engine) _ (fun s l => ?_) _ _
  split <;> simp
@[simp] theorem setLaneMask_queue (mask : BitVec 4) : (setLaneMask mask s).queue = s.queue := by
  unfold setLaneMask
  refine foldl_field (fun s : State => s.queue) _ (fun s l => ?_) _ _
  split <;> simp
@[simp] theorem setLaneMask_interrupts (mask : BitVec 4) : (setLaneMask mask s).interrupts = s.interrupts := by
  unfold setLaneMask
  refine foldl_field (fun s : State => s.interrupts) _ (fun s l => ?_) _ _
  split <;> simp
@[simp] theorem setLaneMask_window (mask : BitVec 4) : (setLaneMask mask s).window = s.window := by
  unfold setLaneMask
  refine foldl_field (fun s : State => s.window) _ (fun s l => ?_) _ _
  split <;> simp
@[simp] theorem setLaneMask_pending (mask : BitVec 4) : (setLaneMask mask s).pending = s.pending := by
  unfold setLaneMask
  refine foldl_field (fun s : State => s.pending) _ (fun s l => ?_) _ _
  split <;> simp
@[simp] theorem setLaneMask_freeCount (mask : BitVec 4) : (setLaneMask mask s).freeCount = s.freeCount := by
  unfold setLaneMask
  refine foldl_field (fun s : State => s.freeCount) _ (fun s l => ?_) _ _
  split <;> simp

/-! ### The verdict unit -/

@[simp] theorem verdictError_motion (code : ExceptionCode) (r : VerdictRecord) : (verdictError code r s).motion = s.motion :=
  by simp [verdictError]
@[simp] theorem verdictError_det (code : ExceptionCode) (r : VerdictRecord) : (verdictError code r s).det = s.det :=
  by simp [verdictError]
@[simp] theorem verdictError_detectors (code : ExceptionCode) (r : VerdictRecord) : (verdictError code r s).detectors = s.detectors :=
  by simp [verdictError]
@[simp] theorem verdictError_table (code : ExceptionCode) (r : VerdictRecord) : (verdictError code r s).table = s.table :=
  by simp [verdictError]
@[simp] theorem verdictError_epochUnit (code : ExceptionCode) (r : VerdictRecord) : (verdictError code r s).epochUnit = s.epochUnit :=
  by simp [verdictError]
@[simp] theorem verdictError_schedule (code : ExceptionCode) (r : VerdictRecord) : (verdictError code r s).schedule = s.schedule :=
  by simp [verdictError]
@[simp] theorem verdictError_channels (code : ExceptionCode) (r : VerdictRecord) : (verdictError code r s).channels = s.channels :=
  by simp [verdictError]
@[simp] theorem verdictError_engine (code : ExceptionCode) (r : VerdictRecord) : (verdictError code r s).engine = s.engine :=
  by simp [verdictError]
@[simp] theorem verdictError_window (code : ExceptionCode) (r : VerdictRecord) : (verdictError code r s).window = s.window :=
  by simp [verdictError]
@[simp] theorem verdictError_pending (code : ExceptionCode) (r : VerdictRecord) : (verdictError code r s).pending = s.pending :=
  by simp [verdictError]
@[simp] theorem verdictError_freeCount (code : ExceptionCode) (r : VerdictRecord) : (verdictError code r s).freeCount = s.freeCount :=
  by simp [verdictError]

@[simp] theorem answerLate_motion (slot : Slot) (r : VerdictRecord) : (answerLate slot r s).motion = s.motion :=
  by simp [answerLate]
@[simp] theorem answerLate_det (slot : Slot) (r : VerdictRecord) : (answerLate slot r s).det = s.det :=
  by simp [answerLate]
@[simp] theorem answerLate_detectors (slot : Slot) (r : VerdictRecord) : (answerLate slot r s).detectors = s.detectors :=
  by simp [answerLate]
@[simp] theorem answerLate_epochUnit (slot : Slot) (r : VerdictRecord) : (answerLate slot r s).epochUnit = s.epochUnit :=
  by simp [answerLate]
@[simp] theorem answerLate_schedule (slot : Slot) (r : VerdictRecord) : (answerLate slot r s).schedule = s.schedule :=
  by simp [answerLate]
@[simp] theorem answerLate_channels (slot : Slot) (r : VerdictRecord) : (answerLate slot r s).channels = s.channels :=
  by simp [answerLate]
@[simp] theorem answerLate_engine (slot : Slot) (r : VerdictRecord) : (answerLate slot r s).engine = s.engine :=
  by simp [answerLate]
@[simp] theorem answerLate_window (slot : Slot) (r : VerdictRecord) : (answerLate slot r s).window = s.window :=
  by simp [answerLate]
@[simp] theorem answerLate_pending (slot : Slot) (r : VerdictRecord) : (answerLate slot r s).pending = s.pending :=
  by simp [answerLate]
@[simp] theorem answerLate_freeCount (slot : Slot) (r : VerdictRecord) : (answerLate slot r s).freeCount = s.freeCount :=
  by simp [answerLate]

@[simp] theorem settleVerdict_motion (r : VerdictRecord) : (settleVerdict r s).motion = s.motion :=
  by unfold settleVerdict; (repeat' split) <;> simp
@[simp] theorem settleVerdict_det (r : VerdictRecord) : (settleVerdict r s).det = s.det :=
  by unfold settleVerdict; (repeat' split) <;> simp
@[simp] theorem settleVerdict_detectors (r : VerdictRecord) : (settleVerdict r s).detectors = s.detectors :=
  by unfold settleVerdict; (repeat' split) <;> simp
@[simp] theorem settleVerdict_epochUnit (r : VerdictRecord) : (settleVerdict r s).epochUnit = s.epochUnit :=
  by unfold settleVerdict; (repeat' split) <;> simp
@[simp] theorem settleVerdict_schedule (r : VerdictRecord) : (settleVerdict r s).schedule = s.schedule :=
  by unfold settleVerdict; (repeat' split) <;> simp
@[simp] theorem settleVerdict_channels (r : VerdictRecord) : (settleVerdict r s).channels = s.channels :=
  by unfold settleVerdict; (repeat' split) <;> simp
@[simp] theorem settleVerdict_engine (r : VerdictRecord) : (settleVerdict r s).engine = s.engine :=
  by unfold settleVerdict; (repeat' split) <;> simp
@[simp] theorem settleVerdict_window (r : VerdictRecord) : (settleVerdict r s).window = s.window :=
  by unfold settleVerdict; (repeat' split) <;> simp
@[simp] theorem settleVerdict_pending (r : VerdictRecord) : (settleVerdict r s).pending = s.pending :=
  by unfold settleVerdict; (repeat' split) <;> simp
@[simp] theorem settleVerdict_freeCount (r : VerdictRecord) : (settleVerdict r s).freeCount = s.freeCount :=
  by unfold settleVerdict; (repeat' split) <;> simp

@[simp] theorem takeVerdict_motion : (takeVerdict s).motion = s.motion :=
  by unfold takeVerdict; (repeat' split) <;> simp
@[simp] theorem takeVerdict_det : (takeVerdict s).det = s.det := by unfold takeVerdict; (repeat' split) <;> simp
@[simp] theorem takeVerdict_detectors : (takeVerdict s).detectors = s.detectors :=
  by unfold takeVerdict; (repeat' split) <;> simp
@[simp] theorem takeVerdict_epochUnit : (takeVerdict s).epochUnit = s.epochUnit :=
  by unfold takeVerdict; (repeat' split) <;> simp
@[simp] theorem takeVerdict_schedule : (takeVerdict s).schedule = s.schedule :=
  by unfold takeVerdict; (repeat' split) <;> simp
@[simp] theorem takeVerdict_channels : (takeVerdict s).channels = s.channels :=
  by unfold takeVerdict; (repeat' split) <;> simp
@[simp] theorem takeVerdict_engine : (takeVerdict s).engine = s.engine :=
  by unfold takeVerdict; (repeat' split) <;> simp
@[simp] theorem takeVerdict_window : (takeVerdict s).window = s.window :=
  by unfold takeVerdict; (repeat' split) <;> simp
@[simp] theorem takeVerdict_pending : (takeVerdict s).pending = s.pending :=
  by unfold takeVerdict; (repeat' split) <;> simp
@[simp] theorem takeVerdict_freeCount : (takeVerdict s).freeCount = s.freeCount :=
  by unfold takeVerdict; (repeat' split) <;> simp

/-! ### The engine -/

@[simp] theorem completeDrain_motion : (completeDrain s).motion = s.motion :=
  by unfold completeDrain; (repeat' split) <;> simp
@[simp] theorem completeDrain_det : (completeDrain s).det = s.det := by unfold completeDrain; (repeat' split) <;> simp
@[simp] theorem completeDrain_table : (completeDrain s).table = s.table :=
  by unfold completeDrain; (repeat' split) <;> simp
@[simp] theorem completeDrain_verdicts : (completeDrain s).verdicts = s.verdicts :=
  by unfold completeDrain; (repeat' split) <;> simp
@[simp] theorem completeDrain_epochUnit : (completeDrain s).epochUnit = s.epochUnit :=
  by unfold completeDrain; (repeat' split) <;> simp
@[simp] theorem completeDrain_schedule : (completeDrain s).schedule = s.schedule :=
  by unfold completeDrain; (repeat' split) <;> simp
@[simp] theorem completeDrain_channels : (completeDrain s).channels = s.channels :=
  by unfold completeDrain; (repeat' split) <;> simp
@[simp] theorem completeDrain_queue : (completeDrain s).queue = s.queue :=
  by unfold completeDrain; (repeat' split) <;> simp
@[simp] theorem completeDrain_window : (completeDrain s).window = s.window :=
  by unfold completeDrain; (repeat' split) <;> simp
@[simp] theorem completeDrain_pending : (completeDrain s).pending = s.pending :=
  by unfold completeDrain; (repeat' split) <;> simp
@[simp] theorem completeDrain_freeCount : (completeDrain s).freeCount = s.freeCount :=
  by unfold completeDrain; (repeat' split) <;> simp

@[simp] theorem settleDrain_motion : (settleDrain s).motion = s.motion :=
  by unfold settleDrain; (repeat' split) <;> simp
@[simp] theorem settleDrain_det : (settleDrain s).det = s.det := by unfold settleDrain; (repeat' split) <;> simp
@[simp] theorem settleDrain_table : (settleDrain s).table = s.table := by unfold settleDrain; (repeat' split) <;> simp
@[simp] theorem settleDrain_verdicts : (settleDrain s).verdicts = s.verdicts :=
  by unfold settleDrain; (repeat' split) <;> simp
@[simp] theorem settleDrain_epochUnit : (settleDrain s).epochUnit = s.epochUnit :=
  by unfold settleDrain; (repeat' split) <;> simp
@[simp] theorem settleDrain_schedule : (settleDrain s).schedule = s.schedule :=
  by unfold settleDrain; (repeat' split) <;> simp
@[simp] theorem settleDrain_channels : (settleDrain s).channels = s.channels :=
  by unfold settleDrain; (repeat' split) <;> simp
@[simp] theorem settleDrain_queue : (settleDrain s).queue = s.queue := by unfold settleDrain; (repeat' split) <;> simp
@[simp] theorem settleDrain_window : (settleDrain s).window = s.window :=
  by unfold settleDrain; (repeat' split) <;> simp
@[simp] theorem settleDrain_pending : (settleDrain s).pending = s.pending :=
  by unfold settleDrain; (repeat' split) <;> simp
@[simp] theorem settleDrain_freeCount : (settleDrain s).freeCount = s.freeCount :=
  by unfold settleDrain; (repeat' split) <;> simp

@[simp] theorem freeze_motion (r : FaultReport) : (freeze r s).motion = s.motion := by simp [freeze]
@[simp] theorem freeze_det (r : FaultReport) : (freeze r s).det = s.det := by simp [freeze]
@[simp] theorem freeze_verdicts (r : FaultReport) : (freeze r s).verdicts = s.verdicts := by simp [freeze]
@[simp] theorem freeze_epochUnit (r : FaultReport) : (freeze r s).epochUnit = s.epochUnit := by simp [freeze]
@[simp] theorem freeze_window (r : FaultReport) : (freeze r s).window = s.window := by simp [freeze]
@[simp] theorem freeze_pending (r : FaultReport) : (freeze r s).pending = s.pending := by simp [freeze]
@[simp] theorem freeze_freeCount (r : FaultReport) : (freeze r s).freeCount = s.freeCount := by simp [freeze]

@[simp] theorem takeReport_motion (r : FaultReport) : (takeReport r s).motion = s.motion :=
  by unfold takeReport; (repeat' split) <;> simp
@[simp] theorem takeReport_det (r : FaultReport) : (takeReport r s).det = s.det :=
  by unfold takeReport; (repeat' split) <;> simp
@[simp] theorem takeReport_verdicts (r : FaultReport) : (takeReport r s).verdicts = s.verdicts :=
  by unfold takeReport; (repeat' split) <;> simp
@[simp] theorem takeReport_epochUnit (r : FaultReport) : (takeReport r s).epochUnit = s.epochUnit :=
  by unfold takeReport; (repeat' split) <;> simp
@[simp] theorem takeReport_window (r : FaultReport) : (takeReport r s).window = s.window :=
  by unfold takeReport; (repeat' split) <;> simp
@[simp] theorem takeReport_pending (r : FaultReport) : (takeReport r s).pending = s.pending :=
  by unfold takeReport; (repeat' split) <;> simp
@[simp] theorem takeReport_freeCount (r : FaultReport) : (takeReport r s).freeCount = s.freeCount :=
  by unfold takeReport; (repeat' split) <;> simp

@[simp] theorem beginRun_det (committing : Bool) : (beginRun committing s).det = s.det :=
  by unfold beginRun; cases committing <;> simp
@[simp] theorem beginRun_table (committing : Bool) : (beginRun committing s).table = s.table :=
  by unfold beginRun; cases committing <;> simp
@[simp] theorem beginRun_verdicts (committing : Bool) : (beginRun committing s).verdicts = s.verdicts :=
  by unfold beginRun; cases committing <;> simp
@[simp] theorem beginRun_schedule (committing : Bool) : (beginRun committing s).schedule = s.schedule :=
  by unfold beginRun; cases committing <;> simp
@[simp] theorem beginRun_channels (committing : Bool) : (beginRun committing s).channels = s.channels :=
  by unfold beginRun; cases committing <;> simp
@[simp] theorem beginRun_window (committing : Bool) : (beginRun committing s).window = s.window :=
  by unfold beginRun; cases committing <;> simp
@[simp] theorem beginRun_pending (committing : Bool) : (beginRun committing s).pending = s.pending :=
  by unfold beginRun; cases committing <;> simp
@[simp] theorem beginRun_freeCount (committing : Bool) : (beginRun committing s).freeCount = s.freeCount :=
  by unfold beginRun; cases committing <;> simp

@[simp] theorem commandStart_det : (commandStart s).det = s.det := by unfold commandStart; (repeat' split) <;> simp
@[simp] theorem commandStart_table : (commandStart s).table = s.table :=
  by unfold commandStart; (repeat' split) <;> simp
@[simp] theorem commandStart_verdicts : (commandStart s).verdicts = s.verdicts :=
  by unfold commandStart; (repeat' split) <;> simp
@[simp] theorem commandStart_schedule : (commandStart s).schedule = s.schedule :=
  by unfold commandStart; (repeat' split) <;> simp
@[simp] theorem commandStart_channels : (commandStart s).channels = s.channels :=
  by unfold commandStart; (repeat' split) <;> simp
@[simp] theorem commandStart_window : (commandStart s).window = s.window :=
  by unfold commandStart; (repeat' split) <;> simp
@[simp] theorem commandStart_pending : (commandStart s).pending = s.pending :=
  by unfold commandStart; (repeat' split) <;> simp
@[simp] theorem commandStart_freeCount : (commandStart s).freeCount = s.freeCount :=
  by unfold commandStart; (repeat' split) <;> simp

@[simp] theorem commandStop_motion : (commandStop s).motion = s.motion :=
  by unfold commandStop; (repeat' split) <;> simp
@[simp] theorem commandStop_det : (commandStop s).det = s.det := by unfold commandStop; (repeat' split) <;> simp
@[simp] theorem commandStop_table : (commandStop s).table = s.table := by unfold commandStop; (repeat' split) <;> simp
@[simp] theorem commandStop_verdicts : (commandStop s).verdicts = s.verdicts :=
  by unfold commandStop; (repeat' split) <;> simp
@[simp] theorem commandStop_epochUnit : (commandStop s).epochUnit = s.epochUnit :=
  by unfold commandStop; (repeat' split) <;> simp
@[simp] theorem commandStop_schedule : (commandStop s).schedule = s.schedule :=
  by unfold commandStop; (repeat' split) <;> simp
@[simp] theorem commandStop_channels : (commandStop s).channels = s.channels :=
  by unfold commandStop; (repeat' split) <;> simp
@[simp] theorem commandStop_queue : (commandStop s).queue = s.queue := by unfold commandStop; (repeat' split) <;> simp
@[simp] theorem commandStop_window : (commandStop s).window = s.window :=
  by unfold commandStop; (repeat' split) <;> simp
@[simp] theorem commandStop_pending : (commandStop s).pending = s.pending :=
  by unfold commandStop; (repeat' split) <;> simp
@[simp] theorem commandStop_freeCount : (commandStop s).freeCount = s.freeCount :=
  by unfold commandStop; (repeat' split) <;> simp

@[simp] theorem takeBack_motion (n : Channel) : (takeBack s n).motion = s.motion :=
  by unfold takeBack; (repeat' split) <;> simp
@[simp] theorem takeBack_det (n : Channel) : (takeBack s n).det = s.det := by unfold takeBack; (repeat' split) <;> simp
@[simp] theorem takeBack_detectors (n : Channel) : (takeBack s n).detectors = s.detectors :=
  by unfold takeBack; (repeat' split) <;> simp
@[simp] theorem takeBack_verdicts (n : Channel) : (takeBack s n).verdicts = s.verdicts :=
  by unfold takeBack; (repeat' split) <;> simp
@[simp] theorem takeBack_epochUnit (n : Channel) : (takeBack s n).epochUnit = s.epochUnit :=
  by unfold takeBack; (repeat' split) <;> simp
@[simp] theorem takeBack_engine (n : Channel) : (takeBack s n).engine = s.engine :=
  by unfold takeBack; (repeat' split) <;> simp
@[simp] theorem takeBack_window (n : Channel) : (takeBack s n).window = s.window :=
  by unfold takeBack; (repeat' split) <;> simp
@[simp] theorem takeBack_pending (n : Channel) : (takeBack s n).pending = s.pending :=
  by unfold takeBack; (repeat' split) <;> simp
@[simp] theorem takeBack_freeCount (n : Channel) : (takeBack s n).freeCount = s.freeCount :=
  by unfold takeBack; (repeat' split) <;> simp

@[simp] theorem resumeRun_det (first : List Lane) : (resumeRun first s).det = s.det := by
  unfold resumeRun; dsimp only
  rw [completeDrain_det, foldl_field (fun s : State => s.det) takeBack (fun s n => takeBack_det s n),
    foldl_field (fun s : State => s.det) resample (fun s l => resample_det s l)]
@[simp] theorem resumeRun_verdicts (first : List Lane) : (resumeRun first s).verdicts = s.verdicts := by
  unfold resumeRun; dsimp only
  rw [completeDrain_verdicts, foldl_field (fun s : State => s.verdicts) takeBack (fun s n => takeBack_verdicts s n),
    foldl_field (fun s : State => s.verdicts) resample (fun s l => resample_verdicts s l)]
@[simp] theorem resumeRun_epochUnit (first : List Lane) : (resumeRun first s).epochUnit = s.epochUnit := by
  unfold resumeRun; dsimp only
  rw [completeDrain_epochUnit, foldl_field (fun s : State => s.epochUnit) takeBack (fun s n => takeBack_epochUnit s n),
    foldl_field (fun s : State => s.epochUnit) resample (fun s l => resample_epochUnit s l)]
@[simp] theorem resumeRun_window (first : List Lane) : (resumeRun first s).window = s.window := by
  unfold resumeRun; dsimp only
  rw [completeDrain_window, foldl_field (fun s : State => s.window) takeBack (fun s n => takeBack_window s n),
    foldl_field (fun s : State => s.window) resample (fun s l => resample_window s l)]
@[simp] theorem resumeRun_pending (first : List Lane) : (resumeRun first s).pending = s.pending := by
  unfold resumeRun; dsimp only
  rw [completeDrain_pending, foldl_field (fun s : State => s.pending) takeBack (fun s n => takeBack_pending s n),
    foldl_field (fun s : State => s.pending) resample (fun s l => resample_pending s l)]
@[simp] theorem resumeRun_freeCount (first : List Lane) : (resumeRun first s).freeCount = s.freeCount := by
  unfold resumeRun; dsimp only
  rw [completeDrain_freeCount, foldl_field (fun s : State => s.freeCount) takeBack (fun s n => takeBack_freeCount s n),
    foldl_field (fun s : State => s.freeCount) resample (fun s l => resample_freeCount s l)]

@[simp] theorem commandResume_det (first : List Lane) : (commandResume first s).det = s.det :=
  by unfold commandResume; (repeat' split) <;> simp
@[simp] theorem commandResume_verdicts (first : List Lane) : (commandResume first s).verdicts = s.verdicts :=
  by unfold commandResume; (repeat' split) <;> simp
@[simp] theorem commandResume_epochUnit (first : List Lane) : (commandResume first s).epochUnit = s.epochUnit :=
  by unfold commandResume; (repeat' split) <;> simp
@[simp] theorem commandResume_window (first : List Lane) : (commandResume first s).window = s.window :=
  by unfold commandResume; (repeat' split) <;> simp
@[simp] theorem commandResume_pending (first : List Lane) : (commandResume first s).pending = s.pending :=
  by unfold commandResume; (repeat' split) <;> simp
@[simp] theorem commandResume_freeCount (first : List Lane) : (commandResume first s).freeCount = s.freeCount :=
  by unfold commandResume; (repeat' split) <;> simp

@[simp] theorem flushLine_motion : (flushLine s).motion = s.motion := by simp [flushLine]
@[simp] theorem flushLine_det : (flushLine s).det = s.det := by simp [flushLine]
@[simp] theorem flushLine_verdicts : (flushLine s).verdicts = s.verdicts := by simp [flushLine]
@[simp] theorem flushLine_epochUnit : (flushLine s).epochUnit = s.epochUnit := by simp [flushLine]
@[simp] theorem flushLine_window : (flushLine s).window = s.window := by simp [flushLine]
@[simp] theorem flushLine_pending : (flushLine s).pending = s.pending := by simp [flushLine]
@[simp] theorem flushLine_freeCount : (flushLine s).freeCount = s.freeCount := by simp [flushLine]

@[simp] theorem commandFlush_motion : (commandFlush s).motion = s.motion :=
  by unfold commandFlush; (repeat' split) <;> simp
@[simp] theorem commandFlush_det : (commandFlush s).det = s.det := by unfold commandFlush; (repeat' split) <;> simp
@[simp] theorem commandFlush_verdicts : (commandFlush s).verdicts = s.verdicts :=
  by unfold commandFlush; (repeat' split) <;> simp
@[simp] theorem commandFlush_epochUnit : (commandFlush s).epochUnit = s.epochUnit :=
  by unfold commandFlush; (repeat' split) <;> simp
@[simp] theorem commandFlush_window : (commandFlush s).window = s.window :=
  by unfold commandFlush; (repeat' split) <;> simp
@[simp] theorem commandFlush_pending : (commandFlush s).pending = s.pending :=
  by unfold commandFlush; (repeat' split) <;> simp
@[simp] theorem commandFlush_freeCount : (commandFlush s).freeCount = s.freeCount :=
  by unfold commandFlush; (repeat' split) <;> simp

@[simp] theorem commandCommit_motion : (commandCommit s).motion = s.motion :=
  by unfold commandCommit; (repeat' split) <;> simp
@[simp] theorem commandCommit_det : (commandCommit s).det = s.det := by unfold commandCommit; (repeat' split) <;> simp
@[simp] theorem commandCommit_detectors : (commandCommit s).detectors = s.detectors :=
  by unfold commandCommit; (repeat' split) <;> simp
@[simp] theorem commandCommit_table : (commandCommit s).table = s.table :=
  by unfold commandCommit; (repeat' split) <;> simp
@[simp] theorem commandCommit_verdicts : (commandCommit s).verdicts = s.verdicts :=
  by unfold commandCommit; (repeat' split) <;> simp
@[simp] theorem commandCommit_schedule : (commandCommit s).schedule = s.schedule :=
  by unfold commandCommit; (repeat' split) <;> simp
@[simp] theorem commandCommit_channels : (commandCommit s).channels = s.channels :=
  by unfold commandCommit; (repeat' split) <;> simp
@[simp] theorem commandCommit_window : (commandCommit s).window = s.window :=
  by unfold commandCommit; (repeat' split) <;> simp
@[simp] theorem commandCommit_pending : (commandCommit s).pending = s.pending :=
  by unfold commandCommit; (repeat' split) <;> simp
@[simp] theorem commandCommit_freeCount : (commandCommit s).freeCount = s.freeCount :=
  by unfold commandCommit; (repeat' split) <;> simp

@[simp] theorem commandReset_det : (commandReset s).det = s.det := rfl
@[simp] theorem commandReset_window : (commandReset s).window = s.window := rfl
@[simp] theorem commandReset_pending : (commandReset s).pending = s.pending := rfl
@[simp] theorem commandReset_freeCount : (commandReset s).freeCount = s.freeCount := rfl

@[simp] theorem commandPop_motion : (commandPop s).motion = s.motion := by unfold commandPop; (repeat' split) <;> simp
@[simp] theorem commandPop_det : (commandPop s).det = s.det := by unfold commandPop; (repeat' split) <;> simp
@[simp] theorem commandPop_detectors : (commandPop s).detectors = s.detectors :=
  by unfold commandPop; (repeat' split) <;> simp
@[simp] theorem commandPop_verdicts : (commandPop s).verdicts = s.verdicts :=
  by unfold commandPop; (repeat' split) <;> simp
@[simp] theorem commandPop_epochUnit : (commandPop s).epochUnit = s.epochUnit :=
  by unfold commandPop; (repeat' split) <;> simp
@[simp] theorem commandPop_schedule : (commandPop s).schedule = s.schedule :=
  by unfold commandPop; (repeat' split) <;> simp
@[simp] theorem commandPop_channels : (commandPop s).channels = s.channels :=
  by unfold commandPop; (repeat' split) <;> simp
@[simp] theorem commandPop_window : (commandPop s).window = s.window := by unfold commandPop; (repeat' split) <;> simp
@[simp] theorem commandPop_pending : (commandPop s).pending = s.pending :=
  by unfold commandPop; (repeat' split) <;> simp
@[simp] theorem commandPop_freeCount : (commandPop s).freeCount = s.freeCount :=
  by unfold commandPop; (repeat' split) <;> simp

/-! ### The register window -/

@[simp] theorem pushVerdict_motion : (pushVerdict s).motion = s.motion :=
  by unfold pushVerdict; (repeat' split) <;> simp
@[simp] theorem pushVerdict_det : (pushVerdict s).det = s.det := by unfold pushVerdict; (repeat' split) <;> simp
@[simp] theorem pushVerdict_detectors : (pushVerdict s).detectors = s.detectors :=
  by unfold pushVerdict; (repeat' split) <;> simp
@[simp] theorem pushVerdict_table : (pushVerdict s).table = s.table := by unfold pushVerdict; (repeat' split) <;> simp
@[simp] theorem pushVerdict_epochUnit : (pushVerdict s).epochUnit = s.epochUnit :=
  by unfold pushVerdict; (repeat' split) <;> simp
@[simp] theorem pushVerdict_schedule : (pushVerdict s).schedule = s.schedule :=
  by unfold pushVerdict; (repeat' split) <;> simp
@[simp] theorem pushVerdict_channels : (pushVerdict s).channels = s.channels :=
  by unfold pushVerdict; (repeat' split) <;> simp
@[simp] theorem pushVerdict_engine : (pushVerdict s).engine = s.engine :=
  by unfold pushVerdict; (repeat' split) <;> simp
@[simp] theorem pushVerdict_queue : (pushVerdict s).queue = s.queue := by unfold pushVerdict; (repeat' split) <;> simp
@[simp] theorem pushVerdict_window : (pushVerdict s).window = s.window :=
  by unfold pushVerdict; (repeat' split) <;> simp
@[simp] theorem pushVerdict_pending : (pushVerdict s).pending = s.pending :=
  by unfold pushVerdict; (repeat' split) <;> simp
@[simp] theorem pushVerdict_freeCount : (pushVerdict s).freeCount = s.freeCount :=
  by unfold pushVerdict; (repeat' split) <;> simp

@[simp] theorem writeClass_motion (v : Byte) : (writeClass v s).motion = s.motion :=
  by unfold writeClass; (repeat' split) <;> simp
@[simp] theorem writeClass_det (v : Byte) : (writeClass v s).det = s.det :=
  by unfold writeClass; (repeat' split) <;> simp
@[simp] theorem writeClass_detectors (v : Byte) : (writeClass v s).detectors = s.detectors :=
  by unfold writeClass; (repeat' split) <;> simp
@[simp] theorem writeClass_table (v : Byte) : (writeClass v s).table = s.table :=
  by unfold writeClass; (repeat' split) <;> simp
@[simp] theorem writeClass_epochUnit (v : Byte) : (writeClass v s).epochUnit = s.epochUnit :=
  by unfold writeClass; (repeat' split) <;> simp
@[simp] theorem writeClass_schedule (v : Byte) : (writeClass v s).schedule = s.schedule :=
  by unfold writeClass; (repeat' split) <;> simp
@[simp] theorem writeClass_channels (v : Byte) : (writeClass v s).channels = s.channels :=
  by unfold writeClass; (repeat' split) <;> simp
@[simp] theorem writeClass_engine (v : Byte) : (writeClass v s).engine = s.engine :=
  by unfold writeClass; (repeat' split) <;> simp
@[simp] theorem writeClass_queue (v : Byte) : (writeClass v s).queue = s.queue :=
  by unfold writeClass; (repeat' split) <;> simp
@[simp] theorem writeClass_pending (v : Byte) : (writeClass v s).pending = s.pending :=
  by unfold writeClass; (repeat' split) <;> simp
@[simp] theorem writeClass_freeCount (v : Byte) : (writeClass v s).freeCount = s.freeCount :=
  by unfold writeClass; (repeat' split) <;> simp

@[simp] theorem writeStaged_motion (a : Addr) (v : Byte) : (writeStaged a v s).motion = s.motion :=
  by unfold writeStaged; (repeat' split) <;> simp
@[simp] theorem writeStaged_det (a : Addr) (v : Byte) : (writeStaged a v s).det = s.det :=
  by unfold writeStaged; (repeat' split) <;> simp
@[simp] theorem writeStaged_detectors (a : Addr) (v : Byte) : (writeStaged a v s).detectors = s.detectors :=
  by unfold writeStaged; (repeat' split) <;> simp
@[simp] theorem writeStaged_table (a : Addr) (v : Byte) : (writeStaged a v s).table = s.table :=
  by unfold writeStaged; (repeat' split) <;> simp
@[simp] theorem writeStaged_verdicts (a : Addr) (v : Byte) : (writeStaged a v s).verdicts = s.verdicts :=
  by unfold writeStaged; (repeat' split) <;> simp
@[simp] theorem writeStaged_schedule (a : Addr) (v : Byte) : (writeStaged a v s).schedule = s.schedule :=
  by unfold writeStaged; (repeat' split) <;> simp
@[simp] theorem writeStaged_channels (a : Addr) (v : Byte) : (writeStaged a v s).channels = s.channels :=
  by unfold writeStaged; (repeat' split) <;> simp
@[simp] theorem writeStaged_engine (a : Addr) (v : Byte) : (writeStaged a v s).engine = s.engine :=
  by unfold writeStaged; (repeat' split) <;> simp
@[simp] theorem writeStaged_queue (a : Addr) (v : Byte) : (writeStaged a v s).queue = s.queue :=
  by unfold writeStaged; (repeat' split) <;> simp
@[simp] theorem writeStaged_pending (a : Addr) (v : Byte) : (writeStaged a v s).pending = s.pending :=
  by unfold writeStaged; (repeat' split) <;> simp
@[simp] theorem writeStaged_freeCount (a : Addr) (v : Byte) : (writeStaged a v s).freeCount = s.freeCount :=
  by unfold writeStaged; (repeat' split) <;> simp

@[simp] theorem writeHold_motion (v : Byte) : (writeHold v s).motion = s.motion :=
  by unfold writeHold; (repeat' split) <;> simp
@[simp] theorem writeHold_det (v : Byte) : (writeHold v s).det = s.det := by unfold writeHold; (repeat' split) <;> simp
@[simp] theorem writeHold_detectors (v : Byte) : (writeHold v s).detectors = s.detectors :=
  by unfold writeHold; (repeat' split) <;> simp
@[simp] theorem writeHold_table (v : Byte) : (writeHold v s).table = s.table :=
  by unfold writeHold; (repeat' split) <;> simp
@[simp] theorem writeHold_verdicts (v : Byte) : (writeHold v s).verdicts = s.verdicts :=
  by unfold writeHold; (repeat' split) <;> simp
@[simp] theorem writeHold_schedule (v : Byte) : (writeHold v s).schedule = s.schedule :=
  by unfold writeHold; (repeat' split) <;> simp
@[simp] theorem writeHold_channels (v : Byte) : (writeHold v s).channels = s.channels :=
  by unfold writeHold; (repeat' split) <;> simp
@[simp] theorem writeHold_engine (v : Byte) : (writeHold v s).engine = s.engine :=
  by unfold writeHold; (repeat' split) <;> simp
@[simp] theorem writeHold_queue (v : Byte) : (writeHold v s).queue = s.queue :=
  by unfold writeHold; (repeat' split) <;> simp
@[simp] theorem writeHold_pending (v : Byte) : (writeHold v s).pending = s.pending :=
  by unfold writeHold; (repeat' split) <;> simp
@[simp] theorem writeHold_freeCount (v : Byte) : (writeHold v s).freeCount = s.freeCount :=
  by unfold writeHold; (repeat' split) <;> simp

@[simp] theorem writeView_motion (v : Byte) : (writeView v s).motion = s.motion :=
  by unfold writeView; (repeat' split) <;> simp
@[simp] theorem writeView_det (v : Byte) : (writeView v s).det = s.det := by unfold writeView; (repeat' split) <;> simp
@[simp] theorem writeView_detectors (v : Byte) : (writeView v s).detectors = s.detectors :=
  by unfold writeView; (repeat' split) <;> simp
@[simp] theorem writeView_table (v : Byte) : (writeView v s).table = s.table :=
  by unfold writeView; (repeat' split) <;> simp
@[simp] theorem writeView_verdicts (v : Byte) : (writeView v s).verdicts = s.verdicts :=
  by unfold writeView; (repeat' split) <;> simp
@[simp] theorem writeView_schedule (v : Byte) : (writeView v s).schedule = s.schedule :=
  by unfold writeView; (repeat' split) <;> simp
@[simp] theorem writeView_channels (v : Byte) : (writeView v s).channels = s.channels :=
  by unfold writeView; (repeat' split) <;> simp
@[simp] theorem writeView_engine (v : Byte) : (writeView v s).engine = s.engine :=
  by unfold writeView; (repeat' split) <;> simp
@[simp] theorem writeView_queue (v : Byte) : (writeView v s).queue = s.queue :=
  by unfold writeView; (repeat' split) <;> simp
@[simp] theorem writeView_pending (v : Byte) : (writeView v s).pending = s.pending :=
  by unfold writeView; (repeat' split) <;> simp
@[simp] theorem writeView_freeCount (v : Byte) : (writeView v s).freeCount = s.freeCount :=
  by unfold writeView; (repeat' split) <;> simp

@[simp] theorem writeThreshold_motion (v : Byte) : (writeThreshold v s).motion = s.motion :=
  by unfold writeThreshold; (repeat' split) <;> simp
@[simp] theorem writeThreshold_det (v : Byte) : (writeThreshold v s).det = s.det :=
  by unfold writeThreshold; (repeat' split) <;> simp
@[simp] theorem writeThreshold_detectors (v : Byte) : (writeThreshold v s).detectors = s.detectors :=
  by unfold writeThreshold; (repeat' split) <;> simp
@[simp] theorem writeThreshold_table (v : Byte) : (writeThreshold v s).table = s.table :=
  by unfold writeThreshold; (repeat' split) <;> simp
@[simp] theorem writeThreshold_verdicts (v : Byte) : (writeThreshold v s).verdicts = s.verdicts :=
  by unfold writeThreshold; (repeat' split) <;> simp
@[simp] theorem writeThreshold_epochUnit (v : Byte) : (writeThreshold v s).epochUnit = s.epochUnit :=
  by unfold writeThreshold; (repeat' split) <;> simp
@[simp] theorem writeThreshold_schedule (v : Byte) : (writeThreshold v s).schedule = s.schedule :=
  by unfold writeThreshold; (repeat' split) <;> simp
@[simp] theorem writeThreshold_channels (v : Byte) : (writeThreshold v s).channels = s.channels :=
  by unfold writeThreshold; (repeat' split) <;> simp
@[simp] theorem writeThreshold_engine (v : Byte) : (writeThreshold v s).engine = s.engine :=
  by unfold writeThreshold; (repeat' split) <;> simp
@[simp] theorem writeThreshold_pending (v : Byte) : (writeThreshold v s).pending = s.pending :=
  by unfold writeThreshold; (repeat' split) <;> simp
@[simp] theorem writeThreshold_freeCount (v : Byte) : (writeThreshold v s).freeCount = s.freeCount :=
  by unfold writeThreshold; (repeat' split) <;> simp

@[simp] theorem writeInspection_motion (v : Byte) : (writeInspection v s).motion = s.motion := rfl
@[simp] theorem writeInspection_det (v : Byte) : (writeInspection v s).det = s.det := rfl
@[simp] theorem writeInspection_detectors (v : Byte) : (writeInspection v s).detectors = s.detectors := rfl
@[simp] theorem writeInspection_verdicts (v : Byte) : (writeInspection v s).verdicts = s.verdicts := rfl
@[simp] theorem writeInspection_epochUnit (v : Byte) : (writeInspection v s).epochUnit = s.epochUnit := rfl
@[simp] theorem writeInspection_schedule (v : Byte) : (writeInspection v s).schedule = s.schedule := rfl
@[simp] theorem writeInspection_channels (v : Byte) : (writeInspection v s).channels = s.channels := rfl
@[simp] theorem writeInspection_engine (v : Byte) : (writeInspection v s).engine = s.engine := rfl
@[simp] theorem writeInspection_queue (v : Byte) : (writeInspection v s).queue = s.queue := rfl
@[simp] theorem writeInspection_interrupts (v : Byte) : (writeInspection v s).interrupts = s.interrupts := rfl
@[simp] theorem writeInspection_window (v : Byte) : (writeInspection v s).window = s.window := rfl
@[simp] theorem writeInspection_pending (v : Byte) : (writeInspection v s).pending = s.pending := rfl
@[simp] theorem writeInspection_freeCount (v : Byte) : (writeInspection v s).freeCount = s.freeCount := rfl

@[simp] theorem writeLaneMask_motion (v : Byte) : (writeLaneMask v s).motion = s.motion :=
  by unfold writeLaneMask stoppedOnly; split <;> simp
@[simp] theorem writeLaneMask_det (v : Byte) : (writeLaneMask v s).det = s.det :=
  by unfold writeLaneMask stoppedOnly; split <;> simp
@[simp] theorem writeLaneMask_table (v : Byte) : (writeLaneMask v s).table = s.table :=
  by unfold writeLaneMask stoppedOnly; split <;> simp
@[simp] theorem writeLaneMask_verdicts (v : Byte) : (writeLaneMask v s).verdicts = s.verdicts :=
  by unfold writeLaneMask stoppedOnly; split <;> simp
@[simp] theorem writeLaneMask_epochUnit (v : Byte) : (writeLaneMask v s).epochUnit = s.epochUnit :=
  by unfold writeLaneMask stoppedOnly; split <;> simp
@[simp] theorem writeLaneMask_schedule (v : Byte) : (writeLaneMask v s).schedule = s.schedule :=
  by unfold writeLaneMask stoppedOnly; split <;> simp
@[simp] theorem writeLaneMask_channels (v : Byte) : (writeLaneMask v s).channels = s.channels :=
  by unfold writeLaneMask stoppedOnly; split <;> simp
@[simp] theorem writeLaneMask_engine (v : Byte) : (writeLaneMask v s).engine = s.engine :=
  by unfold writeLaneMask stoppedOnly; split <;> simp
@[simp] theorem writeLaneMask_queue (v : Byte) : (writeLaneMask v s).queue = s.queue :=
  by unfold writeLaneMask stoppedOnly; split <;> simp
@[simp] theorem writeLaneMask_pending (v : Byte) : (writeLaneMask v s).pending = s.pending :=
  by unfold writeLaneMask stoppedOnly; split <;> simp
@[simp] theorem writeLaneMask_freeCount (v : Byte) : (writeLaneMask v s).freeCount = s.freeCount :=
  by unfold writeLaneMask stoppedOnly; split <;> simp

@[simp] theorem writeConfig_motion (n : Channel) (which : ConfigByte) (v : Byte) : (writeConfig n which v s).motion = s.motion :=
  by unfold writeConfig stoppedOnly; dsimp only; (repeat' split) <;> simp
@[simp] theorem writeConfig_det (n : Channel) (which : ConfigByte) (v : Byte) : (writeConfig n which v s).det = s.det :=
  by unfold writeConfig stoppedOnly; dsimp only; (repeat' split) <;> simp
@[simp] theorem writeConfig_detectors (n : Channel) (which : ConfigByte) (v : Byte) : (writeConfig n which v s).detectors = s.detectors :=
  by unfold writeConfig stoppedOnly; dsimp only; (repeat' split) <;> simp
@[simp] theorem writeConfig_table (n : Channel) (which : ConfigByte) (v : Byte) : (writeConfig n which v s).table = s.table :=
  by unfold writeConfig stoppedOnly; dsimp only; (repeat' split) <;> simp
@[simp] theorem writeConfig_verdicts (n : Channel) (which : ConfigByte) (v : Byte) : (writeConfig n which v s).verdicts = s.verdicts :=
  by unfold writeConfig stoppedOnly; dsimp only; (repeat' split) <;> simp
@[simp] theorem writeConfig_epochUnit (n : Channel) (which : ConfigByte) (v : Byte) : (writeConfig n which v s).epochUnit = s.epochUnit :=
  by unfold writeConfig stoppedOnly; dsimp only; (repeat' split) <;> simp
@[simp] theorem writeConfig_schedule (n : Channel) (which : ConfigByte) (v : Byte) : (writeConfig n which v s).schedule = s.schedule :=
  by unfold writeConfig stoppedOnly; dsimp only; (repeat' split) <;> simp
@[simp] theorem writeConfig_engine (n : Channel) (which : ConfigByte) (v : Byte) : (writeConfig n which v s).engine = s.engine :=
  by unfold writeConfig stoppedOnly; dsimp only; (repeat' split) <;> simp
@[simp] theorem writeConfig_queue (n : Channel) (which : ConfigByte) (v : Byte) : (writeConfig n which v s).queue = s.queue :=
  by unfold writeConfig stoppedOnly; dsimp only; (repeat' split) <;> simp
@[simp] theorem writeConfig_pending (n : Channel) (which : ConfigByte) (v : Byte) : (writeConfig n which v s).pending = s.pending :=
  by unfold writeConfig stoppedOnly; dsimp only; (repeat' split) <;> simp
@[simp] theorem writeConfig_freeCount (n : Channel) (which : ConfigByte) (v : Byte) : (writeConfig n which v s).freeCount = s.freeCount :=
  by unfold writeConfig stoppedOnly; dsimp only; (repeat' split) <;> simp

@[simp] theorem writeDecodeMode_det (v : Byte) : (writeDecodeMode v s).det = s.det :=
  by unfold writeDecodeMode stoppedOnly; (repeat' split) <;> simp
@[simp] theorem writeDecodeMode_detectors (v : Byte) : (writeDecodeMode v s).detectors = s.detectors :=
  by unfold writeDecodeMode stoppedOnly; (repeat' split) <;> simp
@[simp] theorem writeDecodeMode_table (v : Byte) : (writeDecodeMode v s).table = s.table :=
  by unfold writeDecodeMode stoppedOnly; (repeat' split) <;> simp
@[simp] theorem writeDecodeMode_verdicts (v : Byte) : (writeDecodeMode v s).verdicts = s.verdicts :=
  by unfold writeDecodeMode stoppedOnly; (repeat' split) <;> simp
@[simp] theorem writeDecodeMode_epochUnit (v : Byte) : (writeDecodeMode v s).epochUnit = s.epochUnit :=
  by unfold writeDecodeMode stoppedOnly; (repeat' split) <;> simp
@[simp] theorem writeDecodeMode_schedule (v : Byte) : (writeDecodeMode v s).schedule = s.schedule :=
  by unfold writeDecodeMode stoppedOnly; (repeat' split) <;> simp
@[simp] theorem writeDecodeMode_channels (v : Byte) : (writeDecodeMode v s).channels = s.channels :=
  by unfold writeDecodeMode stoppedOnly; (repeat' split) <;> simp
@[simp] theorem writeDecodeMode_engine (v : Byte) : (writeDecodeMode v s).engine = s.engine :=
  by unfold writeDecodeMode stoppedOnly; (repeat' split) <;> simp
@[simp] theorem writeDecodeMode_queue (v : Byte) : (writeDecodeMode v s).queue = s.queue :=
  by unfold writeDecodeMode stoppedOnly; (repeat' split) <;> simp
@[simp] theorem writeDecodeMode_pending (v : Byte) : (writeDecodeMode v s).pending = s.pending :=
  by unfold writeDecodeMode stoppedOnly; (repeat' split) <;> simp
@[simp] theorem writeDecodeMode_freeCount (v : Byte) : (writeDecodeMode v s).freeCount = s.freeCount :=
  by unfold writeDecodeMode stoppedOnly; (repeat' split) <;> simp

@[simp] theorem writeInvert_det (v : Byte) : (writeInvert v s).det = s.det :=
  by unfold writeInvert stoppedOnly; split <;> simp
@[simp] theorem writeInvert_detectors (v : Byte) : (writeInvert v s).detectors = s.detectors :=
  by unfold writeInvert stoppedOnly; split <;> simp
@[simp] theorem writeInvert_table (v : Byte) : (writeInvert v s).table = s.table :=
  by unfold writeInvert stoppedOnly; split <;> simp
@[simp] theorem writeInvert_verdicts (v : Byte) : (writeInvert v s).verdicts = s.verdicts :=
  by unfold writeInvert stoppedOnly; split <;> simp
@[simp] theorem writeInvert_epochUnit (v : Byte) : (writeInvert v s).epochUnit = s.epochUnit :=
  by unfold writeInvert stoppedOnly; split <;> simp
@[simp] theorem writeInvert_schedule (v : Byte) : (writeInvert v s).schedule = s.schedule :=
  by unfold writeInvert stoppedOnly; split <;> simp
@[simp] theorem writeInvert_channels (v : Byte) : (writeInvert v s).channels = s.channels :=
  by unfold writeInvert stoppedOnly; split <;> simp
@[simp] theorem writeInvert_engine (v : Byte) : (writeInvert v s).engine = s.engine :=
  by unfold writeInvert stoppedOnly; split <;> simp
@[simp] theorem writeInvert_queue (v : Byte) : (writeInvert v s).queue = s.queue :=
  by unfold writeInvert stoppedOnly; split <;> simp
@[simp] theorem writeInvert_pending (v : Byte) : (writeInvert v s).pending = s.pending :=
  by unfold writeInvert stoppedOnly; split <;> simp
@[simp] theorem writeInvert_freeCount (v : Byte) : (writeInvert v s).freeCount = s.freeCount :=
  by unfold writeInvert stoppedOnly; split <;> simp

@[simp] theorem writeBacklash_det (v : Byte) : (writeBacklash v s).det = s.det :=
  by unfold writeBacklash stoppedOnly; split <;> simp
@[simp] theorem writeBacklash_detectors (v : Byte) : (writeBacklash v s).detectors = s.detectors :=
  by unfold writeBacklash stoppedOnly; split <;> simp
@[simp] theorem writeBacklash_table (v : Byte) : (writeBacklash v s).table = s.table :=
  by unfold writeBacklash stoppedOnly; split <;> simp
@[simp] theorem writeBacklash_verdicts (v : Byte) : (writeBacklash v s).verdicts = s.verdicts :=
  by unfold writeBacklash stoppedOnly; split <;> simp
@[simp] theorem writeBacklash_epochUnit (v : Byte) : (writeBacklash v s).epochUnit = s.epochUnit :=
  by unfold writeBacklash stoppedOnly; split <;> simp
@[simp] theorem writeBacklash_schedule (v : Byte) : (writeBacklash v s).schedule = s.schedule :=
  by unfold writeBacklash stoppedOnly; split <;> simp
@[simp] theorem writeBacklash_channels (v : Byte) : (writeBacklash v s).channels = s.channels :=
  by unfold writeBacklash stoppedOnly; split <;> simp
@[simp] theorem writeBacklash_engine (v : Byte) : (writeBacklash v s).engine = s.engine :=
  by unfold writeBacklash stoppedOnly; split <;> simp
@[simp] theorem writeBacklash_queue (v : Byte) : (writeBacklash v s).queue = s.queue :=
  by unfold writeBacklash stoppedOnly; split <;> simp
@[simp] theorem writeBacklash_pending (v : Byte) : (writeBacklash v s).pending = s.pending :=
  by unfold writeBacklash stoppedOnly; split <;> simp
@[simp] theorem writeBacklash_freeCount (v : Byte) : (writeBacklash v s).freeCount = s.freeCount :=
  by unfold writeBacklash stoppedOnly; split <;> simp

@[simp] theorem writePhaseLimit_det (v : Byte) : (writePhaseLimit v s).det = s.det :=
  by unfold writePhaseLimit stoppedOnly; (repeat' split) <;> simp
@[simp] theorem writePhaseLimit_detectors (v : Byte) : (writePhaseLimit v s).detectors = s.detectors :=
  by unfold writePhaseLimit stoppedOnly; (repeat' split) <;> simp
@[simp] theorem writePhaseLimit_table (v : Byte) : (writePhaseLimit v s).table = s.table :=
  by unfold writePhaseLimit stoppedOnly; (repeat' split) <;> simp
@[simp] theorem writePhaseLimit_verdicts (v : Byte) : (writePhaseLimit v s).verdicts = s.verdicts :=
  by unfold writePhaseLimit stoppedOnly; (repeat' split) <;> simp
@[simp] theorem writePhaseLimit_epochUnit (v : Byte) : (writePhaseLimit v s).epochUnit = s.epochUnit :=
  by unfold writePhaseLimit stoppedOnly; (repeat' split) <;> simp
@[simp] theorem writePhaseLimit_schedule (v : Byte) : (writePhaseLimit v s).schedule = s.schedule :=
  by unfold writePhaseLimit stoppedOnly; (repeat' split) <;> simp
@[simp] theorem writePhaseLimit_channels (v : Byte) : (writePhaseLimit v s).channels = s.channels :=
  by unfold writePhaseLimit stoppedOnly; (repeat' split) <;> simp
@[simp] theorem writePhaseLimit_engine (v : Byte) : (writePhaseLimit v s).engine = s.engine :=
  by unfold writePhaseLimit stoppedOnly; (repeat' split) <;> simp
@[simp] theorem writePhaseLimit_queue (v : Byte) : (writePhaseLimit v s).queue = s.queue :=
  by unfold writePhaseLimit stoppedOnly; (repeat' split) <;> simp
@[simp] theorem writePhaseLimit_pending (v : Byte) : (writePhaseLimit v s).pending = s.pending :=
  by unfold writePhaseLimit stoppedOnly; (repeat' split) <;> simp
@[simp] theorem writePhaseLimit_freeCount (v : Byte) : (writePhaseLimit v s).freeCount = s.freeCount :=
  by unfold writePhaseLimit stoppedOnly; (repeat' split) <;> simp

@[simp] theorem takeSnapshot_motion (t : Target) : (takeSnapshot t s).motion = s.motion :=
  by unfold takeSnapshot; (repeat' split) <;> simp
@[simp] theorem takeSnapshot_det (t : Target) : (takeSnapshot t s).det = s.det :=
  by unfold takeSnapshot; (repeat' split) <;> simp
@[simp] theorem takeSnapshot_detectors (t : Target) : (takeSnapshot t s).detectors = s.detectors :=
  by unfold takeSnapshot; (repeat' split) <;> simp
@[simp] theorem takeSnapshot_table (t : Target) : (takeSnapshot t s).table = s.table :=
  by unfold takeSnapshot; (repeat' split) <;> simp
@[simp] theorem takeSnapshot_verdicts (t : Target) : (takeSnapshot t s).verdicts = s.verdicts :=
  by unfold takeSnapshot; (repeat' split) <;> simp
@[simp] theorem takeSnapshot_epochUnit (t : Target) : (takeSnapshot t s).epochUnit = s.epochUnit :=
  by unfold takeSnapshot; (repeat' split) <;> simp
@[simp] theorem takeSnapshot_schedule (t : Target) : (takeSnapshot t s).schedule = s.schedule :=
  by unfold takeSnapshot; (repeat' split) <;> simp
@[simp] theorem takeSnapshot_channels (t : Target) : (takeSnapshot t s).channels = s.channels :=
  by unfold takeSnapshot; (repeat' split) <;> simp
@[simp] theorem takeSnapshot_engine (t : Target) : (takeSnapshot t s).engine = s.engine :=
  by unfold takeSnapshot; (repeat' split) <;> simp
@[simp] theorem takeSnapshot_queue (t : Target) : (takeSnapshot t s).queue = s.queue :=
  by unfold takeSnapshot; (repeat' split) <;> simp
@[simp] theorem takeSnapshot_interrupts (t : Target) : (takeSnapshot t s).interrupts = s.interrupts :=
  by unfold takeSnapshot; (repeat' split) <;> simp
@[simp] theorem takeSnapshot_pending (t : Target) : (takeSnapshot t s).pending = s.pending :=
  by unfold takeSnapshot; (repeat' split) <;> simp
@[simp] theorem takeSnapshot_freeCount (t : Target) : (takeSnapshot t s).freeCount = s.freeCount :=
  by unfold takeSnapshot; (repeat' split) <;> simp

@[simp] theorem readAddress_motion (a : Addr) : (readAddress a s).motion = s.motion := by simp [readAddress]
@[simp] theorem readAddress_det (a : Addr) : (readAddress a s).det = s.det := by simp [readAddress]
@[simp] theorem readAddress_detectors (a : Addr) : (readAddress a s).detectors = s.detectors := by simp [readAddress]
@[simp] theorem readAddress_table (a : Addr) : (readAddress a s).table = s.table := by simp [readAddress]
@[simp] theorem readAddress_verdicts (a : Addr) : (readAddress a s).verdicts = s.verdicts := by simp [readAddress]
@[simp] theorem readAddress_epochUnit (a : Addr) : (readAddress a s).epochUnit = s.epochUnit := by simp [readAddress]
@[simp] theorem readAddress_schedule (a : Addr) : (readAddress a s).schedule = s.schedule := by simp [readAddress]
@[simp] theorem readAddress_channels (a : Addr) : (readAddress a s).channels = s.channels := by simp [readAddress]
@[simp] theorem readAddress_engine (a : Addr) : (readAddress a s).engine = s.engine := by simp [readAddress]
@[simp] theorem readAddress_queue (a : Addr) : (readAddress a s).queue = s.queue := by simp [readAddress]
@[simp] theorem readAddress_interrupts (a : Addr) : (readAddress a s).interrupts = s.interrupts := by simp [readAddress]
@[simp] theorem readAddress_pending (a : Addr) : (readAddress a s).pending = s.pending := by simp [readAddress]
@[simp] theorem readAddress_freeCount (a : Addr) : (readAddress a s).freeCount = s.freeCount := by simp [readAddress]

@[simp] theorem beginFrame_motion : (beginFrame s).motion = s.motion := by unfold beginFrame; (repeat' split) <;> simp
@[simp] theorem beginFrame_det : (beginFrame s).det = s.det := by unfold beginFrame; (repeat' split) <;> simp
@[simp] theorem beginFrame_detectors : (beginFrame s).detectors = s.detectors :=
  by unfold beginFrame; (repeat' split) <;> simp
@[simp] theorem beginFrame_table : (beginFrame s).table = s.table := by unfold beginFrame; (repeat' split) <;> simp
@[simp] theorem beginFrame_verdicts : (beginFrame s).verdicts = s.verdicts :=
  by unfold beginFrame; (repeat' split) <;> simp
@[simp] theorem beginFrame_epochUnit : (beginFrame s).epochUnit = s.epochUnit :=
  by unfold beginFrame; (repeat' split) <;> simp
@[simp] theorem beginFrame_schedule : (beginFrame s).schedule = s.schedule :=
  by unfold beginFrame; (repeat' split) <;> simp
@[simp] theorem beginFrame_channels : (beginFrame s).channels = s.channels :=
  by unfold beginFrame; (repeat' split) <;> simp
@[simp] theorem beginFrame_engine : (beginFrame s).engine = s.engine := by unfold beginFrame; (repeat' split) <;> simp
@[simp] theorem beginFrame_queue : (beginFrame s).queue = s.queue := by unfold beginFrame; (repeat' split) <;> simp
@[simp] theorem beginFrame_interrupts : (beginFrame s).interrupts = s.interrupts :=
  by unfold beginFrame; (repeat' split) <;> simp
@[simp] theorem beginFrame_pending : (beginFrame s).pending = s.pending :=
  by unfold beginFrame; (repeat' split) <;> simp
@[simp] theorem beginFrame_freeCount : (beginFrame s).freeCount = s.freeCount :=
  by unfold beginFrame; (repeat' split) <;> simp

@[simp] theorem takeControl_motion (v : Byte) : (takeControl v s).motion = s.motion :=
  by unfold takeControl; (repeat' split) <;> simp
@[simp] theorem takeControl_det (v : Byte) : (takeControl v s).det = s.det :=
  by unfold takeControl; (repeat' split) <;> simp
@[simp] theorem takeControl_detectors (v : Byte) : (takeControl v s).detectors = s.detectors :=
  by unfold takeControl; (repeat' split) <;> simp
@[simp] theorem takeControl_table (v : Byte) : (takeControl v s).table = s.table :=
  by unfold takeControl; (repeat' split) <;> simp
@[simp] theorem takeControl_verdicts (v : Byte) : (takeControl v s).verdicts = s.verdicts :=
  by unfold takeControl; (repeat' split) <;> simp
@[simp] theorem takeControl_epochUnit (v : Byte) : (takeControl v s).epochUnit = s.epochUnit :=
  by unfold takeControl; (repeat' split) <;> simp
@[simp] theorem takeControl_schedule (v : Byte) : (takeControl v s).schedule = s.schedule :=
  by unfold takeControl; (repeat' split) <;> simp
@[simp] theorem takeControl_channels (v : Byte) : (takeControl v s).channels = s.channels :=
  by unfold takeControl; (repeat' split) <;> simp
@[simp] theorem takeControl_engine (v : Byte) : (takeControl v s).engine = s.engine :=
  by unfold takeControl; (repeat' split) <;> simp
@[simp] theorem takeControl_queue (v : Byte) : (takeControl v s).queue = s.queue :=
  by unfold takeControl; (repeat' split) <;> simp
@[simp] theorem takeControl_pending (v : Byte) : (takeControl v s).pending = s.pending :=
  by unfold takeControl; (repeat' split) <;> simp
@[simp] theorem takeControl_freeCount (v : Byte) : (takeControl v s).freeCount = s.freeCount :=
  by unfold takeControl; (repeat' split) <;> simp

@[simp] theorem takeAddress_motion (v : Byte) : (takeAddress v s).motion = s.motion :=
  by unfold takeAddress; (repeat' split) <;> simp
@[simp] theorem takeAddress_det (v : Byte) : (takeAddress v s).det = s.det :=
  by unfold takeAddress; (repeat' split) <;> simp
@[simp] theorem takeAddress_detectors (v : Byte) : (takeAddress v s).detectors = s.detectors :=
  by unfold takeAddress; (repeat' split) <;> simp
@[simp] theorem takeAddress_table (v : Byte) : (takeAddress v s).table = s.table :=
  by unfold takeAddress; (repeat' split) <;> simp
@[simp] theorem takeAddress_verdicts (v : Byte) : (takeAddress v s).verdicts = s.verdicts :=
  by unfold takeAddress; (repeat' split) <;> simp
@[simp] theorem takeAddress_epochUnit (v : Byte) : (takeAddress v s).epochUnit = s.epochUnit :=
  by unfold takeAddress; (repeat' split) <;> simp
@[simp] theorem takeAddress_schedule (v : Byte) : (takeAddress v s).schedule = s.schedule :=
  by unfold takeAddress; (repeat' split) <;> simp
@[simp] theorem takeAddress_channels (v : Byte) : (takeAddress v s).channels = s.channels :=
  by unfold takeAddress; (repeat' split) <;> simp
@[simp] theorem takeAddress_engine (v : Byte) : (takeAddress v s).engine = s.engine :=
  by unfold takeAddress; (repeat' split) <;> simp
@[simp] theorem takeAddress_queue (v : Byte) : (takeAddress v s).queue = s.queue :=
  by unfold takeAddress; (repeat' split) <;> simp
@[simp] theorem takeAddress_interrupts (v : Byte) : (takeAddress v s).interrupts = s.interrupts :=
  by unfold takeAddress; (repeat' split) <;> simp
@[simp] theorem takeAddress_pending (v : Byte) : (takeAddress v s).pending = s.pending :=
  by unfold takeAddress; (repeat' split) <;> simp
@[simp] theorem takeAddress_freeCount (v : Byte) : (takeAddress v s).freeCount = s.freeCount :=
  by unfold takeAddress; (repeat' split) <;> simp

@[simp] theorem stepAddress_motion : (stepAddress s).motion = s.motion :=
  by unfold stepAddress; (repeat' split) <;> simp
@[simp] theorem stepAddress_det : (stepAddress s).det = s.det := by unfold stepAddress; (repeat' split) <;> simp
@[simp] theorem stepAddress_detectors : (stepAddress s).detectors = s.detectors :=
  by unfold stepAddress; (repeat' split) <;> simp
@[simp] theorem stepAddress_table : (stepAddress s).table = s.table := by unfold stepAddress; (repeat' split) <;> simp
@[simp] theorem stepAddress_verdicts : (stepAddress s).verdicts = s.verdicts :=
  by unfold stepAddress; (repeat' split) <;> simp
@[simp] theorem stepAddress_epochUnit : (stepAddress s).epochUnit = s.epochUnit :=
  by unfold stepAddress; (repeat' split) <;> simp
@[simp] theorem stepAddress_schedule : (stepAddress s).schedule = s.schedule :=
  by unfold stepAddress; (repeat' split) <;> simp
@[simp] theorem stepAddress_channels : (stepAddress s).channels = s.channels :=
  by unfold stepAddress; (repeat' split) <;> simp
@[simp] theorem stepAddress_engine : (stepAddress s).engine = s.engine :=
  by unfold stepAddress; (repeat' split) <;> simp
@[simp] theorem stepAddress_queue : (stepAddress s).queue = s.queue := by unfold stepAddress; (repeat' split) <;> simp
@[simp] theorem stepAddress_interrupts : (stepAddress s).interrupts = s.interrupts :=
  by unfold stepAddress; (repeat' split) <;> simp
@[simp] theorem stepAddress_pending : (stepAddress s).pending = s.pending :=
  by unfold stepAddress; (repeat' split) <;> simp
@[simp] theorem stepAddress_freeCount : (stepAddress s).freeCount = s.freeCount :=
  by unfold stepAddress; (repeat' split) <;> simp

@[simp] theorem hostRead_motion (a : Addr) : (hostRead a s).motion = s.motion :=
  by unfold hostRead; (repeat' split) <;> simp
@[simp] theorem hostRead_det (a : Addr) : (hostRead a s).det = s.det := by unfold hostRead; (repeat' split) <;> simp
@[simp] theorem hostRead_detectors (a : Addr) : (hostRead a s).detectors = s.detectors :=
  by unfold hostRead; (repeat' split) <;> simp
@[simp] theorem hostRead_table (a : Addr) : (hostRead a s).table = s.table :=
  by unfold hostRead; (repeat' split) <;> simp
@[simp] theorem hostRead_verdicts (a : Addr) : (hostRead a s).verdicts = s.verdicts :=
  by unfold hostRead; (repeat' split) <;> simp
@[simp] theorem hostRead_epochUnit (a : Addr) : (hostRead a s).epochUnit = s.epochUnit :=
  by unfold hostRead; (repeat' split) <;> simp
@[simp] theorem hostRead_schedule (a : Addr) : (hostRead a s).schedule = s.schedule :=
  by unfold hostRead; (repeat' split) <;> simp
@[simp] theorem hostRead_channels (a : Addr) : (hostRead a s).channels = s.channels :=
  by unfold hostRead; (repeat' split) <;> simp
@[simp] theorem hostRead_engine (a : Addr) : (hostRead a s).engine = s.engine :=
  by unfold hostRead; (repeat' split) <;> simp
@[simp] theorem hostRead_queue (a : Addr) : (hostRead a s).queue = s.queue :=
  by unfold hostRead; (repeat' split) <;> simp
@[simp] theorem hostRead_interrupts (a : Addr) : (hostRead a s).interrupts = s.interrupts :=
  by unfold hostRead; (repeat' split) <;> simp
@[simp] theorem hostRead_pending (a : Addr) : (hostRead a s).pending = s.pending :=
  by unfold hostRead; (repeat' split) <;> simp
@[simp] theorem hostRead_freeCount (a : Addr) : (hostRead a s).freeCount = s.freeCount :=
  by unfold hostRead; (repeat' split) <;> simp

end Sys2Proof.Machine
end

