-- ==== Sys2Proof/Laws/Operations.lean ====
section
/-! SUPPORT. What each shared operation can do, said once: the provers cite these and need not unfold the operation. -/

namespace Sys2Proof.Machine

variable (s : State)

/-! ### Folds and the work of an advance -/

/-- A fold whose every step keeps a property keeps it. -/
theorem foldl_keeps (P : State → Prop) (f : State → α → State) (h : ∀ s x, P s → P (f s x)) (l : List α) (s : State)
    (hs : P s) : P (l.foldl f s) := by
  induction l generalizing s with
  | nil => exact hs
  | cons x xs ih => exact ih _ (h s x hs)

/-- What every piece of work keeps, the work of an advance keeps, in whatever order it is taken. -/
theorem runWork_keeps (P : State → Prop) (h : ∀ fixed w s, tracking s = true → P s → P (doWork fixed w s).1)
    (fuel : Nat) (first left : List AdvanceWork) (fixed : Option (List Slot)) (s : State) (hs : P s) :
    P (runWork fuel first left fixed s) := by
  induction fuel generalizing first left fixed s with
  | zero => exact hs
  | succ fuel ih =>
    unfold runWork
    split
    · exact hs
    · rename_i ht
      split
      · exact hs
      · exact ih _ _ _ _ (h _ _ _ (by simpa using ht) hs)

/-- The next work is ready: it is a piece that is left or a part of one, with what must come before it taken. -/
theorem nextWork_ready {first left : List AdvanceWork} {w : AdvanceWork} (h : nextWork first left s = some w) :
    workReady s left w = true := by
  unfold nextWork at h
  split at h
  · rename_i hf
    cases h
    exact List.find?_some hf
  · exact List.find?_some h

/-- Work that is ready is left, but for a posting, which only the sender's list names. -/
theorem workReady_mem {left : List AdvanceWork} {w : AdvanceWork} (h : workReady s left w = true) :
    w = .posts ∨ wholeWork w ∈ left := by
  cases w <;> simp [workReady, wholeWork] at h ⊢ <;> tauto

/-- R20: a drain completes at an advance only after the raw input changes of the mark's commit. -/
theorem workReady_drainCompletion {left : List AdvanceWork} (h : workReady s left .drainCompletion = true) (l : Lane) :
    .levelChange l ∉ left := by
  simp [workReady, wholeWork] at h
  intro hl
  simpa [isLevelChange] using h.1.1.2 _ hl

/-- Where no work is next, no piece that is left is ready. -/
theorem nextWork_none {first left : List AdvanceWork} (h : nextWork first left s = none) :
    ∀ w ∈ left, workReady s left w = false := by
  unfold nextWork at h
  split at h
  · cases h
  · intro w hw
    simpa using List.find?_eq_none.1 h w hw

/-- What every settling keeps, settling all keeps. -/
theorem settleAll_keeps (P : State → Prop) (q : Action → Bool) (h : ∀ s, P s → P (settleFirst q s)) (fuel : Nat)
    (s : State) (hs : P s) : P (settleAll q fuel s) := by
  induction fuel generalizing s with
  | zero => exact hs
  | succ fuel ih => exact ih _ (h s hs)

/-! ### The flags -/

@[simp] theorem Flag.bit_getLsbD (f g : Flag) : f.bit.getLsbD g.position = decide (f = g) := by
  cases f <;> cases g <;> rfl

theorem stickySet_setFlag (f g : Flag) : stickySet f (setFlag g s) = (stickySet f s || decide (g = f)) := by
  simp [stickySet]

/-! ### The report queue -/

/-- R159, R160: a record is admitted, or counted lost with LOST. -/
theorem offer_cases (r : Report) :
    (placesNeeded r ≤ 64 - depth s ∧
      offer r s = { s with queue := { s.queue with records := s.queue.records ++ [r] } }) ∨
    (64 - depth s < placesNeeded r ∧
      offer r s = { s with
        queue := { s.queue with lost := satSucc s.queue.lost },
        interrupts := { s.interrupts with sticky := s.interrupts.sticky ||| Flag.lost.bit } }) := by
  unfold offer
  split
  · exact .inl ⟨by assumption, rfl⟩
  · exact .inr ⟨by omega, rfl⟩

theorem offer_admitted (r : Report) (h : placesNeeded r ≤ 64 - depth s) :
    offer r s = { s with queue := { s.queue with records := s.queue.records ++ [r] } } := by
  simp [offer, h]

theorem offer_lost (r : Report) (h : 64 - depth s < placesNeeded r) :
    offer r s = { s with
      queue := { s.queue with lost := satSucc s.queue.lost },
      interrupts := { s.interrupts with sticky := s.interrupts.sticky ||| Flag.lost.bit } } := by
  have : ¬ placesNeeded r ≤ 64 - depth s := by omega
  simp [offer, this, setFlag]

/-- An admission never takes the queue past its 64 places. -/
theorem offer_depth (r : Report) (h : depth s ≤ 64) : depth (offer r s) ≤ 64 := by
  have hn : 1 ≤ placesNeeded r := by cases r <;> simp [placesNeeded]
  rcases offer_cases s r with ⟨h1, h2⟩ | ⟨_, h2⟩ <;> rw [h2] <;> simp only [depth, List.length_append,
    List.length_singleton] at * <;> omega

/-- R158: an exception sets EXCEPTION and offers its record at the present H. -/
theorem raise_eq (code : ExceptionCode) (l : Option Lane) (tag : Option Half) :
    raise code l tag s = offer (.exception code l tag s.motion.h) { s with
      interrupts := { s.interrupts with sticky := s.interrupts.sticky ||| Flag.exception.bit } } := rfl

/-! ### The slots -/

@[simp] theorem entryAt_setEntry (slot k : Slot) (e : Entry) :
    entryAt k (setEntry slot e s) = if k = slot then some e else entryAt k s := by
  simp [entryAt, findEntry_putEntry]

/-- An entry changes in place and no other does; a FREE slot stays FREE. -/
theorem entryAt_modifyEntry (slot k : Slot) (f : Entry → Entry) :
    entryAt k (modifyEntry slot f s) = if k = slot then (entryAt k s).map f else entryAt k s := by
  unfold modifyEntry
  by_cases hk : k = slot
  · subst hk; split <;> simp [*]
  · split <;> simp [hk]

@[simp] theorem entryAt_addFlags (slot k : Slot) (f : EntryFlags → EntryFlags) :
    entryAt k (addFlags slot f s) =
      if k = slot then (entryAt k s).map fun e => { e with flags := f e.flags } else entryAt k s :=
  entryAt_modifyEntry s slot k _

@[simp] theorem entryAt_addFired (slot k : Slot) (n : Channel) :
    entryAt k (addFired slot n s) =
      if k = slot then (entryAt k s).map fun e => { e with fired := e.fired ||| (1#16 <<< n.val) } else entryAt k s :=
  entryAt_modifyEntry s slot k _

/-- Changing an entry changes nothing of the table but its slots. -/
theorem modifyEntry_table (slot : Slot) (f : Entry → Entry) :
    (modifyEntry slot f s).table = { s.table with entries := (modifyEntry slot f s).table.entries } := by
  unfold modifyEntry
  split <;> rfl

theorem setEntry_wf (slot : Slot) (e : Entry) (h : s.table.wf = true) : (setEntry slot e s).table.wf = true :=
  putEntry_rising h slot e

theorem modifyEntry_wf (slot : Slot) (f : Entry → Entry) (h : s.table.wf = true) :
    (modifyEntry slot f s).table.wf = true := by
  unfold modifyEntry
  split
  · exact h
  · exact setEntry_wf s _ _ h

theorem addFlags_wf (slot : Slot) (f : EntryFlags → EntryFlags) (h : s.table.wf = true) :
    (addFlags slot f s).table.wf = true := modifyEntry_wf s slot _ h

theorem addFired_wf (slot : Slot) (n : Channel) (h : s.table.wf = true) : (addFired slot n s).table.wf = true :=
  modifyEntry_wf s slot _ h

theorem postEntry_table (slot : Slot) (e : Entry) :
    (postEntry slot e s).table = { s.table with
      entries := dropEntry slot s.table.entries,
      counters := updateAt s.table.counters e.lane fun c => { c with outcomes := c.outcomes + 1 } } := by
  simp [postEntry]

theorem postEntry_wf (slot : Slot) (e : Entry) (h : s.table.wf = true) : (postEntry slot e s).table.wf = true := by
  rw [postEntry_table]
  exact dropEntry_rising h slot

/-- R56: the head of the DONE list posts, or there is none, or there is no place. -/
theorem postOutcome_cases :
    (s.table.doneList = [] ∧ postOutcome s = s) ∨ (64 ≤ depth s ∧ postOutcome s = s) ∨
    ∃ slot rest, s.table.doneList = slot :: rest ∧ depth s < 64 ∧
      ((entryAt slot s = none ∧ postOutcome s = { s with table := { s.table with doneList := rest } }) ∨
        ∃ e, entryAt slot s = some e ∧ postOutcome s = { s with
          queue := { s.queue with records := s.queue.records ++ [outcomeRecord e] },
          table := { s.table with
            entries := dropEntry slot s.table.entries, doneList := rest,
            counters := updateAt s.table.counters e.lane fun c => { c with outcomes := c.outcomes + 1 } } }) := by
  unfold postOutcome
  split
  · exact .inl ⟨by assumption, rfl⟩
  · rename_i slot rest hd
    split
    · rename_i hlt
      refine .inr (.inr ⟨slot, rest, hd, hlt, ?_⟩)
      cases he : entryAt slot s with
      | none => exact .inl ⟨rfl, rfl⟩
      | some e =>
        refine .inr ⟨e, rfl, ?_⟩
        have : placesNeeded (outcomeRecord e) ≤ 64 - depth { s with table := { s.table with doneList := rest } } := by
          simp only [outcomeRecord, placesNeeded, depth] at *; omega
        simp only [postEntry, offer_admitted _ _ this]
        rfl
    · exact .inr (.inl ⟨by omega, rfl⟩)

theorem postOutcome_wf (h : s.table.wf = true) : (postOutcome s).table.wf = true := by
  rcases postOutcome_cases s with ⟨_, e⟩ | ⟨_, e⟩ | ⟨slot, rest, _, _, ⟨_, e⟩ | ⟨_, _, e⟩⟩ <;> rw [e]
  · exact h
  · exact h
  · exact h
  · exact dropEntry_rising h slot

theorem serveDone_wf (h : s.table.wf = true) : (serveDone s).table.wf = true := by
  have key : ∀ (n : Nat) (s : State), s.table.wf = true → (postOutcomes n s).table.wf = true := by
    intro n
    induction n with
    | zero => exact fun _ h => h
    | succ n ih => exact fun s h => ih _ (postOutcome_wf s h)
  exact key _ s h

/-- The posting after an exit, a FLUSH or a take: at once with an empty FIFO, else left to OUTCOME_POST (R77, R78). -/
theorem settlePosts_cases :
    (s.verdicts.fifo = [] ∧ settlePosts s = serveDone s) ∨ (s.verdicts.fifo ≠ [] ∧ settlePosts s = s) := by
  unfold settlePosts
  cases s.verdicts.fifo <;> simp

theorem settlePosts_wf (h : s.table.wf = true) : (settlePosts s).table.wf = true := by
  rcases settlePosts_cases s with ⟨_, e⟩ | ⟨_, e⟩ <;> rw [e]
  · exact serveDone_wf s h
  · exact h

/-- With no entry in the DONE list or with a full queue there is nothing to post. -/
theorem serveDone_of_idle (h : s.table.doneList = [] ∨ 64 ≤ depth s) : serveDone s = s := by
  have key : ∀ n : Nat, postOutcomes n s = s := by
    intro n
    induction n with
    | zero => rfl
    | succ n ih =>
      have : postOutcome s = s := by
        unfold postOutcome
        rcases h with h | h
        · simp [h]
        · split
          · rfl
          · simp [Nat.not_lt.2 h]
      simp [postOutcomes, this, ih]
  exact key _

/-! ### The command status -/

/-- R146: a command's code and result are recorded, and every result but ACCEPTED sets CMD_REFUSED. -/
theorem finishCommand_eq (code : Byte) (r : CommandResult) :
    finishCommand code r s = { s with
      engine := { s.engine with lastCommand := code, lastResult := r },
      interrupts := if r = .accepted then s.interrupts
        else { s.interrupts with sticky := s.interrupts.sticky ||| Flag.cmdRefused.bit } } := by
  unfold finishCommand
  split <;> rfl

/-! ### The epoch unit -/

/-- Table 5-7: what a commit attempt can do. -/
theorem commitAttempt_cases :
    (attemptDue s = false ∧ commitAttempt s = s) ∨
    (attemptDue s = true ∧ s.window.frameOpen = true ∧ commitAttempt s = deferCommit .deferredFrame s) ∨
    (attemptDue s = true ∧ s.window.frameOpen = false ∧ 0 < liveCount s.epochUnit.current.other s ∧
      commitAttempt s = deferCommit .deferredReferenced s) ∨
    (attemptDue s = true ∧ s.window.frameOpen = false ∧ liveCount s.epochUnit.current.other s = 0 ∧
      ((∃ code, validate s.epochUnit.shadow s = some code ∧ commitAttempt s = rejectShadow code s) ∨
        (validate s.epochUnit.shadow s = none ∧ commitAttempt s = commit s))) := by
  unfold commitAttempt
  cases hd : attemptDue s
  · exact .inl ⟨rfl, rfl⟩
  · cases hf : s.window.frameOpen
    · by_cases hl : 0 < liveCount s.epochUnit.current.other s
      · exact .inr (.inr (.inl ⟨rfl, rfl, hl, by simp [hl]⟩))
      · refine .inr (.inr (.inr ⟨rfl, rfl, by omega, ?_⟩))
        cases hv : validate s.epochUnit.shadow s with
        | none => exact .inr ⟨rfl, by simp [hl]⟩
        | some code => exact .inl ⟨code, rfl, by simp [hl]⟩
    · exact .inr (.inl ⟨rfl, rfl, by simp⟩)

/-- R84, R96: the banks and the status after a commit. -/
theorem EpochUnit.commit_eq (e : EpochUnit) :
    e.commit = { e with
      bankA := if e.current = .b then e.shadow else e.bankA,
      bankB := if e.current = .a then e.shadow else e.bankB,
      current := e.current.other, epoch := e.epoch + 1, pending := false, rejected := false, deferral := false,
      lastResult := .committed, check := { number := 0, index := 0 } } := by
  unfold EpochUnit.commit
  cases h : e.current <;> simp

/-! ### The table -/

/-- R50: a decision that is due settles the verdict and places its actions; otherwise nothing changes. -/
theorem takeDecision_cases (slot : Slot) :
    ((∀ e, entryAt slot s = some e → decisionDue e s = false) ∧ takeDecision slot s = s) ∨
    ∃ e, entryAt slot s = some e ∧ decisionDue e s = true ∧
      (let e' := { e with state := .scheduled, verdict := some (settledVerdict e s) }
       takeDecision slot s = placeVerdictActions slot e' (settledVerdict e s).cls (setEntry slot e' s)) := by
  unfold takeDecision
  cases he : entryAt slot s with
  | none => exact .inl ⟨by simp, rfl⟩
  | some e =>
    cases hd : decisionDue e s
    · exact .inl ⟨by simpa using hd, by simp [hd]⟩
    · exact .inr ⟨e, rfl, hd, by simp [hd]⟩

/-- R51: the decisions due are those of the entries in the decision order whose decision position H has reached. -/
theorem mem_dueDecisions (slot : Slot) :
    slot ∈ dueDecisions s ↔ slot ∈ decisionOrder s ∧ ∃ e, entryAt slot s = some e ∧ decisionDue e s = true := by
  cases h : entryAt slot s <;> simp [dueDecisions, decisionWaits, h]

@[simp] theorem takeDecisions_nil : takeDecisions [] s = s := rfl

@[simp] theorem takeDecisions_cons (slot : Slot) (slots : List Slot) :
    takeDecisions (slot :: slots) s = takeDecisions slots (takeDecision slot s) := rfl

/-- R51: once the table has taken its first decision of an advance, what it has still to take is what it fixed then. -/
theorem fixDecisions_decision {fixed : Option (List Slot)} {slot : Slot} {rest : List Slot}
    (h : decisionsLeft fixed s = slot :: rest) :
    fixDecisions fixed .decision s = some rest ∧ (doWork fixed .decision s).1 = takeDecision slot s := by
  simp [fixDecisions, doWork, h]

/-- What the table has fixed stays so through all other work. -/
theorem fixDecisions_other (fixed : Option (List Slot)) {w : AdvanceWork} (h : w ≠ .decision) :
    fixDecisions fixed w s = fixed := by
  cases w <;> simp_all [fixDecisions]

/-- The next exit is that of the first due entry in belt order, or there is none. -/
theorem takeNextExit_cases :
    (leavingEntries s = [] ∧ takeNextExit s = s) ∨
    ∃ x rest, leavingEntries s = x :: rest ∧ takeNextExit s = takeExit x.1 x.2 s := by
  unfold takeNextExit
  cases h : leavingEntries s with
  | nil => exact .inl ⟨rfl, rfl⟩
  | cons x rest => exact .inr ⟨x, rest, rfl, rfl⟩

/-! ### The schedule -/

/-- An action joins the schedule and no other leaves it (R107). -/
theorem insertAction_perm (h : Word) (a : Action) (l : List Action) : (insertAction h a l).Perm (a :: l) :=
  insertSorted_perm _ a l

@[simp] theorem insertAction_length (h : Word) (a : Action) (l : List Action) :
    (insertAction h a l).length = l.length + 1 := (insertAction_perm h a l).length_eq

/-- R109: behind a PENDING action whose start is no further ahead of H, ahead of one whose start is further ahead. -/
theorem insertAction_cons_pending (h : Word) (a b : Action) (l : List Action) (hb : b.isActive = false) :
    insertAction h a (b :: l) =
      if distance h a.start < distance h b.start then a :: b :: l else b :: insertAction h a l := by
  simp [insertAction, insertSorted, hb]

/-- An ACTIVE action stays ahead of one that joins (assumption 24). -/
theorem insertAction_cons_active (h : Word) (a b : Action) (l : List Action) (hb : b.isActive = true) :
    insertAction h a (b :: l) = b :: insertAction h a l := by
  simp [insertAction, insertSorted, hb]

/-! ### The channels -/

/-- Table 7-4: what settling the first action that satisfies the test can do. -/
theorem settleFirst_cases (q : Action → Bool) :
    (s.schedule.find? q = none ∧ settleFirst q s = s) ∨
    ∃ a, s.schedule.find? q = some a ∧
      ((s.channels[a.channel].state = .idle ∧ settleFirst q s = fire q a s) ∨
       (s.channels[a.channel].state = .active ∧ a.policy = .join ∧ settleFirst q s = joinPulse q a s) ∨
       (s.channels[a.channel].state ≠ .idle ∧ a.policy = .refuse ∧ settleFirst q s = refuseNewcomer q a s) ∨
       ((∃ d, s.channels[a.channel].state = .recovery d) ∧ a.policy = .join ∧
         settleFirst q s = deferNewcomer q a s)) := by
  unfold settleFirst
  cases hf : s.schedule.find? q with
  | none => exact .inl ⟨rfl, rfl⟩
  | some a =>
    refine .inr ⟨a, rfl, ?_⟩
    dsimp only
    cases hc : s.channels[a.channel].state <;> cases hp : a.policy <;> simp [-Fin.getElem_fin]

/-- R135, R136: the pulse of a channel ends, or the channel has none. -/
theorem endPulse_cases (n : Channel) :
    (activeAction n s = none ∧ endPulse n s = s) ∨
    ∃ a, activeAction n s = some a ∧ endPulse n s = { s with
      schedule := s.schedule.eraseP (activeOn n),
      channels := updateAt s.channels n fun ch => { ch with state := afterPulse s.motion.tick a.recovery } } := by
  unfold endPulse
  cases h : activeAction n s with
  | none => exact .inl ⟨rfl, rfl⟩
  | some a => exact .inr ⟨a, rfl, rfl⟩

/-! ### The detectors -/

@[simp] theorem detectorOf_modifyDetector (l k : Lane) (f : Detector → Detector) :
    detectorOf k (modifyDetector l f s) = if l = k then f (detectorOf l s) else detectorOf k s := by
  simp [detectorOf, Fin.ext_iff]

@[simp] theorem detectorOf_discardEdges (l : Lane) :
    detectorOf l (discardEdges s) = { detectorOf l s with edge := none } := by
  simp [detectorOf]

/-! ### The engine -/

/-- R149: a drain that is done enters STOPPED, and otherwise nothing changes. -/
theorem completeDrain_cases :
    (drainDone s = true ∧ completeDrain s = enterStopped s) ∨ (drainDone s = false ∧ completeDrain s = s) := by
  unfold completeDrain
  cases drainDone s <;> simp

theorem settleDrain_eq : settleDrain s = if drainOpen s then s else enterStopped s := by
  unfold settleDrain completeDrain drainOpen
  cases s.motion.reports.isEmpty <;> cases drainDone s <;> simp

/-! ### The data bytes of the register window -/

/-- A data byte that the window takes has its effect, and the window moves on (R171). -/
theorem hostWrite_taken (a : Addr) (effect : State → State) (h : s.window.takesWrite a = true)
    (hf : (effect s).window.frame = s.window.frame) :
    hostWrite a effect s = { effect s with window := (effect s).window.afterWrite } := by
  unfold Window.takesWrite at h
  unfold hostWrite Window.afterWrite stepAddress setShiftOut setFrame
  rw [hf]
  split at h <;> simp_all

/-- A data byte that the window does not take changes nothing (assumption 9). -/
theorem hostWrite_not_taken (a : Addr) (effect : State → State) (h : s.window.takesWrite a = false) :
    hostWrite a effect s = s := by
  unfold Window.takesWrite at h
  unfold hostWrite
  split <;> simp_all

theorem hostRead_not_taken (a : Addr) (h : s.window.takesRead a = false) : hostRead a s = s := by
  unfold Window.takesRead at h
  unfold hostRead
  split <;> simp_all

/-! ### The step -/

theorem step_cons (c : Instr) (rest : List Instr) (h : s.pending = c :: rest) :
    step s = exec c { s with pending := rest } := by
  simp [step, h]

theorem step_nil (h : s.pending = []) : step s = .next (idleStep s) := by simp [step, h]

end Sys2Proof.Machine
end

