-- ==== Sys2Proof/WellFormed.lean ====
section
/-! DEFINITION. Which operands belong to a row of the opcode table. The meanings are total: an ill-formed command is the byte of
another row, and has the effect the guide gives that byte (R172). -/

namespace Sys2Proof

open Machine

/-- The value is one that a row of its own takes at the address named; REGISTER_WRITE is the row of the other bytes. -/
def ownRow (t : Target) (value : Byte) : Bool :=
  match t with
  | .command => decide (1 ≤ value.toNat ∧ value.toNat ≤ 7)
  | .flags _ | .enables _ | .inspectionSelect | .laneMask => true
  | .stageHold | .viewSelect => decide (value.toNat ≤ 1)
  | .threshold => decide (1 ≤ value.toNat ∧ value.toNat ≤ 64)
  | .verdictClass => decide (value.toNat ≤ 7)
  | .channelConfig _ .mode | .channelConfig _ .lane => decide (value.toNat ≤ 3)
  | .channelConfig _ .activeLevel | .channelConfig _ .widthUnit => true
  | .pitch _ | .laneBlock _ _ | .channelBlock _ _ => true
  | _ => false

/-- The operands are ones the command's row takes. -/
def Instr.wf : Instr → Bool
  | .verdictPush value => decide (value.toNat ≤ 7)
  | .stagedWrite addr _ => decide (accessClass (target addr) = .staged)
  | .stageHoldWrite value => decide (value.toNat ≤ 1)
  | .viewSelectWrite value => decide (value.toNat ≤ 1)
  | .reportThresholdWrite value => decide (1 ≤ value.toNat ∧ value.toNat ≤ 64)
  | .channelConfigurationWrite _ .mode value => decide (value.toNat ≤ 3)
  | .channelConfigurationWrite _ .lane value => decide (value.toNat ≤ 3)
  | .channelConfigurationWrite _ .activeLevel _ => true
  | .channelConfigurationWrite _ .widthUnit _ => true
  | .registerWrite addr value => !ownRow (target addr) value
  | .advance first => decide (first.filter fun w => w = wholeWork w).Nodup
  | .resume first => decide first.Nodup
  | .pinReset _ | .legalTransition _ | .illegalTransition | .microsecondsPulseEnd _ | .recoveryExpiry _ | .speedWindowEnd
  | .rawInputChange _ _ | .debounceExpiry _ | .faultReport | .verdictTake | .outcomePost | .drainComplete | .start | .stop
  | .flush | .commitNow | .engineReset | .pop | .frameBegin | .controlByte _ | .frameEnd | .flagRegisterWrite _ _
  | .enableRegisterWrite _ _ | .inspectionSlotSelect _ | .laneEnableMaskWrite _ | .snapshotRead _ | .addressByte _ => true

end Sys2Proof
end

