-- ==== Sys2Proof/Tests/Slice0.lean ====
section
/-! SUPPORT. The architect's tests: an ill-formed operand for each check, one-step tests whose expected results are the
guide's (its tables and worked examples), and for each statement with hypotheses a state that meets them. -/

namespace Sys2Proof.Tests

open Sys2Proof Sys2Proof.Machine

-- One thread: evaluations at once take more memory than a check allows.
set_option Elab.async false

/-! ### Helpers -/

/-- The state a command answers. -/
def after (c : Instr) (s : State) : State :=
  match exec c s with
  | .next t => t
  | .fault _ => s
  | .refused _ => s

/-- The part RUNNING after pin reset, with H, P and the next mark at positions named. -/
def runAt (h p m : Word) : State :=
  { State.reset with
    engine := { Engine.reset with state := .running },
    motion := { State.reset.motion with h := h, p := p, m := m } }

/-- H one advance short of 1001, and no mark near. -/
def line : State := runAt 1000 1001 2000

/-- The engine in a state. -/
def inState (e : EngineState) (s : State) : State := { s with engine := { s.engine with state := e } }

/-- FROZEN from a state. -/
def frozenFrom (e : EngineState) (s : State) : State :=
  { s with engine := { s.engine with state := .frozen, frozenFrom := some e } }

/-- The current bank (Bank A) changed. -/
def withBank (f : ProfileSet → ProfileSet) (s : State) : State :=
  { s with epochUnit := { s.epochUnit with bankA := f s.epochUnit.bankA } }

/-- Lane 0 of a profile set changed. -/
def lane0 (f : LaneProfile → LaneProfile) (p : ProfileSet) : ProfileSet := { p with lanes := updateAt p.lanes 0 f }

/-- Channel 4 configured, with a profile in the current bank. -/
def channel4 (mode : ChannelMode) (unit : WidthUnit) (prof : ChannelProfile) (s : State) : State :=
  withBank (fun p => { p with channels := p.channels.set 4 prof })
    { s with channels := updateAt s.channels 4 fun _ =>
        { config := { mode := mode, lane := 0, activeHigh := true, unit := unit }, state := .idle } }

/-- CH4 of section 3.10: offset 1500, width 60, lead 300 µs, recovery 5000 µs. -/
def jet : ChannelProfile :=
  { offset := 1500, width := 60, lead := 300, recovery := 5000, policy := .refuse, classMask := 0xFE }

/-- Channel 4 in a channel state. -/
def channel4In (c : ChannelState) (s : State) : State := setChannelState 4 c s

/-- An entry of lane 0, before its confirmation. -/
def opening (leading : Word) : Entry :=
  { state := .opening, lane := 0, tag := none, epoch := 0, bank := .a, leading := leading, length := none,
    verdict := none, flags := {}, fired := 0 }

/-- An entry of lane 0 with tag 7 and length 10. -/
def confirmed (state : EntryState) (verdict : Option Verdict) (leading : Word) : Entry :=
  { opening leading with state := state, tag := some 7, length := some 10, verdict := verdict }

/-- A host verdict. -/
def host (c : Class) : Option Verdict := some { cls := c, source := .host }

/-- Slot 5 holds an entry of lane 0, with the lists, the detector and the counters to match. -/
def holding (e : Entry) (s : State) : State :=
  { s with
    detectors := { s.detectors with
      lane := updateAt s.detectors.lane 0 fun d => if e.state = .opening then { d with state := .covered } else d },
    table := { s.table with
      entries := [(5, e)],
      laneList := if e.state = .done then s.table.laneList else s.table.laneList.set 0 [5],
      doneList := if e.state = .done then [5] else [],
      counters := if e.state = .opening then s.table.counters
        else s.table.counters.set 0 { confirmed := 1, outcomes := 0, dropped := 0 } } }

/-- The detector of lane 0. -/
def lane0Is (d : Detector) (s : State) : State :=
  { s with detectors := { s.detectors with lane := s.detectors.lane.set 0 d } }

/-- The pending edge of lane 0, latched at a position with its debounce just over. -/
def edgeAt (latched : Word) (inGap : Bool) (s : State) : State :=
  modifyDetector 0 (fun d => { d with edge := some { latched := latched, expires := 3, inGap := inGap } }) s

/-- An action of channel 4. -/
def act (item : Option Slot) (start : Word) (width : Half) (policy : Policy) (state : ActionState) : Action :=
  { channel := 4, item := item, start := start, width := width, unit := .counts, policy := policy, recovery := 100,
    state := state }

/-- The schedule holds these actions. -/
def scheduled (l : List Action) (s : State) : State := { s with schedule := l }

/-- The schedule holds a number of PER_PITCH actions of channel 4 that start far ahead. -/
def crowded (k : Nat) (s : State) : State :=
  scheduled (List.replicate k (act none 900000 10 .refuse (.pending false))) s

/-- The shadow set is pending, with a pitch. -/
def staged (pitch : Word) (s : State) : State :=
  { s with epochUnit := { s.epochUnit with shadow := { s.epochUnit.shadow with pitch := pitch }, pending := true } }

/-- The report queue full of one kind of record. -/
def fullQueue (s : State) : State :=
  { s with queue := { s.queue with records := List.replicate 64 (.commit 1 2) } }

/-- The FIFO holds one record. -/
def fifoOf (lane : Byte) (tag : Half) (s : State) : State :=
  { s with verdicts := { s.verdicts with fifo := [{ lane := lane, tag := tag, cls := 2 }] } }

/-- The window in DATA of a frame at an address. -/
def inFrame (read : Bool) (a : Addr) (s : State) : State :=
  { s with window := { s.window with csn := false, frame := .data { read := read, increment := true } a } }

/-! ### WellFormed: an ill-formed operand for each check -/

theorem test_wf_advance : (Instr.advance [.mark, .mark]).wf = false := by decide
theorem test_wf_resume : (Instr.resume [2, 2]).wf = false := by decide
theorem test_wf_verdictPush : (Instr.verdictPush 8).wf = false := by decide
theorem test_wf_stagedWrite : (Instr.stagedWrite 0x0292 0).wf = false := by decide
theorem test_wf_stageHold : (Instr.stageHoldWrite 2).wf = false := by decide
theorem test_wf_viewSelect : (Instr.viewSelectWrite 2).wf = false := by decide
theorem test_wf_threshold : (Instr.reportThresholdWrite 0).wf = false ∧ (Instr.reportThresholdWrite 65).wf = false := by
  decide
theorem test_wf_channelMode : (Instr.channelConfigurationWrite 0 .mode 4).wf = false := by decide
theorem test_wf_channelLane : (Instr.channelConfigurationWrite 0 .lane 4).wf = false := by decide
theorem test_wf_registerWrite : (Instr.registerWrite 0x0004 3).wf = false ∧ (Instr.registerWrite 0x0004 8).wf = true := by
  decide

/-! ### The motion unit -/

/-- Section 10.5: after pin reset the flag register reads 0x01, 0x00 and the enable register 0x12, 0x00. -/
theorem test_pinReset_flags :
    let t := after (.pinReset { InputLevels.atReset with encA := true }) line
    (readTarget (target 0x0014) t, readTarget (target 0x0015) t, readTarget (target 0x0016) t) = (0x01, 0x00, 0x12) ∧
      t.motion.recorded = { encA := true, encB := false } := by decide

/-- R1, Table 1-3: from (0,0) a change of ENCA is forward and one of ENCB reverse. -/
theorem test_legalTransition :
    (after (.legalTransition .encA) State.reset).motion.p = 1 ∧
      (after (.legalTransition .encB) State.reset).motion.p = 0xFFFFFFFF := by decide

/-- Table 1-5: at the ninth reverse count REVERSAL is raised with P = 49992 and H = 50001. -/
theorem test_legalTransition_reversal :
    (after (.legalTransition .encB) (runAt 50001 49993 60000)).motion.reports =
      [{ cause := .reversal, p := 49992, h := 50001 }] := by decide

/-- R7: the fourth illegal transition reaches the limit of 4; P stays. -/
theorem test_illegalTransition :
    let t := after .illegalTransition { line with motion := { line.motion with phaseErrors := 3 } }
    t.motion.phaseErrors = 4 ∧ t.motion.p = 1001 ∧
      t.motion.reports = [{ cause := .encoderPhase, p := 1001, h := 1000 }] := by decide

/-- Section 1.7: the history 1000, 1010, 980, 1030 takes a window of 600, and the estimate becomes 905. -/
theorem test_speedWindowEnd :
    (after .speedWindowEnd { line with motion := { line.motion with
      history := { w0 := 1000, w1 := 1010, w2 := 980, w3 := 1030 }, windowCount := 600 } }).motion.speed = 905 := by
  decide

/-! ### An advance -/

/-- R9, R10: one count, and none where P is level with H. Table 1-6: the mark at 7048 commits a pitch of 2000, and the next M
is 9048. -/
theorem test_advance_counts :
    ((after (.advance []) line).motion.h = 1001 ∧ (after (.advance []) (runAt 1000 1000 2000)).motion.h = 1000) ∧
    (let t := after (.advance []) (staged 2000 (runAt 7047 7048 7048))
     t.motion.m = 9048 ∧ t.epochUnit.current = .b ∧ t.epochUnit.epoch = 1) := by decide

/-- Two lanes with a decision at the mark of 1001, a VERDICT channel each, a PER_PITCH channel, and two places left. -/
def contested : State :=
  let serving (mode : ChannelMode) (lane : Lane) : OutputChannel :=
    { config := { mode := mode, lane := lane, activeHigh := true, unit := .counts }, state := .idle }
  let s := holding (confirmed .held (host 2) 745) (crowded 126 (runAt 1000 1001 1001))
  { s with
    channels := ((s.channels.set 5 (serving .verdict 0)).set 6 (serving .verdict 1)).set 7 (serving .perPitch 0)
    table := { s.table with
      entries := s.table.entries ++ [(6, { confirmed .held (host 2) 745 with lane := 1 })],
      laneList := s.table.laneList.set 1 [6] } }

/-- R110, R125: each decision is an event of its own. Taken between the two, the mark's placement takes the last place and the
second entry gains SCHEDULE_FULL; taken after them, the mark raises PITCH_SCHEDULE_FULL. -/
theorem test_advance_parts :
    let full (first : List AdvanceWork) : Option Bool × Option Bool × Bool :=
      let t := after (.advance first) contested
      ((entryAt 5 t).map (·.flags.scheduleFull), (entryAt 6 t).map (·.flags.scheduleFull), flagSet .exception t)
    full [.decision, .mark, .pitchActions] = (some false, some true, false) ∧
      full [.decisions] = (some false, some false, true) := by decide +kernel

/-- R51: with a decision offset one beyond the max length an overlength is confirmed at its decision position. Taken before the
table's first decision of the advance it has its own at that advance; taken after it, at the next one. -/
theorem test_advance_decisions_fixed :
    let s := withBank (lane0 fun p => { p with decisionOffset := 201 }) (holding (opening 800) line)
    let both : State := { s with table := { s.table with
      entries := s.table.entries ++ [(6, { confirmed .held (host 2) 745 with lane := 1 })],
      laneList := s.table.laneList.set 1 [6] } }
    let states (first : List AdvanceWork) : Option EntryState × Option EntryState :=
      let t := after (.advance first) both
      ((entryAt 5 t).map (·.state), (entryAt 6 t).map (·.state))
    states [.decision, .detector 0] = (some .held, some .scheduled) ∧
      states [.detector 0, .decision] = (some .scheduled, some .scheduled) := by decide

/-- R20, R17: the last exit of a drain at a mark whose commit makes the low line of lane 0 active: the change arrives at the commit
and is taken in DRAINING, before the engine is STOPPED. -/
theorem test_advance_commit_in_drain :
    let s := staged 2000 (inState .draining
      (holding (confirmed .scheduled (host 2) (1001 - 4096)) (runAt 1000 1001 1001)))
    let t := after (.advance []) { s with epochUnit := { s.epochUnit with
      shadow := lane0 (fun p => { p with activeHigh := false }) s.epochUnit.shadow } }
    t.engine.state = .stopped ∧ t.epochUnit.epoch = 1 ∧ (detectorOf 0 t).state = .blocked ∧
      t.queue.records.contains (.exception .edgeWhileDraining (some 0) none 1001) = true := by decide

/-- R162: with nine places free and a verdict record waiting, the OUTCOME record of an exit may be posted before the exception of a
refusal at the same advance, which is then lost, or left to OUTCOME_POST. -/
theorem test_advance_posts :
    let s := fifoOf 4 41 (holding (confirmed .scheduled (host 2) (1001 - 4096))
      (scheduled [act none 1001 10 .refuse (.pending false)]
        (channel4In (.recovery 50) (channel4 .perPitch .counts ChannelProfile.defaults line))))
    let u := { s with queue := { s.queue with records := List.replicate 55 (.commit 1 2) } }
    let ends (first : List AdvanceWork) : List Report × Half :=
      let t := after (.advance first) u
      (t.queue.records.drop 55, t.queue.lost)
    ends [.decisions, .exits, .posts] = ([.outcome 0 7 0 (1001 - 4096) (host 2) 0 {}], 1) ∧
      ends [] = ([.exception .pitchCollision none none 1001], 0) := by decide +kernel

/-- R109: the PENDING actions of 1010 and 1020 stand in belt order behind an ACTIVE one that joins have kept 2^31 + 5 counts. -/
theorem test_insertAction :
    let driving := act none (1000 - 0x80000005) 10 .join (.active (.position 1400))
    let earlier := act none 1010 10 .refuse (.pending false)
    let later := act none 1020 10 .refuse (.pending false)
    insertAction 1000 later [driving, earlier] = [driving, earlier, later] := by decide

/-! ### The channels -/

/-- A line with channel 4 ACTIVE in MICROSECONDS until tick 500. -/
def timed : State :=
  scheduled [{ act none 900 40 .refuse (.active (.time 500)) with unit := .microseconds }]
    (channel4In .active (channel4 .perPitch .microseconds ChannelProfile.defaults line))

theorem test_microsecondsPulseEnd :
    let t := after (.microsecondsPulseEnd 4) timed
    t.schedule = [] ∧ t.channels[4].state = .recovery 600 ∧ outLine 4 t = false := by decide

/-- Table 7-9: at the expiry, H = 32130, the first deferred action fires with end 32160 and the second is joined. -/
def waitingTwo : State :=
  scheduled [act none 32080 30 .join (.pending true), act none 32110 30 .join (.pending true)]
    (channel4In (.recovery 100) (channel4 .perPitch .counts ChannelProfile.defaults (runAt 32130 32130 40000)))

theorem test_recoveryExpiry :
    (after (.recoveryExpiry 4) waitingTwo).schedule = [act none 32080 30 .join (.active (.position 32160))] := by decide

/-! ### The detectors (section 2.8, with lane 0 for its lane L1) -/

/-- The lane profile of section 2.8. -/
def section28 (s : State) : State :=
  withBank (lane0 fun p => { p with minLength := 40, maxLength := 200, minGap := 100, debounce := 20 }) s

/-- At 10100 the line rises: a pending leading edge latched at 10100. -/
theorem test_rawInputChange :
    (detectorOf 0 (after (.rawInputChange 0 true) (section28 (runAt 10100 10100 20000)))).edge =
      some { latched := 10100, expires := 20, inGap := false } := by decide

/-- At 10235 the trailing edge latched at 10215 confirms the item of 10100: length 115, tag 7, next tag 8. At 10320 an edge
latched in GAP is taken in CLEAR: BLOCKED, and GAP_SHORT at position 10320. -/
theorem test_debounceExpiry :
    (let t := after (.debounceExpiry 0) (edgeAt 10215 false (lane0Is { Detector.reset with state := .covered, nextTag := 7 }
      (holding (opening 10100) (section28 (runAt 10235 10235 20000)))))
     (entryAt 5 t).map (fun e => (e.state, e.tag, e.length)) = some (.tracked, some 7, some 115) ∧
       (detectorOf 0 t).state = .gap ∧ (detectorOf 0 t).nextTag = 8) ∧
    (let t := after (.debounceExpiry 0) (edgeAt 10300 true (section28 (runAt 10320 10320 20000)))
     (detectorOf 0 t).state = .blocked ∧ t.queue.records = [.exception .gapShort (some 0) none 10320]) := by decide

/-! ### Verdicts and reports -/

/-- R64: the staging bytes form the record. -/
theorem test_verdictPush :
    (after (.verdictPush 3) { line with verdicts := { line.verdicts with laneByte := 1, tagLow := 0x2C, tagHigh := 1 } }
      ).verdicts.fifo = [{ lane := 1, tag := 300, cls := 3 }] := by decide

/-- Table 4-8: a TRACKED entry takes the class; a record of lane 4 is UNKNOWN with its lane absent. -/
theorem test_verdictTake :
    (entryAt 5 (after .verdictTake (fifoOf 0 7 (holding (confirmed .tracked none 800) line)))).map (·.verdict) =
      some (host 2) ∧
    (after .verdictTake (fifoOf 4 41 line)).queue.records =
      [.exception .verdictUnknown none (some 41) 1000] := by decide

/-- Table 4-8: a default verdict makes the record LATE, and the class stays. -/
theorem test_verdictTake_late :
    let t := after .verdictTake (fifoOf 0 7 (holding
      (confirmed .scheduled (some { cls := 1, source := .laneDefault }) 600) line))
    (entryAt 5 t).map (fun e => (e.verdict, e.flags.lateVerdict)) =
      some (some { cls := 1, source := .laneDefault }, true) ∧ t.verdicts.exceptionCount = 1 := by decide

/-- R77: a record that waits at the exit is LATE on either side of it, and the OUTCOME record shows LATE_VERDICT; taken after
the posting it is UNKNOWN. R78: a record that waits at FLUSH finds a TRACKED entry abandoned without a verdict, and is LATE. -/
theorem test_verdictTake_races :
    let exiting := fifoOf 0 7 (holding (confirmed .scheduled (some { cls := 1, source := .laneDefault }) (1001 - 4096)) line)
    let late := .outcome 0 7 0 (1001 - 4096) (some { cls := 1, source := .laneDefault }) 0 { lateVerdict := true }
    (after .verdictTake (after (.advance []) exiting)).queue.records =
        [.exception .verdictLate (some 0) (some 7) 1001, late] ∧
    (after (.advance []) (after .verdictTake exiting)).queue.records =
        [.exception .verdictLate (some 0) (some 7) 1000, late] ∧
    (after .verdictTake (after .outcomePost (after (.advance []) exiting))).queue.records =
        [.outcome 0 7 0 (1001 - 4096) (some { cls := 1, source := .laneDefault }) 0 {},
         .exception .verdictUnknown (some 0) (some 7) 1001] ∧
    (after .verdictTake (after .flush (fifoOf 0 7 (holding (confirmed .tracked none 800) line)))).queue.records =
        [.exception .verdictLate (some 0) (some 7) 1000, .outcome 0 7 0 800 none 0 { lateVerdict := true, abandoned := true }] := by
  decide

/-- A DONE entry waits. -/
def waiting (s : State) : State := holding (confirmed .done (host 2) 600) s

theorem test_outcomePost :
    let t := after .outcomePost (waiting line)
    entryAt 5 t = none ∧ t.table.counters[0].outcomes = 1 ∧
      t.queue.records = [.outcome 0 7 0 600 (host 2) 0 {}] := by decide

/-- R161, R164: the place that POP frees in a full queue takes the waiting OUTCOME record. -/
theorem test_pop :
    let t := after .pop (fullQueue (waiting line))
    t.queue.records.length = 64 ∧ t.table.doneList = [] := by decide +kernel

theorem test_pop_empty :
    let t := after .pop line
    t.engine.lastResult = .refusedEmpty ∧ flagSet .cmdRefused t = true := by decide

/-! ### The engine -/

/-- Table 8-8: the fault record of the freeze in DRAINING, with P 81191 and H 81200. -/
theorem test_faultReport :
    let s := inState .draining (runAt 81200 81191 90000)
    let t := after .faultReport
      { s with motion := { s.motion with reports := [{ cause := .reversal, p := 81191, h := 81200 }] } }
    t.engine.state = .frozen ∧
      t.engine.fault = { cause := .reversal, prior := .draining, further := 0, p := 81191, h := 81200 } := by decide

/-- Section 1.8: START with P at 5000 puts H at 5000 and M at 6024. -/
theorem test_start :
    let t := after .start { State.reset with motion := { State.reset.motion with p := 5000 } }
    (t.motion.h, t.motion.m) = (5000, 6024) ∧ t.engine.state = .running := by decide

theorem test_stop :
    (after .stop (holding (opening 900) line)).engine.state = .draining ∧ (after .stop line).engine.state = .stopped := by
  decide

theorem test_drainComplete : (after .drainComplete (inState .draining line)).engine.state = .stopped := by decide

/-- Table 1-5: RESUME with P 50007 and H 50001 is accepted; with P at 50010 it is refused. -/
theorem test_resume :
    (after (.resume []) (frozenFrom .running (runAt 50001 50007 60000))).engine.state = .running ∧
      (after (.resume []) (frozenFrom .running (runAt 50001 50010 60000))).engine.lastResult = .refusedPosition := by decide +kernel

theorem test_flush :
    let t := after .flush (holding (confirmed .held (host 2) 600) line)
    t.engine.state = .stopped ∧ t.table.entries = [] ∧
      t.queue.records = [.outcome 0 7 0 600 (host 2) 0 { abandoned := true }] := by decide

/-- R154: with nothing pending COMMIT_NOW is REFUSED_STATE; a pitch of 15 fails V1. -/
theorem test_commitNow :
    (after .commitNow State.reset).engine.lastResult = .refusedState ∧
      (after .commitNow (staged 15 State.reset)).epochUnit.check = { number := 1, index := 0 } := by decide

/-- Table 5-6: each of V1 to V9 fails just beyond its bound and passes at it, with channel 4 in a mode that it checks. -/
theorem test_commitNow_validation :
    let code (mode : ChannelMode) (prof : ChannelProfile) (f : ProfileSet → ProfileSet) : Option (Nat × Nat) :=
      let s := withBank f (channel4 mode .counts prof State.reset)
      (validate (currentBank s) s).map fun c => (c.number, c.index)
    let prof (offset : Word) (width : Half) : ChannelProfile := { jet with offset := offset, width := width }
    let disabled := { channel4 .verdict .counts (prof 300 1) State.reset with
      detectors := { State.reset.detectors with enabled := 0xE } }
    (code .off (prof 0 0) (fun p => { p with pitch := 16 }), code .off (prof 0 0) fun p => { p with pitch := 15 }) =
        (none, some (1, 0)) ∧
    code .off (prof 0 0) (lane0 fun x => { x with minLength := 0 }) = some (2, 0) ∧
    code .off (prof 0 0) (lane0 fun x => { x with maxLength := 256 }) = some (3, 0) ∧
    (code .off (prof 0 0) (lane0 fun x => { x with exitOffset := 258 }),
      code .off (prof 0 0) (lane0 fun x => { x with exitOffset := 257 })) = (none, some (4, 0)) ∧
    (code .perItem (prof 4094 1) id, code .perItem (prof 4095 1) id) = (none, some (5, 4)) ∧
    (code .verdict (prof 257 1) id, code .verdict (prof 256 1) id) = (none, some (6, 4)) ∧
    (code .perPitch (prof 1023 1) id, code .perPitch (prof 1024 1) id) = (none, some (7, 4)) ∧
    code .perPitch (prof 0 0) id = some (8, 4) ∧
    (validate (currentBank disabled) disabled).map (fun c => (c.number, c.index)) = some (9, 4) := by
  decide +kernel

theorem test_engineReset :
    let t := after .engineReset (fullQueue (waiting line))
    t.engine.state = .stopped ∧ t.table.entries = [] ∧ t.queue.records = [] ∧ t.motion.h = 1001 := by decide +kernel

/-! ### The register window -/

/-- R170: CSN falls, a control byte for READ with INCREMENT, and the address 0x0100. -/
theorem test_frame :
    let t := after (.addressByte 0x00) (after (.addressByte 0x01) (after (.controlByte 0xC0) (after .frameBegin line)))
    t.window.frame = .data { read := true, increment := true } 0x0100 ∧ t.window.shiftOut = 0xE9 := by decide

theorem test_frameEnd :
    (after .frameEnd (inFrame true 0x0100 line)).window.frame = .idle := by decide

/-- Table 10-6: the summary byte of RUNNING after pin reset carries the state and POWER_ON. -/
theorem test_frameBegin : (after .frameBegin line).window.shiftOut = 0x81 := by decide

theorem test_stagedWrite :
    let t := after (.stagedWrite 0x020D 0x07) line
    t.epochUnit.shadow.pitch = 0x0700 ∧ t.epochUnit.pending = true := by decide

theorem test_stageHoldWrite :
    (after (.stageHoldWrite 1) line).epochUnit.hold = true ∧
      flagSet .accessErr (after (.stageHoldWrite 2) line) = true := by decide

theorem test_viewSelectWrite : (after (.viewSelectWrite 1) line).epochUnit.view = .active := by decide

/-- R167: POWER_ON is cleared by a 1 in position 0 of byte 0. -/
theorem test_flagRegisterWrite : flagSet .powerOn (after (.flagRegisterWrite .byte0 1) line) = false := by decide

/-- Enabling POWER_ON, which is set, drives IRQN low. -/
theorem test_enableRegisterWrite : irqActive (after (.enableRegisterWrite .byte0 1) line) = true := by decide

theorem test_reportThresholdWrite : (after (.reportThresholdWrite 64) line).queue.threshold = 64 := by decide

theorem test_inspectionSlotSelect :
    (after (.inspectionSlotSelect 5) (waiting line)).table.inspection.entry = some (confirmed .done (host 2) 600) := by
  decide

theorem test_laneEnableMaskWrite :
    (after (.laneEnableMaskWrite 0x05) State.reset).detectors.enabled = 5 ∧
      (after (.laneEnableMaskWrite 0x05) line).detectors.enabled = 15 := by decide

theorem test_channelConfigurationWrite :
    (after (.channelConfigurationWrite 4 .mode 3) State.reset).channels[4].config.mode = .verdict := by decide

/-- R174: the read of the lowest byte of P copies it, and the next byte is read from the copy. -/
theorem test_snapshotRead :
    let t := after (.snapshotRead 0x0101) { (after (.snapshotRead 0x0100) line) with motion := State.reset.motion }
    t.window.shiftOut = 0x03 := by decide

/-- R172: a write to a READ-ONLY address sets ACCESS_ERR and is the last refused address. -/
theorem test_registerWrite_refused :
    let t := after (.registerWrite 0x0100 9) line
    t.window.lastRefused = 0x0100 ∧ flagSet .accessErr t = true ∧ t.motion = line.motion := by decide

theorem test_registerWrite_tagLow : (after (.registerWrite 0x0501 0x2C) line).verdicts.tagLow = 0x2C := by decide

theorem test_step_front :
    step { State.reset with pending := [.start, .stop] } = exec .start { State.reset with pending := [.stop] } := rfl

theorem test_decode_none : decodeTableWord 8 0 = none := rfl

/-! ### Witnesses: for each statement with hypotheses, states and operands that meet them, clause by clause -/

theorem witness_EmptyQueueLetsThePartAct :
    (State.reset.pending = [] ∧ readyEvents State.reset = []) ∧
      line.pending = [] ∧ (readyEvents line).length = 1 := by decide

/-- A whole frame, and the last byte of an open one. -/
theorem witness_command_register :
    line.window.takesWrite 0x0004 = true ∧ (inFrame false 0x0004 line).window.takesWrite 0x0004 = true := by decide

theorem witness_EngineResetKeepsTheConfiguration : (waiting line).window.takesWrite 0x0004 = true := by decide

theorem witness_InvertReversesEveryCount :
    exec (.legalTransition .encA) line = .next (after (.legalTransition .encA) line) ∧
    exec (.legalTransition .encA) { line with motion := { line.motion with invert := !line.motion.invert } } =
      .next (after (.legalTransition .encA) { line with motion := { line.motion with invert := !line.motion.invert } }) ∧
    exec .illegalTransition line = .next (after .illegalTransition line) := ⟨rfl, rfl, rfl⟩

theorem witness_RawPositionMovesOnlyByCounts :
    exec (.legalTransition .encA) line = .next (after (.legalTransition .encA) line) ∧
    (line.window.takesWrite 0x0100 = true ∧ (inFrame false 0x0103 line).window.takesWrite 0x0103 = true) ∧
    (line.window.takesRead 0x0100 = true ∧ (inFrame true 0x0102 line).window.takesRead 0x0103 = true) :=
  ⟨rfl, by decide, by decide⟩

theorem witness_PhaseErrorCountFollowsIllegalTransitions :
    exec .start State.reset = .next (after .start State.reset) ∧
    (issues .start 1 State.reset = true ∧ (after .start State.reset).engine.lastResult = .accepted) ∧
    (issues (.resume []) 3 line = true ∧ (after (.resume []) line).engine.lastResult ≠ .accepted) ∧
    line.window.takesWrite 0x010A = true ∧ line.window.takesRead 0x010A = true :=
  ⟨rfl, by decide, by decide, by decide, by decide⟩

theorem witness_TrackingPositionMovesOnlyByAdvances :
    exec (.advance []) line = .next (after (.advance []) line) ∧
    exec .start State.reset = .next (after .start State.reset) ∧
    (issues .start 1 State.reset = true ∧ (after .start State.reset).engine.lastResult = .accepted) ∧
    (issues .start 1 line = true ∧ (after .start line).engine.lastResult ≠ .accepted) :=
  ⟨rfl, rfl, by decide, by decide⟩

/-! #### Advances -/

theorem witness_AdvanceStepsHOneCount :
    canAdvance line = true ∧ canAdvance (runAt 1000 1000 2000) = false ∧
      canAdvance (runAt 0 0x7FFFFFFF 2000) = true ∧ canAdvance (runAt 0 0x80000000 2000) = false := by decide

theorem witness_QuietAdvanceMovesOnlyH :
    let s := holding (confirmed .tracked none 800) line
    canAdvance s = true ∧ s.motion.h + 1 ≠ s.motion.m ∧ lanesQuietAt (s.motion.h + 1) s = true ∧
      actionsQuietAt (s.motion.h + 1) s = true ∧ entriesQuietAt (s.motion.h + 1) s = true ∧ s.table.doneList = [] ∧
      drainOpen s = true ∧ (fifoOf 4 7 (waiting line)).verdicts.fifo ≠ [] ∧
      entriesQuietAt 1001 (fifoOf 4 7 (waiting line)) = true := by decide

/-- A pending shadow set at the advance to the mark. -/
def atMark : State := staged 2000 (runAt 1000 1001 1001)

/-- The shadow set changes the active level of lane 0 too, with a debounce. -/
def levelMark (debounce : Byte) (s : State) : State :=
  { s with epochUnit := { s.epochUnit with
      shadow := lane0 (fun p => { p with activeHigh := false, debounce := debounce }) s.epochUnit.shadow } }

theorem witness_PitchMarkSettlesTheCommitAttempt :
    (TableSound atMark ∧ canAdvance atMark = true ∧ atMark.motion.h + 1 = atMark.motion.m ∧ attemptDue atMark = true ∧
      atMark.window.frameOpen = false ∧ liveCount atMark.epochUnit.current.other atMark = 0 ∧
      validate atMark.epochUnit.shadow atMark = none) ∧
    (let s := staged 15 (runAt 1000 1001 1001)
     validate s.epochUnit.shadow s = some { number := 1, index := 0 }) ∧
    (let s := { atMark with window := { atMark.window with frameOpen := true } }
     TableSound s ∧ canAdvance s = true ∧ attemptDue s = true) ∧
    (let s := holding { confirmed .tracked none 800 with bank := .b, epoch := 0xFFFF } atMark
     TableSound s ∧ canAdvance s = true ∧ attemptDue s = true ∧
       (s.table.entries.any fun x => isLive x.2 && decide (x.2.bank = s.epochUnit.current.other) &&
         !reached (s.motion.h + 1) (exitPosition x.2 s)) = true) ∧
    (∀ s ∈ [levelMark 0 atMark, levelMark 1 atMark, levelMark 20 (edgeAt 990 false atMark)],
      TableSound s ∧ canAdvance s = true ∧ s.motion.h + 1 = s.motion.m ∧ attemptDue s = true ∧
        validate s.epochUnit.shadow s = none ∧ lanesQuietAt (s.motion.h + 1) s = true ∧
        (after (.advance []) s).engine.state ≠ .stopped ∧ laneEnabled 0 s = true ∧
        s.epochUnit.shadow.lanes[0].activeHigh ≠ (currentBank s).lanes[0].activeHigh ∧
        s.epochUnit.shadow.lanes[1].activeHigh = (currentBank s).lanes[1].activeHigh) := by
  refine ⟨by decide, by decide, by decide, by decide, ?_⟩
  simp only [List.forall_mem_cons, List.not_mem_nil, false_imp_iff, implies_true, and_true]
  and_intros <;> decide

/-- PER_PITCH on channel 4, at the advance to the mark. -/
def pitched : State := channel4 .perPitch .counts { jet with offset := 0 } (runAt 1000 1001 1001)

theorem sound_pitched : LineSound pitched ∧ LineSound (inState .draining pitched) := by
  constructor <;> constructor <;> decide

/-- The mark with one place left in the schedule, and with none. -/
theorem sound_pitched_full : LineSound (crowded 127 pitched) ∧ LineSound (crowded 128 pitched) := by
  constructor <;> constructor <;> decide +kernel

theorem witness_PitchMarkPlacesThePeriodicActions :
    (canAdvance pitched = true ∧ pitched.motion.h + 1 = pitched.motion.m ∧ pitched.schedule.length ≤ 112 ∧
      (∀ x ∈ pitched.table.entries, x.2.state = .opening ∨ x.2.state = .tracked ∨ x.2.state = .held →
        reached (pitched.motion.h + 1) (decisionPosition x.2 pitched) = false) ∧
      pitched.engine.state = .running ∧ pitched.channels[4].config.mode = .perPitch) ∧
    canAdvance (inState .draining pitched) = true ∧
    (∀ k ∈ [127, 128], canAdvance (crowded k pitched) = true ∧ (crowded k pitched).schedule.length = k ∧
      actionsQuietAt 1001 (crowded k pitched) = true ∧ entriesQuietAt 1001 (crowded k pitched) = true ∧
      lanesQuietAt 1001 (crowded k pitched) = true ∧ attemptDue (crowded k pitched) = false) := by
  and_intros <;> decide +kernel

theorem witness_GapEndsAtItsPosition :
    let gap (minGap : Half) : State :=
      lane0Is { Detector.reset with state := .gap, gap := some { trailing := 1000, minGap := minGap } } line
    (canAdvance (gap 1) = true ∧ (gap 1).motion.h + 1 ≠ (gap 1).motion.m ∧ (detectorOf 0 (gap 1)).state ≠ .covered ∧
      (detectorOf 0 (after (.advance []) (gap 1))).state = .clear) ∧
    (detectorOf 0 (after (.advance []) (gap 2))).state = .gap ∧
    (let s := lane0Is { Detector.reset with state := .gap, gap := some { trailing := 1000, minGap := 1 } } atMark
     canAdvance s = true ∧ s.motion.h + 1 = s.motion.m ∧ attemptDue s = true ∧
       s.epochUnit.shadow.lanes[0].activeHigh = (currentBank s).lanes[0].activeHigh ∧
       (detectorOf 0 (after (.advance []) s)).state = .clear) := by and_intros <;> decide

/-- An item one count beyond its max length of 200 at the advance, and one that is not. -/
theorem sound_overlength :
    LineSound (holding (opening 800) line) ∧ LineSound (holding (opening 801) line) ∧
      LineSound (holding (opening 800) atMark) := by
  refine ⟨?_, ?_, ?_⟩ <;> constructor <;> decide

theorem witness_OverlengthIsConfirmedWithAForcedVerdict :
    let long := holding (opening 800) line
    let short := holding (opening 801) line
    (canAdvance long = true ∧ long.motion.h + 1 ≠ long.motion.m ∧ (5, opening 800) ∈ long.table.entries ∧
      reached (long.motion.h + 1) (decisionPosition (opening 800) long) = false ∧
      (laneProfileOf (opening 800) long).maxLength.toNat < (long.motion.h + 1 - (opening 800).leading).toNat) ∧
    (canAdvance short = true ∧ (5, opening 801) ∈ short.table.entries ∧
      reached (short.motion.h + 1) (decisionPosition (opening 801) short) = false ∧
      (short.motion.h + 1 - (opening 801).leading).toNat ≤ (laneProfileOf (opening 801) short).maxLength.toNat) ∧
    (let s := holding (opening 800) atMark
     canAdvance s = true ∧ s.motion.h + 1 = s.motion.m ∧ attemptDue s = true ∧
       s.epochUnit.shadow.lanes[0].activeHigh = (currentBank s).lanes[0].activeHigh) := by
  and_intros <;> decide

/-- The decision position at the advance is 1001 for the leading position 745, and not reached for 746. -/
theorem sound_decision :
    LineSound (holding (confirmed .tracked none 745) line) ∧ LineSound (holding (confirmed .held (host 2) 746) line) := by
  constructor <;> constructor <;> decide

theorem witness_DecisionSettlesTheVerdict :
    let e := confirmed .tracked none 745
    let f := confirmed .held (host 2) 746
    let s := holding e line
    let u := holding f line
    (canAdvance s = true ∧ (5, e) ∈ s.table.entries ∧ e.state = .tracked ∧
      reached (s.motion.h + 1) (exitPosition e s) = false ∧ reached (s.motion.h + 1) (decisionPosition e s) = true) ∧
    (canAdvance u = true ∧ (5, f) ∈ u.table.entries ∧ f.state = .held ∧
      reached (u.motion.h + 1) (exitPosition f u) = false ∧ reached (u.motion.h + 1) (decisionPosition f u) = false) := by
  and_intros <;> decide

/-- CH4 of section 3.10 serving lane 0, with a decision due. -/
def jetDue : State := holding (confirmed .held (host 2) 745) (channel4 .verdict .counts jet line)

theorem sound_jetDue : LineSound jetDue := by constructor <;> decide

theorem sound_jetDue_full : LineSound (crowded 127 jetDue) ∧ LineSound (crowded 128 jetDue) := by
  constructor <;> constructor <;> decide +kernel

theorem witness_DecisionPlacesTheVerdictActions :
    let e := confirmed .held (host 2) 745
    canAdvance jetDue = true ∧ (5, e) ∈ jetDue.table.entries ∧
      reached (jetDue.motion.h + 1) (exitPosition e jetDue) = false ∧
      reached (jetDue.motion.h + 1) (decisionPosition e jetDue) = true ∧ jetDue.schedule.length ≤ 112 ∧
      (∀ x ∈ jetDue.table.entries, x.1 ≠ 5 → x.2.state = .opening ∨ x.2.state = .tracked ∨ x.2.state = .held →
        reached (jetDue.motion.h + 1) (decisionPosition x.2 jetDue) = false) ∧
      jetDue.channels[4].config.mode = .verdict ∧ jetDue.channels[4].config.lane = e.lane ∧
      ((bankOf e.bank jetDue).channels[4]).classMask.getLsbD 2 = true ∧
      ((bankOf e.bank jetDue).channels[4]).classMask.getLsbD 0 = false ∧ jetDue.motion.h + 1 ≠ jetDue.motion.m ∧
      actionsQuietAt 1001 (crowded 128 jetDue) = true ∧ (crowded 128 jetDue).schedule.length = 128 ∧
      (∀ x ∈ jetDue.table.entries, x.2.state ≠ .scheduled) := by and_intros <;> decide +kernel

/-- An exit position of 1001. -/
def leavingNow : State := holding (confirmed .scheduled (host 2) (1001 - 4096)) line

theorem sound_leavingNow : LineSound leavingNow ∧ LineSound (fifoOf 0 7 leavingNow) := by
  constructor <;> constructor <;> decide

/-- An entry confirmed so late that its decision and its exit are both reached, and an exit at a mark with a commit attempt. -/
def leavingLate : State := holding (confirmed .tracked none (1001 - 4096)) (channel4 .verdict .counts jet line)

def leavingAtMark : State := holding (confirmed .scheduled (host 2) (1001 - 4096)) atMark

theorem sound_leavingLate : LineSound leavingLate ∧ LineSound leavingAtMark := by
  constructor <;> constructor <;> decide

theorem witness_ExitRetiresTheEntry :
    let e := confirmed .scheduled (host 2) (1001 - 4096)
    canAdvance leavingNow = true ∧ leavingNow.motion.h + 1 ≠ leavingNow.motion.m ∧ (5, e) ∈ leavingNow.table.entries ∧
      e.state = .scheduled ∧ reached (leavingNow.motion.h + 1) (exitPosition e leavingNow) = true ∧
      (fifoOf 0 7 leavingNow).verdicts.fifo ≠ [] ∧ leavingNow.verdicts.fifo = [] ∧
      (let e := confirmed .tracked none (1001 - 4096)
       canAdvance leavingLate = true ∧ (5, e) ∈ leavingLate.table.entries ∧
         reached (leavingLate.motion.h + 1) (decisionPosition e leavingLate) = true ∧
         reached (leavingLate.motion.h + 1) (exitPosition e leavingLate) = true ∧ leavingLate.schedule.length ≤ 112 ∧
         leavingLate.channels[4].config.mode = .verdict ∧ leavingLate.channels[4].config.lane = e.lane ∧
         ((bankOf e.bank leavingLate).channels[4]).classMask.getLsbD 1 = true) ∧
      canAdvance leavingAtMark = true ∧ leavingAtMark.motion.h + 1 = leavingAtMark.motion.m ∧
      attemptDue leavingAtMark = true ∧
      (∀ l : Lane, leavingAtMark.epochUnit.shadow.lanes[l].activeHigh = (currentBank leavingAtMark).lanes[l].activeHigh) := by
  and_intros <;> decide

/-- One action of channel 4 due at 1001, with the channel in a state and other actions. -/
def meeting (a : Action) (c : ChannelState) (others : List Action) : State :=
  scheduled (a :: others) (channel4In c (channel4 .perPitch .counts ChannelProfile.defaults line))

/-- A due action on an IDLE channel; a JOIN and a REFUSE one on an ACTIVE channel; both in RECOVERY; and three that fall due
together on an IDLE channel. -/
def meetings : List (List Action × State) :=
  let join := act none 1001 10 .join (.pending false)
  let refuse := act none 1001 10 .refuse (.pending false)
  let wide := act none 1001 20 .join (.pending false)
  let driving := act none 990 15 .refuse (.active (.position 1005))
  [([refuse], meeting refuse .idle []), ([join], meeting join .active [driving]),
   ([refuse], meeting refuse .active [driving]), ([join, refuse], meeting join (.recovery 50) [refuse]),
   ([join, refuse, wide], meeting join .idle [refuse, wide])]

theorem sound_meetings : ∀ x ∈ meetings, LineSound x.2 := by
  simp only [meetings, List.forall_mem_cons, List.not_mem_nil, false_imp_iff, implies_true, and_true]
  and_intros <;> constructor <;> decide +kernel

theorem witness_DueActionMeetsItsChannel :
    ∀ x ∈ meetings, canAdvance x.2 = true ∧ x.2.motion.h + 1 ≠ x.2.motion.m ∧
      x.2.schedule.filter (dueOn 4 (x.2.motion.h + 1)) = x.1 ∧ x.1 ≠ [] := by decide

/-- Table 6-2: with a leading position of 20000, leads of 300 and 1000 and speeds of 1024 and 900 the starts are 21200, 20622
and, late, 20601. Table 7-8: the JOIN newcomer of width 60 at 30040 extends the end from 30060 to 30100. -/
theorem test_advance_channels :
    (let at20600 (lead speed : Half) : State :=
      after (.advance []) (holding (confirmed .held (host 2) 20000)
        (let s := withBank (lane0 fun p => { p with decisionOffset := 600 })
          (channel4 .verdict .counts { jet with lead := lead } (runAt 20599 20600 30000))
         { s with motion := { s.motion with speed := speed } }))
     (at20600 300 1024).schedule.map (·.start) = [21200] ∧ (at20600 1000 900).schedule.map (·.start) = [20622] ∧
       (at20600 1000 1024).schedule.map (·.start) = [20601]) ∧
    (let t := after (.advance []) (scheduled
       [act none 30000 60 .refuse (.active (.position 30060)), act none 30040 60 .join (.pending false)]
       (channel4In .active (channel4 .perPitch .counts ChannelProfile.defaults (runAt 30039 30040 40000))))
     t.schedule.map (·.state) = [.active (.position 30100)]) := by decide

/-- A COUNTS pulse that ends at 1001, and one that ends at 1002. -/
def pulses : List Action :=
  [act none 990 11 .refuse (.active (.position 1001)), act none 990 12 .refuse (.active (.position 1002))]

theorem sound_pulses : ∀ a ∈ pulses, LineSound (meeting a .active []) := by
  simp only [pulses, List.forall_mem_cons, List.not_mem_nil, false_imp_iff, implies_true, and_true]
  and_intros <;> constructor <;> decide +kernel

theorem witness_CountsPulseEndsAtItsPosition :
    ∀ a ∈ pulses, canAdvance (meeting a .active []) = true ∧
      (meeting a .active []).schedule.filter (dueOn 4 1001) = [] ∧ activeAction 4 (meeting a .active []) = some a := by
  decide

/-! #### The channels' and the detectors' own events -/

theorem witness_MicrosecondsPulseEndsAtItsTime :
    (activeAction 4 timed).map (·.state) = some (.active (.time 500)) ∧ line.schedule = [] := by decide

theorem sound_waitingTwo : LineSound waitingTwo := by constructor <;> decide +kernel

theorem witness_RecoveryExpiryTakesBackDeferredActions :
    (waitingTwo.channels[4].state = .recovery 100 ∧ waitingTwo.engine.state = .running ∧
      (waitingTwo.schedule.filter (deferredOn 4)).length = 2) ∧
    (let s := inState .frozen waitingTwo
     s.channels[4].state = .recovery 100 ∧ s.engine.state ≠ .running ∧ s.engine.state ≠ .draining) ∧
    line.channels[4].state = .idle ∧ timed.channels[4].state = .active := by and_intros <;> decide

theorem witness_RawInputChangeMakesOrDropsThePendingEdge :
    let s := section28 line
    (drainOpen s = true ∧ s.det[0] ≠ true ∧ s.det[0] = false ∧ (detectorOf 0 s).edge = none ∧
      (s.detectors.enabled.getLsbD 0 && decide (s.engine.state = .running ∨ s.engine.state = .draining)) = true ∧
      (currentBank s).lanes[0].debounce ≠ 0) ∧
    (drainOpen (edgeAt 990 false s) = true ∧ (detectorOf 0 (edgeAt 990 false s)).edge ≠ none) ∧
    drainOpen State.reset = true ∧ State.reset.engine.state = .stopped := by and_intros <;> decide

theorem witness_ZeroDebounceTakesTheEdgeAtOnce :
    line.det[0] ≠ true ∧ laneEnabled 0 line = true ∧ tracking line = true ∧ (detectorOf 0 line).edge = none ∧
      (currentBank line).lanes[0].debounce = 0 := by decide

theorem witness_LeadingEdgeOpensAnEntry :
    let s := edgeAt 990 false line
    s.engine.state = .running ∧ (detectorOf 0 s).edge = some { latched := 990, expires := 3, inGap := false } ∧
      (detectorOf 0 s).state = .clear ∧ entryAt 0 s = none := by decide

/-- Channel 4 PER_ITEM of lane 0, and a leading edge at 990. -/
theorem witness_OpeningPlacesThePerItemActions :
    let s := edgeAt 990 false (channel4 .perItem .counts { jet with offset := 11 } line)
    s.engine.state = .running ∧ (detectorOf 0 s).edge = some { latched := 990, expires := 3, inGap := false } ∧
      (detectorOf 0 s).state = .clear ∧ s.schedule.length ≤ 112 ∧ lowestFreeSlot s.table.entries = some 0 ∧
      s.channels[4].config.mode = .perItem ∧ s.channels[4].config.lane = 0 ∧ (crowded 127 s).schedule.length = 127 ∧
      128 ≤ (crowded 128 s).schedule.length := by decide +kernel

/-- R111: a start at 1001 is placed there; one at 1000, which H has reached, is placed at 1001 with LATE_START. -/
theorem test_debounceExpiry_perItem :
    let opened (offset : Word) : State :=
      after (.debounceExpiry 0) (edgeAt 990 false (channel4 .perItem .counts { jet with offset := offset } line))
    ((opened 11).schedule.map (·.start), (entryAt 0 (opened 11)).map (·.flags.lateStart)) = ([1001], some false) ∧
    ((opened 10).schedule.map (·.start), (entryAt 0 (opened 10)).map (·.flags.lateStart)) = ([1001], some true) := by
  decide

/-- Every slot holds an entry. -/
def fullTable (s : State) : State :=
  { s with table := { s.table with entries := (List.finRange 256).map fun k => (k, opening 900) } }

theorem fullTable_has_no_free_slot (s : State) (k : Slot) : entryAt k (fullTable s) ≠ none := by
  intro h
  exact (findEntry_eq_none_iff k _).1 h _ (List.mem_map.2 ⟨k, List.mem_finRange k, rfl⟩)

theorem witness_LeadingEdgeIsRefused :
    (let s := edgeAt 990 true line
     tracking s = true ∧ drainOpen s = true ∧ (detectorOf 0 s).edge = some { latched := 990, expires := 3, inGap := true } ∧
       (detectorOf 0 s).state = .clear) ∧
    (let s := inState .draining (holding (confirmed .tracked none 800) (edgeAt 990 false line))
     tracking s = true ∧ drainOpen s = true ∧ s.engine.state = .draining ∧
       (detectorOf 0 s).edge = some { latched := 990, expires := 3, inGap := false } ∧ (detectorOf 0 s).state = .clear) ∧
    (let s := fullTable (edgeAt 990 false line)
     tracking s = true ∧ s.engine.state = .running ∧ (detectorOf 0 s).state = .clear) ∧
    drainOpen (fullTable (edgeAt 990 false line)) = true ∧
    ∀ k : Slot, entryAt k (fullTable (edgeAt 990 false line)) ≠ none :=
  ⟨by decide, by decide, by decide, rfl, fullTable_has_no_free_slot _⟩

/-- The boundary of min length 40: a length of 39 is short, and one of 40 is not. -/
theorem witness_trailing_edges :
    let s (latched : Word) : State := edgeAt latched false (holding (opening 900) (section28 line))
    (TableSound (s 939) ∧ tracking (s 939) = true ∧
      (detectorOf 0 (s 939)).edge = some { latched := 939, expires := 3, inGap := false } ∧
      (detectorOf 0 (s 939)).state = .covered ∧ (5, opening 900) ∈ (s 939).table.entries ∧
      ((939 : Word) - (opening 900).leading).toNat < (laneProfileOf (opening 900) (s 939)).minLength.toNat) ∧
    (TableSound (s 940) ∧ tracking (s 940) = true ∧
      (detectorOf 0 (s 940)).edge = some { latched := 940, expires := 3, inGap := false } ∧
      (laneProfileOf (opening 900) (s 940)).minLength.toNat ≤ ((940 : Word) - (opening 900).leading).toNat) := by
  and_intros <;> decide

theorem witness_TrailingEdgeInBlockedOpensAGap :
    let s := edgeAt 990 false (lane0Is { Detector.reset with state := .blocked } line)
    tracking s = true ∧ drainOpen s = true ∧
      (detectorOf 0 s).edge = some { latched := 990, expires := 3, inGap := false } ∧ (detectorOf 0 s).state = .blocked := by
  decide

/-! #### The engine and its commands -/

/-- A fault report is on its way. -/
def faulty (s : State) : State :=
  { s with motion := { s.motion with reports := [{ cause := .encoderPhase, p := 1, h := 2 }] } }

theorem witness_FaultReportIsTakenByTheEngine :
    line.motion.reports = [] ∧
    ((faulty State.reset).motion.reports ≠ [] ∧ (faulty State.reset).engine.state = .stopped) ∧
    (faulty (frozenFrom .running line)).engine.state = .frozen ∧
    (ChannelsSound (faulty waitingTwo) ∧ tracking (faulty waitingTwo) = true ∧ (faulty waitingTwo).motion.reports ≠ []) := by
  and_intros <;> decide

theorem witness_StopAndDrainCompletionEndTheRun :
    (State.reset.window.takesWrite 0x0004 = true ∧ State.reset.engine.state ≠ .running) ∧
    (let s := holding (opening 900) line
     s.window.takesWrite 0x0004 = true ∧ s.engine.state = .running ∧ ∃ x ∈ s.table.entries, x.2.state ≠ .done) ∧
    (let s := waiting line
     s.window.takesWrite 0x0004 = true ∧ s.engine.state = .running ∧ (∀ x ∈ s.table.entries, x.2.state = .done) ∧
       s.schedule = []) ∧
    (let s := inState .draining (waiting line)
     s.engine.state = .draining ∧ (∀ x ∈ s.table.entries, x.2.state = .done) ∧ s.schedule = []) ∧
    (inState .draining waitingTwo).schedule ≠ [] := by and_intros <;> decide

theorem witness_StartAndResumeAreRefused :
    (line.window.takesWrite 0x0004 = true ∧ line.engine.state ≠ .stopped) ∧
    (let s := staged 15 State.reset
     s.window.takesWrite 0x0004 = true ∧ s.engine.state = .stopped ∧ attemptDue s = true ∧
       validate s.epochUnit.shadow s = some { number := 1, index := 0 }) ∧
    (let s := withBank (fun p => { p with pitch := 15 }) State.reset
     s.window.takesWrite 0x0004 = true ∧ s.engine.state = .stopped ∧ attemptDue s = false ∧
       validate (currentBank s) s = some { number := 1, index := 0 }) ∧
    (let s := frozenFrom .running (runAt 1000 1009 2000)
     s.window.takesWrite 0x0004 = true ∧ s.engine.state = .frozen ∧
       s.motion.backlash.toNat < (s.motion.p - s.motion.h).toNat ∧
       s.motion.backlash.toNat < (s.motion.h - s.motion.p).toNat) := by and_intros <;> decide

theorem witness_StartBeginsTheRun :
    (State.reset.window.takesWrite 0x0004 = true ∧ State.reset.engine.state = .stopped ∧
      attemptDue State.reset = false ∧ validate (currentBank State.reset) State.reset = none) ∧
    (let s := staged 16 State.reset
     attemptDue s = true ∧ validate s.epochUnit.shadow s = none) := by and_intros <;> decide

/-- FROZEN with P at the edge of the allowance, in each direction. -/
theorem sound_frozen :
    LineSound (frozenFrom .running (runAt 1000 1008 2000)) ∧ LineSound (frozenFrom .draining (runAt 1000 992 2000)) := by
  constructor <;> constructor <;> decide

/-- FROZEN with the input of lane 0 at its active level: with a debounce of 0 the resample takes the edge at once. -/
def seeing (e : EngineState) : State := frozenFrom e { runAt 1000 1008 2000 with det := State.reset.det.set 0 true }

theorem sound_seeing : LineSound (seeing .running) ∧ LineSound (seeing .draining) := by
  constructor <;> constructor <;> decide

theorem witness_ResumeReturnsToTheFrozenFromState :
    (let s := frozenFrom .running (runAt 1000 1008 2000)
     s.window.takesWrite 0x0004 = true ∧ s.engine.state = .frozen ∧ s.engine.frozenFrom = some .running ∧
       (s.motion.p - s.motion.h).toNat ≤ s.motion.backlash.toNat) ∧
    (let s := frozenFrom .draining (runAt 1000 992 2000)
     s.engine.frozenFrom = some .draining ∧ (s.motion.h - s.motion.p).toNat ≤ s.motion.backlash.toNat) ∧
    (let s := withBank (fun p => { p with lanes := mapAll p.lanes fun x => { x with debounce := 20 } })
      (frozenFrom .running (runAt 1000 1008 2000))
     ∀ l : Lane, (currentBank s).lanes[l].debounce ≠ 0) ∧
    (∀ e ∈ [EngineState.running, .draining], (seeing e).schedule = [] ∧
      (allLanes.filter fun l => (seeing e).det[l] = (currentBank (seeing e)).lanes[l].activeHigh) = [0] ∧
      (currentBank (seeing e)).lanes[0].debounce = 0 ∧ (detectorOf 0 (seeing e)).state = .clear) := by
  and_intros <;> decide

theorem witness_FlushEmptiesTheLine :
    (State.reset.window.takesWrite 0x0004 = true ∧ State.reset.engine.state = .stopped) ∧
    LineSound (holding (confirmed .held (host 2) 746) line) ∧
    (holding (confirmed .held (host 2) 746) line).window.takesWrite 0x0004 = true ∧
    (holding (confirmed .held (host 2) 746) line).engine.state ≠ .stopped ∧
    LineSound (fifoOf 0 7 leavingNow) ∧ (fifoOf 0 7 leavingNow).verdicts.fifo ≠ [] := by
  refine ⟨by decide, sound_decision.2, by decide, by decide, sound_leavingNow.2, by decide⟩

theorem witness_CommitNowIsSettledInOrder :
    line.engine.state ≠ .stopped ∧
    (let s := { State.reset with epochUnit := { State.reset.epochUnit with hold := true } }
     s.window.takesWrite 0x0004 = true ∧ s.engine.state = .stopped ∧ s.epochUnit.hold = true) ∧
    (State.reset.epochUnit.hold = false ∧ State.reset.epochUnit.pending = false) ∧
    (let s := staged 15 State.reset
     s.epochUnit.hold = false ∧ s.epochUnit.pending = true ∧
       validate s.epochUnit.shadow s = some { number := 1, index := 0 }) ∧
    (let s := staged 1048575 State.reset
     s.epochUnit.pending = true ∧ validate s.epochUnit.shadow s = none) := by and_intros <;> decide

/-! #### Verdicts and reports -/

theorem witness_ClassBytePushesARecord :
    (line.window.takesWrite 0x0503 = true ∧ (7 : Byte).toNat ≤ 7 ∧ line.verdicts.fifo.length < 16) ∧
    (let s := { line with verdicts := { line.verdicts with fifo := List.replicate 16 { lane := 0, tag := 0, cls := 0 } } }
     s.window.takesWrite 0x0503 = true ∧ 16 ≤ s.verdicts.fifo.length) ∧ 7 < (8 : Byte).toNat ∧
    line.window.takesWrite 0x0500 = true ∧ line.window.takesWrite 0x0501 = true ∧ line.window.takesWrite 0x0502 = true := by
  and_intros <;> decide

/-- A record for lane 0 and tag 7, whose entry has each kind of verdict in turn. -/
def answering (state : EntryState) (v : Option Verdict) : State := fifoOf 0 7 (holding (confirmed state v 800) line)

theorem witness_VerdictRecordIsSettledByItsEntry :
    (∀ x ∈ [(EntryState.tracked, none), (.scheduled, some { cls := 1, source := VerdictSource.laneDefault }), (.done, none),
        (.held, host 2), (.held, some { cls := 1, source := VerdictSource.forced })],
      TableSound (answering x.1 x.2) ∧ EntriesSound (answering x.1 x.2) ∧ (answering x.1 x.2).verdicts.fifo ≠ [] ∧
        (5, confirmed x.1 x.2 800) ∈ (answering x.1 x.2).table.entries) ∧
    (TableSound (fifoOf 4 7 line) ∧ EntriesSound (fifoOf 4 7 line)) ∧ line.verdicts.fifo = [] ∧
    (TableSound (fifoOf 4 7 (waiting line)) ∧ EntriesSound (fifoOf 4 7 (waiting line))) := by
  refine ⟨?_, by decide, by decide, by decide⟩
  simp only [List.forall_mem_cons, List.not_mem_nil, false_imp_iff, implies_true, and_true]
  and_intros <;> decide

theorem witness_VerdictExceptionCountFollowsTheResults :
    exec .verdictTake (fifoOf 4 7 line) = .next (after .verdictTake (fifoOf 4 7 line)) ∧
    (fifoOf 4 7 line).verdicts.fifo = [{ lane := 4, tag := 7, cls := 2 }] ∧
    namedEntry { lane := 4, tag := 7, cls := 2 } (fifoOf 4 7 line) = none ∧
    (namedEntry { lane := 0, tag := 7, cls := 2 } (answering .tracked none)).map (fun x => x.2.state) = some .tracked ∧
    (inFrame false 0x0507 line).window.takesWrite 0x0507 = true ∧ line.window.takesRead 0x0506 = true :=
  ⟨rfl, by decide, by decide, by decide, by decide, by decide⟩

set_option maxRecDepth 4000 in
theorem witness_PopAndOutcomePostServeTheQueue :
    (line.window.takesWrite 0x0004 = true ∧ line.queue.records = []) ∧
    ((fullQueue line).queue.records ≠ [] ∧ (fullQueue line).table.doneList = []) ∧
    (let s := fullQueue (waiting line)
     s.queue.records.tail.length = 63 ∧ s.table.doneList = [5] ∧
       entryAt 5 s = some (confirmed .done (host 2) 600) ∧ 64 ≤ s.queue.records.length) ∧
    ((waiting line).queue.records.length < 64 ∧ (waiting line).table.doneList.Nodup) ∧
    List.Forall₂ (fun (slot : Slot) (x : Slot × Entry) => x.1 = slot ∧ entryAt slot (waiting line) = some x.2)
      (waiting line).table.doneList [(5, confirmed .done (host 2) 600)] :=
  ⟨by decide, by decide, by decide, by decide, .cons ⟨rfl, by decide⟩ .nil⟩

/-! #### The register window -/

theorem witness_FrameWalksThroughItsStates :
    (line.window.csn = true ∧ line.window.frame ≠ .control) ∧
    ((after .frameBegin line).window.csn = false ∧ (after .frameBegin line).window.frame = .control) ∧
    ((inFrame true 0x0100 line).window.csn = false ∧ (∀ m, (inFrame true 0x0100 line).window.frame ≠ .addressHigh m) ∧
      ∀ m high, (inFrame true 0x0100 line).window.frame ≠ .addressLow m high) ∧
    ((0xC0 : Byte).toNat % 64 = 0 ∧ (0xC1 : Byte).toNat % 64 ≠ 0) ∧
    (let t := after (.controlByte 0x80) (after .frameBegin line)
     t.window.frame = .addressHigh { read := true, increment := false } ∧
       (after (.addressByte 0x01) t).window.frame = .addressLow { read := true, increment := false } 0x01) ∧
    (after (.addressByte 0x02) (after (.controlByte 0x00) (after .frameBegin line))).window.frame =
      .addressLow { read := false, increment := false } 0x02 := by
  refine ⟨by decide, by decide, ⟨by decide, nofun, nofun⟩, by decide, by decide, by decide⟩

theorem witness_EveryWriteIsADataByte :
    (Instr.flush).byteWritten = some (0x0004, 4) ∧ (Instr.registerWrite 0xFFFF 1).byteWritten = some (0xFFFF, 1) ∧
      (inFrame true 0x0004 line).window.takesWrite 0x0004 = false ∧
      (inFrame false 0x0005 line).window.takesWrite 0x0004 = false := by decide

theorem witness_RefusedWriteChangesNothingElse :
    (line.window.takesWrite 0x0004 = true ∧ accessClass (target 0x0000) = .readOnly ∧
      accessClass (target 0x0610) = .readOnly ∧ accessClass (target 0x0612) = .readOnly) ∧
    (accessClass (target 0x0003) = .unmapped ∧ accessClass (target 0x0292) = .unmapped ∧
      accessClass (target 0xFFFF) = .unmapped) ∧ 7 < (8 : Byte).toNat := by decide

/-- The first and the last byte of the pitch, of a lane block and of a channel block. -/
theorem witness_StagedWriteLandsInTheShadowSet :
    (accessClass (target 0x020C) = .staged ∧ accessClass (target 0x020F) = .staged ∧ accessClass (target 0x0280) = .staged ∧
      accessClass (target 0x02F1) = .staged ∧ accessClass (target 0x0400) = .staged ∧
      accessClass (target 0x04FB) = .staged) ∧
    (inFrame false 0x04FB line).window.takesWrite 0x04FB = true ∧ line.window.takesWrite 0x020C = true := by
  and_intros <;> decide

theorem witness_LiveSettingsTakeTheirValues :
    line.window.takesWrite 0x0200 = true ∧ line.window.takesWrite 0x0201 = true ∧ line.window.takesWrite 0x0611 = true ∧
      line.window.takesWrite 0x0800 = true := by decide

theorem witness_StickyFlagsStayUntilTheHostClearsThem :
    (line.window.takesWrite (flagAddress .byte0) = true ∧ line.window.takesWrite (flagAddress .byte1) = true) ∧
    (exec .flush line = .next (after .flush line) ∧ stickySet .powerOn line = true ∧ issues .flush 6 line = false) :=
  ⟨by decide, rfl, by decide, by decide⟩

theorem witness_EnablesDriveIrqn :
    (line.window.takesWrite (enableAddress .byte0) = true ∧ line.window.takesWrite (enableAddress .byte1) = true) ∧
    (exec .frameBegin line = .next (after .frameBegin line) ∧ line.window.csn = true) ∧
    exec (.flagRegisterWrite .byte0 1) line = .next (after (.flagRegisterWrite .byte0 1) line) :=
  ⟨by decide, ⟨rfl, by decide⟩, rfl⟩

theorem witness_StoppedOnlyWritesTakeEffectInStopped :
    (accessClass (target 0x010C) = .stoppedOnly ∧ accessClass (target 0x010F) = .stoppedOnly ∧
      accessClass (target 0x0110) = .stoppedOnly ∧ accessClass (target 0x0300) = .stoppedOnly ∧
      accessClass (target 0x033F) = .stoppedOnly ∧ configAddress 15 .widthUnit = 0x033F) ∧
    (line.engine.state ≠ .stopped ∧ line.window.takesWrite 0x010C = true ∧ line.window.takesWrite 0x033F = true) ∧
    (State.reset.engine.state = .stopped ∧ State.reset.window.takesWrite 0x0110 = true ∧
      State.reset.window.takesWrite 0x033F = true ∧ State.reset.window.takesWrite 0x010F = true) := by
  and_intros <;> decide

theorem witness_ReadsTakeWholeSnapshots :
    line.window.takesRead 0x0100 = true ∧ (inFrame true 0x0103 line).window.takesRead 0x0104 = true ∧
      (inFrame false 0x0103 line).window.takesRead 0x0104 = false ∧ target 0x0100 = .quantity .p 0 ∧
      target 0x0004 = .command := by decide

/-! #### Rules of the whole part -/

theorem witness_EngineChangesStateOnlyAtItsEvents :
    exec .stop line = .next (after .stop line) ∧ (after .stop line).engine.state ≠ line.engine.state :=
  ⟨rfl, by decide⟩

theorem witness_ConfigurationChangesOnlyByItsRules :
    (exec (.laneEnableMaskWrite 1) line = .next (after (.laneEnableMaskWrite 1) line) ∧ line.engine.state ≠ .stopped) ∧
    exec (.advance []) atMark = .next (after (.advance []) atMark) ∧
    (after (.advance []) atMark).epochUnit.epoch ≠ atMark.epochUnit.epoch :=
  ⟨⟨rfl, by decide⟩, rfl, by decide⟩

set_option maxRecDepth 4000 in
theorem witness_RecordsLeaveOnlyAtTheHead :
    exec .pop (fullQueue line) = .next (after .pop (fullQueue line)) ∧ issues .pop 7 (fullQueue line) = true ∧
      issues .engineReset 6 line = true :=
  ⟨rfl, by decide, by decide⟩

theorem witness_NoConfirmedItemIsLost :
    TableSound leavingNow ∧ exec (.advance []) leavingNow = .next (after (.advance []) leavingNow) ∧
      entryAt 5 leavingNow = some (confirmed .scheduled (host 2) (1001 - 4096)) :=
  ⟨by decide, rfl, by decide⟩

theorem witness_EveryStepKeepsTheBounds :
    Bounded State.reset ∧ Bounded (fifoOf 4 7 (waiting line)) ∧ step State.reset = .next (idleStep State.reset) :=
  ⟨by decide, by decide, rfl⟩

theorem witness_EveryStepKeepsTheLineSound :
    LineSound jetDue ∧ step { jetDue with pending := [.advance []] } = exec (.advance []) { jetDue with pending := [] } :=
  ⟨sound_jetDue, rfl⟩

theorem witness_PinResetLeavesTheLineSound :
    exec (.pinReset InputLevels.atReset) line = .next (after (.pinReset InputLevels.atReset) line) := rfl

end Sys2Proof.Tests
end

section
/-! PROOFS. The encoder side of the motion unit (R2 to R7): which commands move the raw position P and the phase-error
count. First what each operation does to the motion unit and how the window takes a data byte; then the commands. -/

namespace Sys2Proof.Machine

variable (s : State)

/-! ### The encoder's samples -/

/-- R3: the other direction invert turns every count round, and makes or drops none. -/
theorem directedCount_not_invert (m : Motion) (sample : Phases) :
    directedCount { m with invert := !m.invert } sample = (directedCount m sample).map (!·) := by
  simp only [directedCount, Option.map_map]
  congr 1
  funext forward
  cases forward <;> cases m.invert <;> rfl

/-- A fault raised adds a report to those on their way, and nothing else. -/
theorem raiseFault_motion (cause : FaultCause) :
    (raiseFault cause s).motion = { s.motion with reports := (raiseFault cause s).motion.reports } := by
  unfold raiseFault
  split <;> rfl

theorem takeCount_motion (forward : Bool) :
    (takeCount forward s).motion = { s.motion with
      p := if forward then s.motion.p + 1 else s.motion.p - 1, reports := (takeCount forward s).motion.reports } := by
  cases forward with
  | true => rfl
  | false =>
    unfold takeCount
    simp only [Bool.false_eq_true, if_false]
    split
    · exact raiseFault_motion _ _
    · rfl

/-- R5: P after a count, some true forward and some false reverse. -/
def afterCount (p : Word) : Option Bool → Word
  | some true => p + 1
  | some false => p - 1
  | none => p

/-- R3: a count turned round moves P as far the other way. -/
theorem afterCount_not (p : Word) (count : Option Bool) :
    afterCount p (count.map (!·)) - p = p - afterCount p count := by
  cases count with
  | none => rfl
  | some forward => cases forward <;> simp [afterCount]

theorem afterCount_cases (p : Word) (count : Option Bool) :
    afterCount p count = p ∨ afterCount p count = p + 1 ∨ afterCount p count = p - 1 := by
  cases count with
  | none => exact .inl rfl
  | some forward => cases forward with
    | true => exact .inr (.inl rfl)
    | false => exact .inr (.inr rfl)

/-- R2, R5: a legal transition records its sample and moves P by its count. -/
theorem legalSample_motion (sample : Phases) :
    (legalSample sample s).motion = { s.motion with
      recorded := sample, p := afterCount s.motion.p (directedCount s.motion sample),
      reports := (legalSample sample s).motion.reports } := by
  unfold legalSample
  cases directedCount s.motion sample with
  | none => rfl
  | some forward => cases forward <;> exact takeCount_motion _ _

theorem legalSample_p (sample : Phases) :
    (legalSample sample s).motion.p = afterCount s.motion.p (directedCount s.motion sample) :=
  congrArg Motion.p (legalSample_motion s sample)

theorem legalSample_recorded (sample : Phases) : (legalSample sample s).motion.recorded = sample :=
  congrArg Motion.recorded (legalSample_motion s sample)

theorem legalSample_phaseErrors (sample : Phases) :
    (legalSample sample s).motion.phaseErrors = s.motion.phaseErrors := by
  rw [legalSample_motion]

/-- R6, R7: the whole effect of an illegal transition. -/
theorem illegalSample_eq (sample : Phases) :
    illegalSample sample s = { s with motion := { s.motion with
      recorded := sample, phaseErrors := satSucc s.motion.phaseErrors,
      reports := s.motion.reports ++
        if (satSucc s.motion.phaseErrors).toNat = s.motion.phaseLimit.toNat ∧ s.engine.state ≠ .stopped then
          [{ cause := .encoderPhase, p := s.motion.p, h := s.motion.h }] else [] } } := by
  unfold illegalSample raiseFault
  by_cases hlimit : (satSucc s.motion.phaseErrors).toNat = s.motion.phaseLimit.toNat <;>
    by_cases hstopped : s.engine.state = .stopped <;> simp [hlimit, hstopped]

theorem satSucc_byte (v : Byte) : satSucc v = if v = 255 then 255 else v + 1 := by
  unfold satSucc
  split <;> simp_all

/-! ### The motion unit in the work of an advance -/

theorem pitchMark_motion :
    (pitchMark s).motion = { s.motion with m := s.motion.m + (currentBank (commitAttempt s)).pitch } := by
  simp [pitchMark]

/-- The work that an advance gives to the blocks moves nothing of the motion unit but M, at the pitch mark (R17, R18). -/
theorem doWork_motion (fixed : Option (List Slot)) (w : AdvanceWork) :
    (doWork fixed w s).1.motion = { s.motion with m := (doWork fixed w s).1.motion.m } := by
  cases w with
  | mark =>
    simp only [doWork]
    split
    · exact pitchMark_motion s
    · rfl
  | _ => simp [doWork]

/-- An advance moves H and the window's count by one, and M where it takes the pitch mark (R9, R15, R18). -/
theorem advanceOnce_motion (first : List AdvanceWork) :
    (advanceOnce first s).motion = { s.motion with
      h := s.motion.h + 1, windowCount := satSucc s.motion.windowCount, m := (advanceOnce first s).motion.m } := by
  simp only [advanceOnce, settleDrain_motion, settlePosts_motion]
  refine runWork_keeps (fun t => t.motion = { s.motion with
    h := s.motion.h + 1, windowCount := satSucc s.motion.windowCount, m := t.motion.m }) ?_ _ _ _ _ _ rfl
  intro fixed w t _ ht
  rw [doWork_motion, ht]

/-! ### The motion unit under the commands of the command register -/

@[simp] theorem finishCommand_lastResult (code : Byte) (r : CommandResult) :
    (finishCommand code r s).engine.lastResult = r := by
  rw [finishCommand_eq]

theorem beginRun_motion (committing : Bool) :
    (beginRun committing s).motion = { s.motion with
      h := s.motion.p, m := (beginRun committing s).motion.m, phaseErrors := 0, reports := [] } := by
  cases committing <;> simp [beginRun]

/-- R147: an accepted START sets H to P and clears the phase-error count; a refused one leaves the motion unit alone. -/
theorem commandStart_motion :
    (commandStart s).motion =
      if (commandStart s).engine.lastResult = .accepted then
        { s.motion with h := s.motion.p, m := (commandStart s).motion.m, phaseErrors := 0, reports := [] }
      else s.motion := by
  unfold commandStart
  split
  · simp
  split <;> split
  · simpa using beginRun_motion s true
  · simp
  · simpa using beginRun_motion s false
  · simp

theorem resumeRun_motion (first : List Lane) :
    (resumeRun first s).motion = { s.motion with phaseErrors := 0 } := by
  simp only [resumeRun, completeDrain_motion]
  rw [foldl_field (fun s : State => s.motion) _ (fun s n => takeBack_motion s n),
    foldl_field (fun s : State => s.motion) _ (fun s l => resample_motion s l)]

/-- R152: an accepted RESUME clears the phase-error count, and a refused one leaves the motion unit alone. -/
theorem commandResume_motion (first : List Lane) :
    (commandResume first s).motion =
      if (commandResume first s).engine.lastResult = .accepted then { s.motion with phaseErrors := 0 }
      else s.motion := by
  unfold commandResume
  (repeat' split) <;> simp_all [resumeRun_motion]

theorem commandReset_motion :
    (commandReset s).motion =
      { s.motion with h := s.motion.p, m := s.motion.p + (currentBank s).pitch, phaseErrors := 0 } := rfl

/-- From s to t a byte of the command register has its effect on the encoder's counts: P stays, and the phase-error count
is cleared by ENGINE_RESET and by an accepted START or RESUME alone (R6). -/
def CountsAfterCommand (code : Byte) (s t : State) : Prop :=
  t.motion.p = s.motion.p ∧ t.motion.phaseErrors =
    if code = 6 ∨ ((code = 1 ∨ code = 3) ∧ t.engine.lastResult = .accepted) then 0 else s.motion.phaseErrors

theorem commandStart_counts : CountsAfterCommand 1 s (commandStart s) := by
  unfold CountsAfterCommand
  rw [commandStart_motion]
  split <;> simp [*]

theorem commandResume_counts (first : List Lane) : CountsAfterCommand 3 s (commandResume first s) := by
  unfold CountsAfterCommand
  rw [commandResume_motion]
  split <;> simp [*]

theorem CountsAfterCommand.of_motion_eq {code : Byte} {s t : State} (h : t.motion = s.motion)
    (h1 : code ≠ 1) (h3 : code ≠ 3) (h6 : code ≠ 6) : CountsAfterCommand code s t := by
  refine ⟨by rw [h], ?_⟩
  rw [if_neg (by tauto), h]

theorem writeCommand_counts (code : Byte) : CountsAfterCommand code s (writeCommand code s) := by
  unfold writeCommand
  split
  · subst code; exact commandStart_counts s
  split
  · exact .of_motion_eq (commandStop_motion s) ‹_› (by simp [*]) (by simp [*])
  split
  · subst code; exact commandResume_counts s []
  split
  · exact .of_motion_eq (commandFlush_motion s) ‹_› ‹_› (by simp [*])
  split
  · exact .of_motion_eq (commandCommit_motion s) ‹_› ‹_› (by simp [*])
  split
  · subst code; simp [CountsAfterCommand, commandReset_motion]
  split
  · exact .of_motion_eq (commandPop_motion s) ‹_› ‹_› ‹_›
  · exact .of_motion_eq (refuseAccess_motion s _) ‹_› ‹_› ‹_›

/-! ### The data bytes of the register window -/

/-- A written data byte gives a block what its effect gives it where the window takes it, and else leaves it alone. -/
theorem hostWrite_motion (a : Addr) (effect : State → State) :
    (hostWrite a effect s).motion = if s.window.takesWrite a then (effect s).motion else s.motion := by
  unfold hostWrite Window.takesWrite
  split <;> split <;> simp_all

theorem hostWrite_engine (a : Addr) (effect : State → State) :
    (hostWrite a effect s).engine = if s.window.takesWrite a then (effect s).engine else s.engine := by
  unfold hostWrite Window.takesWrite
  split <;> split <;> simp_all

/-- The snapshot that a read takes and the value that it reads do not depend on the frame. -/
theorem takeSnapshot_setFrame (t : Target) (f : Frame) :
    takeSnapshot t (setFrame f s) = setFrame f (takeSnapshot t s) := by
  unfold takeSnapshot
  split <;> rfl

theorem readTarget_setFrame (t : Target) (f : Frame) : readTarget t (setFrame f s) = readTarget t s := rfl

@[simp] theorem takeSnapshot_frame (t : Target) : (takeSnapshot t s).window.frame = s.window.frame := by
  unfold takeSnapshot
  split <;> rfl

/-- A read byte that the window takes puts its value out, after the snapshot that the read of it takes (R171, R174). -/
theorem hostRead_taken (a : Addr) (h : s.window.takesRead a = true) :
    hostRead a s = { takeSnapshot (target a) s with
      window := (takeSnapshot (target a) s).window.afterRead a (readTarget (target a) (takeSnapshot (target a) s)) } := by
  unfold Window.takesRead at h
  unfold hostRead Window.afterRead
  rw [takeSnapshot_frame]
  split at h
  · rename_i hframe
    simp [h, hframe, readAddress, takeSnapshot_setFrame, readTarget_setFrame]
  · rename_i hframe
    simp [h, hframe, readAddress]
  · contradiction

/-! ### The address map -/

theorem page00_eq_command {off : Nat} (h : page00 off = .command) : off = 0x04 := by
  simp [page00, ite_eq_iff] at h
  tauto

/-- No page but the first names the command register. -/
theorem laterPage_ne_command (off : Nat) :
    ∀ page ∈ [page01, page02, page03, page04, page05, page06, page07, page08], page off ≠ .command := by
  simp [page01, page02, page03, page04, page05, page06, page07, page08, ite_eq_iff]

/-- Only 0x0004 names the command register. -/
theorem target_eq_command {a : Addr} (h : target a = .command) : a = 0x0004 := by
  have hlater := laterPage_ne_command (a.toNat % 256)
  simp only [target] at h
  split_ifs at h with hpage
  · have hoff := page00_eq_command h
    apply BitVec.eq_of_toNat_eq
    change a.toNat = 4
    omega
  all_goals exact absurd h (hlater _ (by simp))

/-- Table 7-2: the address of a channel's configuration byte names that byte. -/
theorem target_configAddress (n : Channel) (which : ConfigByte) :
    target (configAddress n which) = .channelConfig n which := by
  cases which <;> revert n <;> decide

/-- R172: a write to a read-only address is refused. -/
theorem writeAddress_readOnly {a : Addr} (v : Byte) (h : accessClass (target a) = .readOnly) :
    writeAddress a v s = refuseAccess a s := by
  unfold writeAddress
  split <;> simp_all [accessClass]

/-- R4, R172: a byte written anywhere but at the command register sets the motion unit's settings, and moves nothing else
of it. -/
theorem writeAddress_motion {a : Addr} (v : Byte) (h : target a ≠ .command) :
    (writeAddress a v s).motion = { s.motion with
      decodeMode := (writeAddress a v s).motion.decodeMode, invert := (writeAddress a v s).motion.invert,
      backlash := (writeAddress a v s).motion.backlash, phaseLimit := (writeAddress a v s).motion.phaseLimit } := by
  unfold writeAddress
  cases htarget : target a with
  | command => contradiction
  | decodeMode => simp only [writeDecodeMode, stoppedOnly]; (repeat' split) <;> rfl
  | invert => simp only [writeInvert, stoppedOnly]; split <;> rfl
  | backlash => simp only [writeBacklash, stoppedOnly]; split <;> rfl
  | phaseLimit => simp only [writePhaseLimit, stoppedOnly]; (repeat' split) <;> rfl
  | _ => simp

/-- R172: the byte of a command's own row is the byte at its address; RESUME's own row also names the lanes that resample
first. -/
theorem exec_of_byteWritten {c : Instr} {a : Addr} {v : Byte} (h : c.byteWritten = some (a, v)) :
    exec c s = .next (hostWrite a (writeAddress a v) s) ∨
    ∃ first, c = .resume first ∧ a = 0x0004 ∧ v = 3 := by
  cases c with
  | resume first => cases h; exact .inr ⟨first, rfl, rfl, rfl⟩
  | flagRegisterWrite which value => cases h; cases which <;> exact .inl rfl
  | enableRegisterWrite which value => cases h; cases which <;> exact .inl rfl
  | channelConfigurationWrite n which value =>
    cases h
    have heffect : writeAddress (configAddress n which) v = writeConfig n which v := by
      funext s
      rw [writeAddress, target_configAddress]
    rw [heffect]
    exact .inl rfl
  | _ => cases h <;> exact .inl rfl

end Sys2Proof.Machine

namespace Sys2Proof.Machine

variable {c : Instr} {s t : State}

/-! ### Which commands move P and the phase-error count -/

/-- A command issues a code exactly as the byte of that code at 0x0004, where the window takes it. -/
theorem issues_iff {a : Addr} {v : Byte} (hbyte : c.byteWritten = some (a, v)) (code : Byte) :
    issues c code s = true ↔ (a = 0x0004 ∧ v = code) ∧ s.window.takesWrite a = true := by
  simp only [issues, hbyte, Bool.and_eq_true, decide_eq_true_eq, Option.some.injEq, Prod.mk.injEq]
  refine and_congr_right fun h => ?_
  rw [h.1]

theorem issues_eq_false (hbyte : c.byteWritten = none) (code : Byte) : issues c code s = false := by
  simp [issues, hbyte]

/-- From s to t the command is one of those that clear the phase-error count (R6). -/
def ClearsPhaseErrors (c : Instr) (s t : State) : Prop :=
  issues c 6 s = true ∨ ((issues c 1 s = true ∨ issues c 3 s = true) ∧ t.engine.lastResult = .accepted)

theorem clearsPhaseErrors_iff {a : Addr} {v : Byte} (hbyte : c.byteWritten = some (a, v)) :
    ClearsPhaseErrors c s t ↔ a = 0x0004 ∧ s.window.takesWrite a = true ∧
      (v = 6 ∨ ((v = 1 ∨ v = 3) ∧ t.engine.lastResult = .accepted)) := by
  simp only [ClearsPhaseErrors, issues_iff hbyte]
  tauto

/-- A command that is no data byte clears nothing. -/
theorem not_clearsPhaseErrors (hbyte : c.byteWritten = none) : ¬ ClearsPhaseErrors c s t := by
  simp [ClearsPhaseErrors, issues_eq_false hbyte]

/-- What a data byte does where the window takes it: the command register has the effect of its code, and no other address
moves the encoder's counts. -/
theorem exec_write_effect {a : Addr} {v : Byte} (hbyte : c.byteWritten = some (a, v)) :
    ∃ effect, exec c s = .next (hostWrite a effect s) ∧
      (a = 0x0004 → CountsAfterCommand v s (effect s)) ∧
      (a ≠ 0x0004 → (effect s).motion.p = s.motion.p ∧ (effect s).motion.phaseErrors = s.motion.phaseErrors) := by
  rcases exec_of_byteWritten s hbyte with hexec | ⟨first, rfl, rfl, rfl⟩
  · refine ⟨_, hexec, fun ha => ?_, fun ha => ?_⟩
    · subst ha
      exact writeCommand_counts s v
    · rw [writeAddress_motion s v (mt target_eq_command ha)]
      exact ⟨rfl, rfl⟩
  · exact ⟨_, rfl, fun _ => commandResume_counts s first, fun ha => absurd rfl ha⟩

/-- A data byte never moves P, and moves the phase-error count only where it clears it. -/
theorem exec_write_counts {a : Addr} {v : Byte} (hbyte : c.byteWritten = some (a, v)) (h : exec c s = .next t) :
    t.motion.p = s.motion.p ∧
    (ClearsPhaseErrors c s t → t.motion.phaseErrors = 0) ∧
    (¬ ClearsPhaseErrors c s t → t.motion.phaseErrors = s.motion.phaseErrors) := by
  obtain ⟨effect, hexec, hregister, hother⟩ := exec_write_effect (s := s) hbyte
  obtain rfl : hostWrite a effect s = t := by simpa [hexec] using h
  rw [clearsPhaseErrors_iff hbyte]
  by_cases htaken : s.window.takesWrite a = true
  · rw [hostWrite_motion, hostWrite_engine, if_pos htaken, if_pos htaken]
    by_cases ha : a = 0x0004
    · obtain ⟨hp, herrors⟩ := hregister ha
      exact ⟨hp, fun ⟨_, _, hclears⟩ => herrors.trans (if_pos hclears),
        fun hkeeps => herrors.trans (if_neg fun hclears => hkeeps ⟨ha, htaken, hclears⟩)⟩
    · obtain ⟨hp, herrors⟩ := hother ha
      exact ⟨hp, fun hclears => absurd hclears.1 ha, fun _ => herrors⟩
  · rw [hostWrite_motion, if_neg htaken]
    exact ⟨rfl, fun hclears => absurd hclears.2.1 htaken, fun _ => rfl⟩

/-- No command but the data bytes, a pin reset and the encoder's transitions moves P or the phase-error count. -/
theorem exec_event_counts (hbyte : c.byteWritten = none) (hreset : ∀ levels, c ≠ .pinReset levels)
    (hlegal : ∀ phase, c ≠ .legalTransition phase) (hillegal : c ≠ .illegalTransition) (h : exec c s = .next t) :
    t.motion.p = s.motion.p ∧ t.motion.phaseErrors = s.motion.phaseErrors := by
  cases c with
  | pinReset levels => exact absurd rfl (hreset levels)
  | legalTransition phase => exact absurd rfl (hlegal phase)
  | illegalTransition => exact absurd rfl hillegal
  | advance first =>
    cases h
    split
    · rw [advanceOnce_motion]; exact ⟨rfl, rfl⟩
    · exact ⟨rfl, rfl⟩
  | microsecondsPulseEnd n => cases h; (repeat' split) <;> simp
  | recoveryExpiry n =>
    cases h
    split
    · simp only [expireRecovery]; split <;> simp
    · exact ⟨rfl, rfl⟩
  | speedWindowEnd => cases h; exact ⟨rfl, rfl⟩
  | rawInputChange l high => cases h; split <;> simp
  | debounceExpiry l => cases h; (repeat' split) <;> simp
  | faultReport => cases h; split <;> simp
  | verdictTake => cases h; simp
  | outcomePost => cases h; simp
  | drainComplete => cases h; simp
  | frameBegin => cases h; simp
  | controlByte value => cases h; simp
  | frameEnd => cases h; simp
  | snapshotRead addr => cases h; simp
  | addressByte value => cases h; simp
  | _ => cases hbyte

theorem exec_keeps_p (hreset : ∀ levels, c ≠ .pinReset levels) (hlegal : ∀ phase, c ≠ .legalTransition phase)
    (h : exec c s = .next t) : t.motion.p = s.motion.p := by
  by_cases hillegal : c = .illegalTransition
  · subst hillegal
    cases h
    rw [illegalSample_eq]
  · cases hbyte : c.byteWritten with
    | some byte => exact (exec_write_counts hbyte h).1
    | none => exact (exec_event_counts hbyte hreset hlegal hillegal h).1

theorem exec_clears_phaseErrors (hclears : ClearsPhaseErrors c s t) (h : exec c s = .next t) :
    t.motion.phaseErrors = 0 := by
  cases hbyte : c.byteWritten with
  | some byte => exact (exec_write_counts hbyte h).2.1 hclears
  | none => exact absurd hclears (not_clearsPhaseErrors hbyte)

theorem exec_keeps_phaseErrors (hillegal : c ≠ .illegalTransition) (hreset : ∀ levels, c ≠ .pinReset levels)
    (hkeeps : ¬ ClearsPhaseErrors c s t) (h : exec c s = .next t) : t.motion.phaseErrors = s.motion.phaseErrors := by
  by_cases hlegal : ∃ phase, c = .legalTransition phase
  · obtain ⟨phase, rfl⟩ := hlegal
    cases h
    exact legalSample_phaseErrors s _
  · cases hbyte : c.byteWritten with
    | some byte => exact (exec_write_counts hbyte h).2.2 hkeeps
    | none => exact (exec_event_counts hbyte hreset (not_exists.1 hlegal) hillegal h).2

/-! ### The read-only bytes -/

/-- R172: a write to a read-only address that the window takes is refused, and changes nothing else. -/
theorem exec_registerWrite_readOnly {a : Addr} (v : Byte) (hclass : accessClass (target a) = .readOnly)
    (htaken : s.window.takesWrite a = true) :
    exec (.registerWrite a v) s = .next { s with
      interrupts := { s.interrupts with sticky := s.interrupts.sticky ||| Flag.accessErr.bit },
      window := ({ s.window with lastRefused := a }).afterWrite } := by
  change Host.Outcome.next (hostWrite a (writeAddress a v) s) = _
  rw [hostWrite_taken s a _ htaken] <;> rw [writeAddress_readOnly s v hclass] <;> rfl

theorem exec_snapshotRead {a : Addr} (htaken : s.window.takesRead a = true) :
    exec (.snapshotRead a) s = .next { takeSnapshot (target a) s with
      window := (takeSnapshot (target a) s).window.afterRead a (readTarget (target a) (takeSnapshot (target a) s)) } :=
  congrArg _ (hostRead_taken s a htaken)

/-- Table 10-3: the bytes of P. -/
theorem target_p (k : Fin 4) : target (BitVec.ofNat 16 (0x0100 + k.val)) = .quantity .p k.val := by
  revert k; decide

theorem takeSnapshot_p (k : Nat) :
    takeSnapshot (.quantity .p k) s = { s with window := { s.window with snapshots := { s.window.snapshots with
      p := if k = 0 then s.motion.p else s.window.snapshots.p } } } := by
  cases k <;> rfl

/-! ### The obligations -/

/-- Settles O8: the invert turns round the count that `directedCount` gives (`directedCount_not_invert`), and an illegal
transition does not look at it. -/
theorem invertReversesEveryCount : Obligations.InvertReversesEveryCount := by
  intro phase s t u ht hu
  cases ht
  cases hu
  refine ⟨?_, ?_, ?_, ?_⟩
  · rw [legalSample_p, legalSample_p, directedCount_not_invert]
    exact afterCount_not _ _
  · rw [legalSample_recorded, legalSample_recorded]
  · rw [legalSample_p]
    exact afterCount_cases _ _
  · intro v hv
    cases hv
    simp only [exec, execIllegalTransition, illegalSample_eq]

/-- Settles O9: P under every command, then the refused write and the read of its four bytes. -/
theorem rawPositionMovesOnlyByCounts : Obligations.RawPositionMovesOnlyByCounts := by
  refine ⟨fun c s t h => ?_, fun k v s htaken => ?_, fun k s htaken => ?_⟩
  · cases c with
    | legalTransition phase => cases h; exact legalSample_p s _
    | pinReset levels => cases h; rfl
    | _ => exact exec_keeps_p (by simp) (by simp) h
  · exact exec_registerWrite_readOnly v (by rw [target_p]; rfl) htaken
  · rw [exec_snapshotRead htaken, target_p, takeSnapshot_p]
    rfl

/-- Settles O10: the whole effect of an illegal transition, the count under every command, then the refused write and the
read of its byte. -/
theorem phaseErrorCountFollowsIllegalTransitions : Obligations.PhaseErrorCountFollowsIllegalTransitions := by
  refine ⟨fun s => ?_, fun c s t h => ⟨?_, ?_, ?_⟩, fun v s htaken => ?_, fun s htaken => ?_⟩
  · simp only [exec, execIllegalTransition, illegalSample_eq, satSucc_byte]
    rfl
  · rintro rfl
    cases h
    rw [illegalSample_eq, ← satSucc_byte]
    exact ⟨rfl, rfl, rfl⟩
  · rintro (⟨levels, rfl⟩ | hclears)
    · cases h
      rfl
    · exact exec_clears_phaseErrors hclears h
  · intro hillegal hreset hengine hcommand
    refine exec_keeps_phaseErrors hillegal hreset ?_ h
    rintro (hissues | ⟨hissues, haccepted⟩)
    · exact absurd (hengine.symm.trans hissues) (by decide)
    · exact hcommand hissues haccepted
  · exact exec_registerWrite_readOnly v rfl htaken
  · exact exec_snapshotRead htaken

end Sys2Proof.Machine
end

section
/-! PROOFS. The verdict exception count (R74): what the take of a record does to it, and what every other command does.
First the flags and the verdict unit under each operation; then the commands. -/

namespace Sys2Proof.Machine

variable (s : State)

/-! ### The sticky flags under a posting -/

/-- A record offered, admitted or lost, clears no flag (R160, R167). -/
theorem stickySet_offer {f : Flag} (r : Report) (h : stickySet f s = true) : stickySet f (offer r s) = true := by
  rcases offer_cases s r with ⟨_, hoffer⟩ | ⟨_, hoffer⟩ <;> rw [hoffer]
  · exact h
  · simp_all [stickySet]

/-- R56: an OUTCOME record is posted only where it finds a place, so a posting sets no flag. -/
theorem postOutcome_interrupts : (postOutcome s).interrupts = s.interrupts := by
  rcases postOutcome_cases s with ⟨_, h⟩ | ⟨_, h⟩ | ⟨_, _, _, _, ⟨_, h⟩ | ⟨_, _, h⟩⟩ <;> rw [h]

theorem postOutcomes_interrupts (n : Nat) (s : State) : (postOutcomes n s).interrupts = s.interrupts := by
  induction n generalizing s with
  | zero => rfl
  | succ n ih => exact (ih _).trans (postOutcome_interrupts s)

theorem settlePosts_interrupts : (settlePosts s).interrupts = s.interrupts := by
  rcases settlePosts_cases s with ⟨_, h⟩ | ⟨_, h⟩ <;> rw [h]
  exact postOutcomes_interrupts _ s

/-! ### The take of a verdict record -/

theorem satSucc_half (v : Half) : satSucc v = if v = 65535 then 65535 else v + 1 := by
  unfold satSucc
  split <;> simp_all

/-- R68: the result of a record is APPLIED, its entry TRACKED with no verdict. -/
def Applied (r : VerdictRecord) (s : State) : Prop :=
  ∃ slot e, namedEntry r s = some (slot, e) ∧ e.state = .tracked ∧ e.verdict = none

/-- R74: from s to t the count rises by one and saturates, and VERDICT_ERR sets. -/
def CountsException (s t : State) : Prop :=
  t.verdicts.exceptionCount = satSucc s.verdicts.exceptionCount ∧ stickySet .verdictErr t = true

/-- Every result other than APPLIED is counted, whether or not its record is admitted (R73, R74). -/
theorem verdictError_countsException (code : ExceptionCode) (r : VerdictRecord) :
    CountsException s (verdictError code r s) := by
  refine ⟨by simp [verdictError], ?_⟩
  exact stickySet_offer _ _ (by simp [stickySet_setFlag])

theorem answerLate_countsException (slot : Slot) (r : VerdictRecord) : CountsException s (answerLate slot r s) := by
  simpa [CountsException, answerLate] using
    verdictError_countsException (addFlags slot ({ · with lateVerdict := true }) s) .verdictLate r

/-- Table 4-2: the result is APPLIED and leaves the verdict unit alone, or it is another and is counted. -/
theorem settleVerdict_cases (r : VerdictRecord) :
    (Applied r s ∧ (settleVerdict r s).verdicts = s.verdicts) ∨
    (¬ Applied r s ∧ CountsException s (settleVerdict r s)) := by
  unfold settleVerdict Applied
  cases hnamed : namedEntry r s with
  | none => exact .inr ⟨by simp, verdictError_countsException s _ r⟩
  | some x =>
    obtain ⟨slot, e⟩ := x
    cases hverdict : e.verdict with
    | none =>
      by_cases htracked : e.state = .tracked
      · exact .inl ⟨⟨slot, e, rfl, htracked, hverdict⟩, by simp [hverdict, htracked]⟩
      · refine .inr ⟨by simp [htracked], ?_⟩
        simpa [hverdict, htracked] using answerLate_countsException s slot r
    | some v =>
      refine .inr ⟨by simp [hverdict], ?_⟩
      obtain ⟨cls, source⟩ := v
      cases source with
      | host => simpa [hverdict] using verdictError_countsException s .verdictDuplicate r
      | forced => simpa [hverdict] using verdictError_countsException s .verdictLocked r
      | laneDefault => simpa [hverdict] using answerLate_countsException s slot r

/-- R66: the record at the head of the FIFO is settled against the table as it stands, and the posting that follows
neither counts nor clears a flag. -/
theorem takeVerdict_cases {r : VerdictRecord} {rest : List VerdictRecord} (hfifo : s.verdicts.fifo = r :: rest) :
    (Applied r s ∧ (takeVerdict s).verdicts.exceptionCount = s.verdicts.exceptionCount) ∨
    (¬ Applied r s ∧ CountsException s (takeVerdict s)) := by
  simp only [takeVerdict, hfifo, CountsException, settlePosts_verdicts, stickySet, settlePosts_interrupts]
  rcases settleVerdict_cases { s with verdicts := { s.verdicts with fifo := rest } } r with
    ⟨happlied, hverdicts⟩ | hcounted
  · exact .inl ⟨happlied, by rw [hverdicts]⟩
  · exact .inr hcounted

/-- VERDICT_TAKE with an empty FIFO or an APPLIED record keeps the count. -/
theorem takeVerdict_keeps_exceptionCount (h : ∀ r rest, s.verdicts.fifo = r :: rest → Applied r s) :
    (takeVerdict s).verdicts.exceptionCount = s.verdicts.exceptionCount := by
  cases hfifo : s.verdicts.fifo with
  | nil => simp [takeVerdict, hfifo]
  | cons r rest =>
    rcases takeVerdict_cases s hfifo with ⟨_, hkeeps⟩ | ⟨hresult, _⟩
    · exact hkeeps
    · exact absurd (h r rest hfifo) hresult

/-! ### The verdict unit under an advance and a data byte -/

theorem doWork_verdicts (fixed : Option (List Slot)) (w : AdvanceWork) : (doWork fixed w s).1.verdicts = s.verdicts := by
  cases w with
  | mark => simp only [doWork]; split <;> simp
  | _ => simp [doWork]

/-- An advance offers no verdict and takes none (R66). -/
theorem advanceOnce_verdicts (first : List AdvanceWork) : (advanceOnce first s).verdicts = s.verdicts := by
  simp only [advanceOnce, settleDrain_verdicts, settlePosts_verdicts]
  refine runWork_keeps (fun t => t.verdicts = s.verdicts) ?_ _ _ _ _ _ (stepForward_verdicts s)
  intro fixed w t _ ht
  rw [doWork_verdicts, ht]

theorem hostWrite_verdicts (a : Addr) (effect : State → State) :
    (hostWrite a effect s).verdicts = if s.window.takesWrite a then (effect s).verdicts else s.verdicts := by
  unfold hostWrite Window.takesWrite
  split <;> split <;> simp_all

/-- Table 4-6: of the commands of the command register only ENGINE_RESET reaches the verdict unit. -/
theorem writeCommand_verdicts (code : Byte) :
    (writeCommand code s).verdicts = if code = 6 then Verdicts.reset else s.verdicts := by
  unfold writeCommand
  split_ifs <;> simp_all [commandReset]

/-- R65: a push, or one that meets a full FIFO, is no result. -/
theorem pushVerdict_exceptionCount : (pushVerdict s).verdicts.exceptionCount = s.verdicts.exceptionCount := by
  unfold pushVerdict
  split <;> rfl

theorem writeClass_exceptionCount (v : Byte) :
    (writeClass v s).verdicts.exceptionCount = s.verdicts.exceptionCount := by
  unfold writeClass
  split
  · exact pushVerdict_exceptionCount _
  · rfl

/-- A written byte keeps the count, but for the code of ENGINE_RESET at the command register. -/
theorem writeAddress_exceptionCount (a : Addr) (v : Byte) :
    (writeAddress a v s).verdicts.exceptionCount =
      if a = 0x0004 ∧ v = 6 then 0 else s.verdicts.exceptionCount := by
  by_cases ha : a = 0x0004
  · subst ha
    have hcommand : writeAddress 0x0004 v s = writeCommand v s := rfl
    rw [hcommand, writeCommand_verdicts]
    by_cases hreset : v = 6
    · rw [if_pos hreset, if_pos ⟨rfl, hreset⟩, Verdicts.reset]
    · rw [if_neg hreset, if_neg (hreset ·.2)]
  · rw [if_neg (ha ·.1), writeAddress]
    cases htarget : target a with
    | command => exact absurd (target_eq_command htarget) ha
    | verdictClass => exact writeClass_exceptionCount s v
    | _ => simp

end Sys2Proof.Machine

namespace Sys2Proof.Machine

variable {c : Instr} {s t : State}

/-! ### Which commands move the count -/

/-- What a data byte does to the count where the window takes it. -/
theorem exec_write_exceptionCount {a : Addr} {v : Byte} (hbyte : c.byteWritten = some (a, v)) (h : exec c s = .next t) :
    t.verdicts.exceptionCount = if issues c 6 s then 0 else s.verdicts.exceptionCount := by
  have heffect : ∃ effect, exec c s = .next (hostWrite a effect s) ∧ (effect s).verdicts.exceptionCount =
      if a = 0x0004 ∧ v = 6 then 0 else s.verdicts.exceptionCount := by
    rcases exec_of_byteWritten s hbyte with hexec | ⟨first, rfl, rfl, rfl⟩
    · exact ⟨_, hexec, writeAddress_exceptionCount s a v⟩
    · exact ⟨_, rfl, by simp⟩
  obtain ⟨effect, hexec, hcount⟩ := heffect
  obtain rfl : hostWrite a effect s = t := by simpa [hexec] using h
  simp only [hostWrite_verdicts, issues_iff hbyte]
  by_cases htaken : s.window.takesWrite a = true <;> simp [htaken, hcount]

/-- No event but a pin reset and a VERDICT_TAKE reaches the verdict unit. -/
theorem exec_event_verdicts (hbyte : c.byteWritten = none) (hreset : ∀ levels, c ≠ .pinReset levels)
    (htake : c ≠ .verdictTake) (h : exec c s = .next t) : t.verdicts = s.verdicts := by
  cases c with
  | pinReset levels => exact absurd rfl (hreset levels)
  | verdictTake => exact absurd rfl htake
  | advance first =>
    cases h
    split
    · exact advanceOnce_verdicts s first
    · rfl
  | microsecondsPulseEnd n => cases h; (repeat' split) <;> simp
  | recoveryExpiry n =>
    cases h
    split
    · simp only [expireRecovery]; split <;> simp
    · rfl
  | rawInputChange l high => cases h; split <;> simp
  | debounceExpiry l => cases h; (repeat' split) <;> simp
  | faultReport => cases h; split <;> simp
  | legalTransition | illegalTransition | speedWindowEnd | outcomePost | drainComplete | frameBegin | controlByte
  | frameEnd | snapshotRead | addressByte => cases h; simp
  | _ => cases hbyte

/-- R74: an engine reset clears the count. -/
theorem exec_clears_exceptionCount (hissues : issues c 6 s = true) (h : exec c s = .next t) :
    t.verdicts.exceptionCount = 0 := by
  cases hbyte : c.byteWritten with
  | some byte => rw [exec_write_exceptionCount hbyte h, if_pos hissues]
  | none => simp [issues_eq_false hbyte] at hissues

theorem exec_keeps_exceptionCount (hreset : ∀ levels, c ≠ .pinReset levels) (hissues : issues c 6 s = false)
    (htake : ∀ r rest, c = .verdictTake → s.verdicts.fifo = r :: rest → Applied r s) (h : exec c s = .next t) :
    t.verdicts.exceptionCount = s.verdicts.exceptionCount := by
  by_cases htakes : c = .verdictTake
  · subst htakes
    cases h
    exact takeVerdict_keeps_exceptionCount s (htake · · rfl)
  · cases hbyte : c.byteWritten with
    | some byte => rw [exec_write_exceptionCount hbyte h, hissues]; rfl
    | none => rw [exec_event_verdicts hbyte hreset htakes h]

/-! ### The bytes of the count -/

/-- Table 10-3: the bytes of the verdict exception count. -/
theorem target_verdictExceptions (k : Fin 2) :
    target (BitVec.ofNat 16 (0x0506 + k.val)) = .quantity .verdictExceptions k.val := by
  revert k; decide

theorem takeSnapshot_verdictExceptions (k : Nat) :
    takeSnapshot (.quantity .verdictExceptions k) s = { s with window := { s.window with
      snapshots := { s.window.snapshots with verdictExceptions :=
        if k = 0 then s.verdicts.exceptionCount else s.window.snapshots.verdictExceptions } } } := by
  cases k <;> rfl

/-! ### The obligation -/

/-- Settles O43: the count under every command, with the take of a record as the one that raises it, then the refused
write and the read of its two bytes. -/
theorem verdictExceptionCountFollowsTheResults : Obligations.VerdictExceptionCountFollowsTheResults := by
  refine ⟨fun c s t h => ⟨?_, ?_, fun hreset hissues htake => exec_keeps_exceptionCount hreset hissues htake h⟩,
    fun k v s htaken => ?_, fun k s htaken => ?_⟩
  · rintro r rest rfl hfifo hresult
    cases h
    rw [← satSucc_half]
    rcases takeVerdict_cases s hfifo with ⟨happlied, _⟩ | ⟨_, hcounted⟩
    · exact absurd happlied hresult
    · exact hcounted
  · rintro (⟨levels, rfl⟩ | hissues)
    · cases h
      rfl
    · exact exec_clears_exceptionCount hissues h
  · exact exec_registerWrite_readOnly v (by rw [target_verdictExceptions]; rfl) htaken
  · rw [exec_snapshotRead htaken, target_verdictExceptions, takeSnapshot_verdictExceptions]
    rfl

end Sys2Proof.Machine
end

section
/-! PROOFS. The profile sets at pin reset (R105): the reset values of the epoch unit, the validation that the default
set passes while no channel is in use, and the START that then finds nothing to refuse. -/

namespace Sys2Proof.Machine

variable {s : State}

/-! ### Validation of the default set -/

theorem ProfileSet.defaults_lanes (l : Lane) : ProfileSet.defaults.lanes[l] = LaneProfile.defaults :=
  Vector.getElem_replicate l.isLt

theorem ProfileSet.defaults_channels (n : Channel) : ProfileSet.defaults.channels[n] = ChannelProfile.defaults :=
  Vector.getElem_replicate n.isLt

theorem failingLanes_eq_nil {number : Nat} {ok : Lane → Bool} (h : ∀ l, ok l = true) :
    failingLanes number ok s = [] := by
  simp [failingLanes, h]

/-- A check that does not apply in mode OFF fails nowhere while every channel is in it. -/
theorem failingChannels_of_off {number : Nat} {applies : ChannelConfig → Bool} {ok : Channel → Bool}
    (hoff : ∀ n : Channel, s.channels[n].config.mode = .off) (happlies : ∀ c, c.mode = .off → applies c = false) :
    failingChannels number applies ok s = [] := by
  simp only [failingChannels, happlies _ (hoff _), Bool.false_and, List.filter_false, List.map_nil]

theorem namesLane_of_off (c : ChannelConfig) (h : c.mode = .off) : namesLane c = false := by
  simp [namesLane, h]

/-- Table 5-6: V1 to V4 hold of the default values, and V5 to V9 ask nothing of a channel in mode OFF. -/
theorem validate_defaults (hoff : ∀ n : Channel, s.channels[n].config.mode = .off) :
    validate ProfileSet.defaults s = none := by
  have hpitch : checkPitch ProfileSet.defaults = true := by decide
  have hlengths : checkLengths LaneProfile.defaults = true := by decide
  have hdecision : checkDecision LaneProfile.defaults = true := by decide
  have hexit : checkExit LaneProfile.defaults = true := by decide
  have hfailures : validationFailures ProfileSet.defaults s = [] := by
    simp only [validationFailures, hpitch, if_true, ProfileSet.defaults_lanes,
      failingLanes_eq_nil fun _ => hlengths, failingLanes_eq_nil fun _ => hdecision,
      failingLanes_eq_nil fun _ => hexit, failingChannels_of_off hoff namesLane_of_off]
    rw [failingChannels_of_off hoff, failingChannels_of_off hoff, failingChannels_of_off hoff] <;> simp +contextual
  rw [validate, hfailures, List.head?_nil]

/-! ### An accepted START -/

theorem beginRun_state (committing : Bool) : (beginRun committing s).engine.state = .running := rfl

/-- R102, R147: in STOPPED, with no commit attempt due and a valid current bank, START runs the line. -/
theorem commandStart_accepted (hstopped : s.engine.state = .stopped) (hdue : attemptDue s = false)
    (hvalid : validate (currentBank s) s = none) :
    commandStart s = finishCommand 1 .accepted (beginRun false s) := by
  simp [commandStart, hstopped, hdue, hvalid]

theorem exec_start_accepted {u : State} (htaken : s.window.takesWrite 0x0004 = true)
    (hstopped : s.engine.state = .stopped) (hdue : attemptDue s = false)
    (hvalid : validate (currentBank s) s = none) (h : exec .start s = .next u) :
    u.engine.state = .running ∧ u.engine.lastResult = .accepted := by
  obtain rfl : hostWrite 0x0004 commandStart s = u := Host.Outcome.next.inj h
  rw [hostWrite_engine, if_pos htaken, commandStart_accepted hstopped hdue hvalid, finishCommand_eq]
  exact ⟨beginRun_state (s := s) false, rfl⟩

/-! ### The part after pin reset -/

theorem exec_pinReset (levels : InputLevels) (s : State) : exec (.pinReset levels) s =
    .next { State.afterPinReset levels with pending := s.pending, freeCount := s.freeCount } := rfl

/-- R127: every channel is in mode OFF. -/
theorem afterPinReset_channel (levels : InputLevels) (n : Channel) :
    (State.afterPinReset levels).channels[n] = OutputChannel.reset :=
  Vector.getElem_replicate n.isLt

/-- R169: POWER_ON is the one sticky flag that is set. -/
theorem afterPinReset_sticky (levels : InputLevels) :
    (State.afterPinReset levels).interrupts.sticky = Flag.powerOn.bit := rfl

/-! ### The obligation -/

/-- Settles O4: the reset values of the epoch unit and the flags, then the START, which the default set lets pass
whatever the input levels are. -/
theorem pinResetLoadsTheDefaultProfiles : Obligations.PinResetLoadsTheDefaultProfiles := by
  intro levels s
  have hoff (n : Channel) : (State.afterPinReset levels).channels[n].config.mode = .off := by
    rw [afterPinReset_channel]; rfl
  refine ⟨_, exec_pinReset levels s, ?profiles, rfl, rfl, rfl, rfl, rfl, rfl, rfl, rfl, rfl, ?live, rfl, ?flags,
    validate_defaults hoff, fun u => exec_start_accepted rfl rfl rfl (validate_defaults hoff)⟩
  case profiles =>
    have hsets : ∀ p ∈ [EpochUnit.reset.shadow, EpochUnit.reset.bankA, EpochUnit.reset.bankB],
        p = ProfileSet.defaults := by
      simp [EpochUnit.reset]
    intro p hp
    obtain rfl := hsets p hp
    exact ⟨rfl, ProfileSet.defaults_lanes, ProfileSet.defaults_channels⟩
  case live => exact fun _ => rfl
  case flags =>
    intro f
    simp [stickySet, afterPinReset_sticky, eq_comm]

end Sys2Proof.Machine
end

section
/-! PROOFS. The enables and the level of IRQN (R168): the flags as the positions of the two registers, a write of the
enable register position by position, and what the summary byte of a frame carries of them. -/

namespace Sys2Proof.Machine

variable {s : State}

/-! ### The flags as positions of the registers -/

theorem Flag.position_lt (f : Flag) : f.position < 13 := by
  cases f <;> decide

/-- Table 10-9: every position of the two bytes that carries anything carries a flag. -/
theorem Flag.exists_position {i : Nat} (h : i < 13) : ∃ f : Flag, f.position = i := by
  interval_cases i
  exacts [⟨.powerOn, rfl⟩, ⟨.reportLevel, rfl⟩, ⟨.lost, rfl⟩, ⟨.exception, rfl⟩, ⟨.fault, rfl⟩, ⟨.commitDone, rfl⟩,
    ⟨.commitDeferred, rfl⟩, ⟨.commitRejected, rfl⟩, ⟨.verdictErr, rfl⟩, ⟨.verdictFull, rfl⟩, ⟨.cmdRefused, rfl⟩,
    ⟨.accessErr, rfl⟩, ⟨.stoppedReached, rfl⟩]

/-- A set of flags is not empty exactly when it holds some flag. -/
theorem ne_zero_iff_exists_flag (x : BitVec 13) : x ≠ 0 ↔ ∃ f : Flag, x.getLsbD f.position = true := by
  constructor
  · contrapose!
    intro hnone
    refine BitVec.eq_of_getLsbD_eq fun i hi => ?_
    obtain ⟨f, rfl⟩ := Flag.exists_position hi
    simpa using hnone f
  · rintro ⟨f, hset⟩ rfl
    simp at hset

/-- R168: IRQN is low exactly while a flag is set whose enable is set. -/
theorem irqActive_iff (s : State) :
    irqActive s = true ↔ ∃ f : Flag, flagSet f s = true ∧ s.interrupts.enables.getLsbD f.position = true := by
  simp only [irqActive, bne_iff_ne, ne_zero_iff_exists_flag, BitVec.getLsbD_and, Bool.and_eq_true, flagSet]

/-! ### The two bytes of a register -/

/-- A byte put in its place shows at each flag of its half the bit of that flag, and nothing at the flags of the other. -/
theorem halfBits_getLsbD (half : RegisterHalf) (v : Byte) (f : Flag) : (halfBits half v).getLsbD f.position =
    (decide (f.position / 8 = halfShift half / 8) && v.getLsbD (f.position % 8)) := by
  have hlt := f.position_lt
  simp only [halfBits, BitVec.getLsbD_shiftLeft, BitVec.getLsbD_setWidth]
  by_cases hlow : f.position < 8
  · have hdiv : f.position / 8 = 0 := by omega
    have hmod : f.position % 8 = f.position := by omega
    cases half <;> simp [halfShift, hlow, hlt, hdiv, hmod]
  · have hdiv : f.position / 8 = 1 := by omega
    have hmod : f.position % 8 = f.position - 8 := by omega
    have hhigh : f.position - 8 < 13 := by omega
    cases half <;> simp [halfShift, hlow, hlt, hdiv, hmod, hhigh, BitVec.getLsbD_of_ge v _ (not_lt.1 hlow)]

/-- R168: each position of the written byte takes its value, and the other byte keeps its own. -/
theorem writeEnables_getLsbD (half : RegisterHalf) (v : Byte) (s : State) (f : Flag) :
    (writeEnables half v s).interrupts.enables.getLsbD f.position =
      if f.position / 8 = halfShift half / 8 then v.getLsbD (f.position % 8)
      else s.interrupts.enables.getLsbD f.position := by
  have hall : ∀ k < 8, (0xFF : Byte).getLsbD k = true := by decide
  have hbit := hall (f.position % 8) (Nat.mod_lt _ (by decide))
  simp only [writeEnables_interrupts, BitVec.getLsbD_or, BitVec.getLsbD_and, BitVec.getLsbD_not, halfBits_getLsbD, hbit,
    f.position_lt, decide_true, Bool.true_and, Bool.and_true]
  by_cases hhalf : f.position / 8 = halfShift half / 8 <;> simp [hhalf]

/-! ### The frame-open marker under a data byte -/

theorem Window.afterWrite_frameOpen (w : Window) : w.afterWrite.frameOpen = w.frameOpen := by
  unfold Window.afterWrite
  split <;> rfl

/-- R175: a data byte whose effect leaves the window alone leaves the frame-open marker, taken or not. -/
theorem hostWrite_frameOpen (a : Addr) {effect : State → State} (h : (effect s).window = s.window) :
    (hostWrite a effect s).window.frameOpen = s.window.frameOpen := by
  cases htaken : s.window.takesWrite a with
  | true => rw [hostWrite_taken s a effect htaken (by rw [h]), h, Window.afterWrite_frameOpen]
  | false => rw [hostWrite_not_taken s a effect htaken]

/-- R168: the enable register changes, and the window moves on past the byte. -/
theorem exec_enableRegisterWrite_taken (which : RegisterHalf) (v : Byte)
    (htaken : s.window.takesWrite (enableAddress which) = true) : exec (.enableRegisterWrite which v) s =
      .next { writeEnables which v s with window := s.window.afterWrite } :=
  congrArg Host.Outcome.next (hostWrite_taken s _ (writeEnables which v) htaken rfl)

/-! ### The summary byte -/

theorem bitAt_getLsbD {k i : Nat} (b : Bool) (hk : k < 8) (hi : i < 8) :
    (bitAt k b).getLsbD i = (decide (k = i) && b) := by
  have hone : ∀ k < 8, ∀ i < 8, (1#8 <<< k).getLsbD i = decide (k = i) := by decide
  cases b
  · simp [bitAt]
  · simpa [bitAt] using hone k hk i hi

/-- The code of the engine state fills the two lowest bits of the summary byte. -/
theorem EngineState.code_getLsbD (e : EngineState) {i : Nat} (hi : 2 ≤ i) : e.code.getLsbD i = false := by
  have hcode : e.code = (e.code.setWidth 2).setWidth 8 := by cases e <;> rfl
  rw [hcode, BitVec.getLsbD_setWidth, BitVec.getLsbD_of_ge _ _ hi, Bool.and_false]

/-- Table 10-6: bit 2 of the summary byte is the level of IRQN. -/
theorem summaryByte_irqActive (s : State) : (summaryByte s).getLsbD 2 = irqActive s := by
  simp [summaryByte, bitAt_getLsbD, EngineState.code_getLsbD, -BitVec.getLsbD_eq_getElem]

/-- Table 10-6: bit 7 of the summary byte is POWER_ON. -/
theorem summaryByte_powerOn (s : State) : (summaryByte s).getLsbD 7 = flagSet .powerOn s := by
  simp [summaryByte, bitAt_getLsbD, EngineState.code_getLsbD, -BitVec.getLsbD_eq_getElem]

/-- R170: the frame that CSN opens shifts the summary byte out first. -/
theorem beginFrame_shiftOut (hidle : s.window.csn = true) : (beginFrame s).window.shiftOut = summaryByte s := by
  rw [beginFrame, if_pos hidle, setShiftOut_window]

/-! ### The obligation -/

/-- Settles O51: the write of the enable register, the marker under a write of the flag register, the level of IRQN, and
the summary byte that a frame begins with. -/
theorem enablesDriveIrqn : Obligations.EnablesDriveIrqn := by
  refine ⟨fun which v s htaken => ⟨_, exec_enableRegisterWrite_taken which v htaken, fun f => ?positions, rfl,
    Window.afterWrite_frameOpen s.window⟩, fun which v s t h => ?marker, irqActive_iff, fun s t hidle h => ?summary⟩
  case positions =>
    have hwritten := writeEnables_getLsbD which v s f
    cases which <;> exact hwritten
  case marker =>
    cases h
    exact hostWrite_frameOpen (flagAddress which) (writeFlags_window s which v)
  case summary =>
    cases h
    rw [beginFrame_shiftOut hidle]
    exact ⟨summaryByte_irqActive s, summaryByte_powerOn s⟩

end Sys2Proof.Machine
end

section
-- One declaration at a time: all that Lean elaborates at once shares the memory that the check allows.
set_option Elab.async false
/-! PROOFS. What the events of the line can do to the part: every event of a block, every piece of work of an advance and
every command of the command register but POP and ENGINE_RESET is a chain of the few effects named here. The rules of the
whole part that follow ask of each effect, once, what it keeps. -/

namespace Sys2Proof.Machine

/-! ### The effects -/

/-- An entry gains flags and fired channels and loses none (R42, R43). -/
def Gains (f f' : EntryFlags) (fired fired' : BitVec 16) : Prop :=
  f.bits &&& f'.bits = f.bits ∧ fired &&& fired' = fired

/-- The record of identity of a confirmed entry goes on in another: all of it that the confirmation has settled, with no flag,
fired channel or verdict lost. -/
def KeepsItem (d e : Entry) : Prop :=
  ∃ state verdict flags fired, e = { d with state := state, verdict := verdict, flags := flags, fired := fired } ∧
    state ≠ .opening ∧ (d.verdict ≠ none → verdict = d.verdict) ∧ Gains d.flags flags d.fired fired

/-- One effect of an event of the line. Where `sound` holds, what the table writes is told by what it held; only where
`posting` holds may the DONE list or the FIFO change, since then the event posts at its end (R56, assumption 13). -/
inductive Effect (sound posting : Prop) (s : State) : State → Prop
  | offer (r : Report) : Effect sound posting s (offer r s)
  | flag (f : Flag) : Effect sound posting s (setFlag f s)
  | amend (slot : Slot) (f : Entry → Entry)
      (h : ∀ e, f e = { e with flags := (f e).flags, fired := (f e).fired } ∧
        Gains e.flags (f e).flags e.fired (f e).fired) :
      Effect sound posting s (modifyEntry slot f s)
  | write (slot : Slot) (e : Entry)
      (h : sound → ∀ d, entryAt slot s = some d → d.state ≠ .opening → KeepsItem d e) :
      Effect sound posting s (setEntry slot e s)
  | discard (slot : Slot) (h : sound → ∀ d, entryAt slot s = some d → d.state = .opening) :
      Effect sound posting s { s with table := { s.table with entries := dropEntry slot s.table.entries } }
  | flush : Effect sound posting s { s with table := { s.table with
      entries := (s.table.entries.filter fun x => x.2.state ≠ .opening).map fun x => (x.1, flushedEntry x.2) } }
  | post : Effect sound posting s (postOutcome s)
  | laneLists (v : Vector (List Slot) 4) : Effect sound posting s { s with table := { s.table with laneList := v } }
  | doneList (l : List Slot) (h : posting) : Effect sound posting s { s with table := { s.table with doneList := l } }
  | counters (v : Vector LaneCounters 4) : Effect sound posting s { s with table := { s.table with counters := v } }
  | schedule (l : List Action) (h : l.length ≤ max 128 s.schedule.length) :
      Effect sound posting s { s with schedule := l }
  | channel (n : Channel) (c : ChannelState) : Effect sound posting s (setChannelState n c s)
  | detectors (v : Vector Detector 4) : Effect sound posting s { s with detectors := { s.detectors with lane := v } }
  | motion (m : Motion) (h : m.decodeMode = s.motion.decodeMode ∧ m.invert = s.motion.invert ∧
      m.backlash = s.motion.backlash ∧ m.phaseLimit = s.motion.phaseLimit) :
      Effect sound posting s { s with motion := m }
  | det (v : Vector Bool 4) : Effect sound posting s { s with det := v }
  | window (w : Window) : Effect sound posting s { s with window := w }
  | engine (e : Engine) : Effect sound posting s { s with engine := e }
  | epochUnit (u : EpochUnit) : Effect sound posting s { s with epochUnit := u }
  | verdicts (v : Verdicts) (h : posting) (hfifo : v.fifo.length ≤ s.verdicts.fifo.length) :
      Effect sound posting s { s with verdicts := v }

/-- A chain of effects. -/
def Effects (sound posting : Prop) : State → State → Prop := Relation.ReflTransGen (Effect sound posting)

variable {sound posting : Prop} {s t u : State}

theorem Effects.refl (s : State) : Effects sound posting s s := Relation.ReflTransGen.refl

theorem Effects.trans (h : Effects sound posting s t) (h' : Effects sound posting t u) : Effects sound posting s u :=
  Relation.ReflTransGen.trans h h'

/-- One more effect at the end of a chain. -/
theorem Effects.then (h : Effects sound posting s t) (h' : Effect sound posting t u) : Effects sound posting s u :=
  Relation.ReflTransGen.tail h h'

/-- What every effect keeps, a chain of effects keeps. -/
theorem Effects.keeps {P : State → State → Prop} (hrefl : ∀ s, P s s) (htrans : ∀ s t u, P s t → P t u → P s u)
    (heffect : ∀ s t, Effect sound posting s t → P s t) (h : Effects sound posting s t) : P s t := by
  induction h with
  | refl => exact hrefl _
  | tail _ hlast ih => exact htrans _ _ _ ih (heffect _ _ hlast)

/-- A predicate that every effect keeps holds at the end of a chain where it held at its beginning. -/
theorem Effects.keeps_pred {P : State → Prop} (heffect : ∀ s t, Effect sound posting s t → P s → P t)
    (h : Effects sound posting s t) (hs : P s) : P t :=
  h.keeps (P := fun s t => P s → P t) (fun _ => id) (fun _ _ _ h h' => h' ∘ h) heffect hs

/-! ### The canonical form of the table -/

theorem flushedEntries_rising {l : List (Slot × Entry)} (h : slotsRising l = true) :
    slotsRising ((l.filter fun x => x.2.state ≠ .opening).map fun x => (x.1, flushedEntry x.2)) = true := by
  simp only [slotsRising, decide_eq_true_eq, List.pairwise_map] at h ⊢
  exact h.filter _

theorem Effect.wf (h : Effect sound posting s t) (hs : s.table.wf = true) : t.table.wf = true := by
  cases h with
  | amend => exact modifyEntry_wf s _ _ hs
  | write => exact setEntry_wf s _ _ hs
  | discard slot => exact dropEntry_rising hs slot
  | flush => exact flushedEntries_rising hs
  | post => exact postOutcome_wf s hs
  | offer => simpa using hs
  | _ => exact hs

theorem Effects.wf (h : Effects sound posting s t) (hs : s.table.wf = true) : t.table.wf = true :=
  h.keeps_pred (fun _ _ => Effect.wf) hs

/-- In a canonical table an entry listed with a slot is the entry of the slot. -/
theorem entryAt_of_mem (hs : s.table.wf = true) {slot : Slot} {e : Entry} (h : (slot, e) ∈ s.table.entries) :
    entryAt slot s = some e := (findEntry_eq_some_iff hs slot e).2 h

/-! ### Entries that gain flags and fired channels -/

theorem and_or_self_right (x y : BitVec n) : x &&& (x ||| y) = x := by
  ext i hi
  simp only [BitVec.getElem_and, BitVec.getElem_or]
  cases x[i] <;> simp

theorem Gains.refl (f : EntryFlags) (fired : BitVec 16) : Gains f f fired fired := by simp [Gains]

theorem or_subset_or {a a' b b' : BitVec n} (ha : a &&& a' = a) (hb : b &&& b' = b) :
    (a ||| b) &&& (a' ||| b') = a ||| b := by
  ext i hi
  have hai : (a &&& a')[i] = a[i] := by rw [ha]
  have hbi : (b &&& b')[i] = b[i] := by rw [hb]
  simp only [BitVec.getElem_and, BitVec.getElem_or] at *
  revert hai hbi
  cases a[i] <;> cases b[i] <;> simp +contextual

theorem flag_subset_flag {b b' : Bool} (m : Half) (h : b = true → b' = true) :
    (if b then m else 0) &&& (if b' then m else 0) = if b then m else 0 := by
  cases b
  · simp
  · simp [h rfl]

/-- The bits of a flag set grow with its flags (Table 10-10). -/
theorem EntryFlags.bits_subset {f g : EntryFlags} (h1 : f.overlength = true → g.overlength = true)
    (h2 : f.lateVerdict = true → g.lateVerdict = true) (h3 : f.lateStart = true → g.lateStart = true)
    (h4 : f.collision = true → g.collision = true) (h5 : f.deferred = true → g.deferred = true)
    (h6 : f.joined = true → g.joined = true) (h7 : f.cut = true → g.cut = true) (h8 : f.missed = true → g.missed = true)
    (h9 : f.scheduleFull = true → g.scheduleFull = true) (h10 : f.abandoned = true → g.abandoned = true) :
    f.bits &&& g.bits = f.bits := by
  unfold EntryFlags.bits
  repeat' apply or_subset_or
  all_goals exact flag_subset_flag _ ‹_›

/-- A change of the flags that sets flags and clears none. -/
def SetsFlags (f : EntryFlags → EntryFlags) : Prop := ∀ x, x.bits &&& (f x).bits = x.bits

theorem setsFlags_lateVerdict : SetsFlags ({ · with lateVerdict := true }) := fun x => by
  apply EntryFlags.bits_subset <;> simp
theorem setsFlags_lateStart : SetsFlags ({ · with lateStart := true }) := fun x => by
  apply EntryFlags.bits_subset <;> simp
theorem setsFlags_collision : SetsFlags ({ · with collision := true }) := fun x => by
  apply EntryFlags.bits_subset <;> simp
theorem setsFlags_deferred : SetsFlags ({ · with deferred := true }) := fun x => by
  apply EntryFlags.bits_subset <;> simp
theorem setsFlags_joined : SetsFlags ({ · with joined := true }) := fun x => by
  apply EntryFlags.bits_subset <;> simp
theorem setsFlags_cut : SetsFlags ({ · with cut := true }) := fun x => by
  apply EntryFlags.bits_subset <;> simp
theorem setsFlags_missed : SetsFlags ({ · with missed := true }) := fun x => by
  apply EntryFlags.bits_subset <;> simp
theorem setsFlags_scheduleFull : SetsFlags ({ · with scheduleFull := true }) := fun x => by
  apply EntryFlags.bits_subset <;> simp
theorem setsFlags_abandoned : SetsFlags ({ · with abandoned := true }) := fun x => by
  apply EntryFlags.bits_subset <;> simp

theorem Effects.addFlags (h : Effects sound posting s t) {f : EntryFlags → EntryFlags} (hf : SetsFlags f) (slot : Slot) :
    Effects sound posting s (addFlags slot f t) :=
  h.then (.amend slot _ fun e => ⟨rfl, hf e.flags, by simp⟩)

theorem Effects.addFired (h : Effects sound posting s t) (slot : Slot) (n : Channel) :
    Effects sound posting s (addFired slot n t) :=
  h.then (.amend slot _ fun e => ⟨rfl, by simp, and_or_self_right _ _⟩)

theorem KeepsItem.refl {e : Entry} (h : e.state ≠ .opening) : KeepsItem e e :=
  ⟨e.state, e.verdict, e.flags, e.fired, rfl, h, fun _ => rfl, .refl _ _⟩

theorem KeepsItem.trans {a b c : Entry} (h : KeepsItem a b) (h' : KeepsItem b c) : KeepsItem a c := by
  obtain ⟨_, v, f, fired, rfl, _, hv, hf, hfired⟩ := h
  obtain ⟨state', v', f', fired', rfl, hstate', hv', hf', hfired'⟩ := h'
  refine ⟨state', v', f', fired', rfl, hstate', fun hne => ?_, ?_, ?_⟩
  · have := hv hne
    subst this
    exact hv' hne
  · calc a.flags.bits &&& f'.bits = a.flags.bits &&& (f.bits &&& f'.bits) := by
          conv_lhs => rw [← hf]
          rw [BitVec.and_assoc]
      _ = a.flags.bits := by rw [show f.bits &&& f'.bits = f.bits from hf', hf]
  · calc a.fired &&& fired' = a.fired &&& (fired &&& fired') := by
          conv_lhs => rw [← hfired]
          rw [BitVec.and_assoc]
      _ = a.fired := by rw [show fired &&& fired' = fired from hfired', hfired]

/-- An entry that changes only in its state and its flags, which grow, keeps its item. -/
theorem KeepsItem.of_flags {d : Entry} {state : EntryState} {f : EntryFlags} (hstate : state ≠ .opening)
    (hf : d.flags.bits &&& f.bits = d.flags.bits) : KeepsItem d { d with state := state, flags := f } :=
  ⟨state, d.verdict, f, d.fired, rfl, hstate, fun _ => rfl, hf, by simp⟩

/-! ### The report queue and the posting -/

theorem Effects.raise (h : Effects sound posting s t) (code : ExceptionCode) (l : Option Lane) (tag : Option Half) :
    Effects sound posting s (raise code l tag t) :=
  (h.then (.flag .exception)).then (.offer _)

theorem postOutcomes_effects (n : Nat) (s : State) : Effects sound posting s (postOutcomes n s) := by
  induction n generalizing s with
  | zero => exact .refl s
  | succ n ih => exact ((Effects.refl s).then .post).trans (ih _)

theorem Effects.serveDone (h : Effects sound posting s t) : Effects sound posting s (serveDone t) :=
  h.trans (postOutcomes_effects _ t)

theorem Effects.settlePosts (h : Effects sound posting s t) : Effects sound posting s (settlePosts t) := by
  rcases settlePosts_cases t with ⟨_, e⟩ | ⟨_, e⟩ <;> rw [e]
  · exact h.serveDone
  · exact h

/-! ### The schedule and the channels -/

theorem Effects.removeActions (h : Effects sound posting s t) {l : List Action} (hl : l.length ≤ t.schedule.length) :
    Effects sound posting s { t with schedule := l } :=
  h.then (.schedule l (le_max_of_le_right hl))

/-- An action joins only a schedule with room (R107, R115). -/
theorem Effects.place (h : Effects sound posting s t) (a : Action) (hroom : scheduleFull t = false) :
    Effects sound posting s (place a t) := by
  refine h.then (.schedule _ (le_max_of_le_left ?_))
  simp only [scheduleFull, decide_eq_false_iff_not, not_le] at hroom
  simpa [insertAction_length] using hroom

theorem placeItemAction_effects (slot : Slot) (e : Entry) (n : Channel) (s : State) :
    Effects sound posting s (placeItemAction slot e n s) := by
  unfold placeItemAction
  dsimp only
  split
  · exact (Effects.refl s).addFlags setsFlags_scheduleFull slot
  · rename_i hroom
    have hroom := Bool.eq_false_iff.2 hroom
    (repeat' split)
    · exact (Effects.refl s).place _ hroom
    · exact (Effects.refl s).addFlags setsFlags_missed slot
    · exact ((Effects.refl s).place _ hroom).addFlags setsFlags_lateStart slot

theorem placeVerdictAction_effects (slot : Slot) (e : Entry) (n : Channel) (s : State) :
    Effects sound posting s (placeVerdictAction slot e n s) := by
  unfold placeVerdictAction
  dsimp only
  split
  · exact (Effects.refl s).addFlags setsFlags_scheduleFull slot
  · rename_i hroom
    have hroom := Bool.eq_false_iff.2 hroom
    split
    · exact ((Effects.refl s).place _ hroom).addFlags setsFlags_lateStart slot
    · exact (Effects.refl s).place _ hroom

theorem placePitchAction_effects (mark : Word) (n : Channel) (s : State) :
    Effects sound posting s (placePitchAction mark n s) := by
  unfold placePitchAction
  dsimp only
  split
  · exact (Effects.refl s).raise _ _ _
  · exact (Effects.refl s).place _ (Bool.eq_false_iff.2 ‹_›)

/-- A fold of operations that are chains of effects is one. -/
theorem foldl_effects {f : State → α → State} (hf : ∀ s x, Effects sound posting s (f s x)) (l : List α) (s : State) :
    Effects sound posting s (l.foldl f s) :=
  foldl_keeps (fun t => Effects sound posting s t) f (fun t x h => h.trans (hf t x)) l s (.refl s)

theorem placeItemActions_effects (slot : Slot) (e : Entry) (s : State) :
    Effects sound posting s (placeItemActions slot e s) :=
  foldl_effects (fun s n => placeItemAction_effects slot e n s) _ s

theorem placeVerdictActions_effects (slot : Slot) (e : Entry) (c : Class) (s : State) :
    Effects sound posting s (placeVerdictActions slot e c s) :=
  foldl_effects (fun s n => placeVerdictAction_effects slot e n s) _ s

theorem placePitchActions_effects (mark : Word) (s : State) : Effects sound posting s (placePitchActions mark s) :=
  foldl_effects (fun s n => placePitchAction_effects mark n s) _ s

theorem Effects.onItem (h : Effects sound posting s t) {f : Slot → State → State}
    (hf : ∀ slot s, Effects sound posting s (f slot s)) (item : Option Slot) :
    Effects sound posting s (onItem item f t) := by
  cases item with
  | none => exact h
  | some slot => exact h.trans (hf slot t)

theorem settleFirst_effects (q : Action → Bool) (s : State) : Effects sound posting s (settleFirst q s) := by
  rcases settleFirst_cases s q with ⟨_, e⟩ | ⟨a, _, ⟨_, e⟩ | ⟨_, _, e⟩ | ⟨_, _, e⟩ | ⟨_, _, e⟩⟩ <;> rw [e]
  · exact .refl s
  · refine Effects.onItem (.then (.removeActions (.refl s) ?_) (.channel _ _)) (fun slot s => (Effects.refl s).addFired slot _) _
    simp
  · refine Effects.onItem (.removeActions (.refl s) ?_)
      (fun slot s => ((Effects.refl s).addFlags setsFlags_joined slot).addFired slot _) _
    simpa using List.length_eraseP_le
  · unfold refuseNewcomer
    have hremoved : Effects sound posting s { s with schedule := s.schedule.eraseP q } :=
      .removeActions (.refl s) List.length_eraseP_le
    cases a.item with
    | none => exact hremoved.raise _ _ _
    | some slot => exact hremoved.addFlags setsFlags_collision slot
  · refine Effects.onItem (.removeActions (.refl s) ?_) (fun slot s => (Effects.refl s).addFlags setsFlags_deferred slot) _
    simp

theorem settleAll_effects (q : Action → Bool) (fuel : Nat) (s : State) : Effects sound posting s (settleAll q fuel s) :=
  settleAll_keeps (fun t => Effects sound posting s t) q (fun t h => h.trans (settleFirst_effects q t)) fuel s (.refl s)

theorem takeDue_effects (n : Channel) (s : State) : Effects sound posting s (takeDue n s) := settleAll_effects _ _ s

theorem takeDeferred_effects (n : Channel) (s : State) : Effects sound posting s (takeDeferred n s) :=
  settleAll_effects _ _ s

theorem endPulse_effects (n : Channel) (s : State) : Effects sound posting s (endPulse n s) := by
  unfold endPulse
  split
  · exact .refl s
  · exact (Effects.removeActions (.refl s) List.length_eraseP_le).then (.channel _ _)

theorem channelAdvance_effects (n : Channel) (s : State) : Effects sound posting s (channelAdvance n s) := by
  unfold channelAdvance
  split
  · exact (endPulse_effects n s).trans (takeDue_effects n _)
  · exact takeDue_effects n s

theorem channelEvent_effects (n : Channel) (s : State) : Effects sound posting s (channelEvent n s) := by
  unfold channelEvent
  split
  · exact endPulse_effects n s
  · exact settleFirst_effects _ s

theorem stopPulses_effects (l : List Action) (s : State) :
    Effects sound posting s (l.foldl (fun s a => stopPulse a s) s) :=
  foldl_effects (fun s _ => (Effects.refl s).then (.channel _ _)) l s

theorem cutPulses_effects (s : State) : Effects sound posting s (cutPulses s) := by
  refine Effects.removeActions (foldl_effects (fun s a => ?_) _ s) ?_
  · exact Effects.onItem ((Effects.refl s).then (.channel _ _)) (fun slot s => (Effects.refl s).addFlags setsFlags_cut slot) _
  · rw [foldl_field (fun s : State => s.schedule) _ (fun s a => by cases a.item <;> simp [Machine.onItem])]
    exact List.length_filter_le _ _

theorem flushSchedule_effects (s : State) : Effects sound posting s (flushSchedule s) :=
  (stopPulses_effects _ s).removeActions (by simp)

/-! ### The tracking table -/

theorem openEntry_effects {slot : Slot} (l : Lane) (leading : Word) (hfree : entryAt slot s = none) :
    Effects sound posting s (openEntry slot l leading s) := by
  refine .trans (.then (.then (.refl s) (.write slot _ fun _ d hd => ?_)) (.laneLists _)) (placeItemActions_effects slot _ _)
  rw [hfree] at hd
  cases hd

theorem confirm_effects {slot : Slot} {e : Entry} (hopening : sound → entryAt slot s = some e ∧ e.state = .opening)
    (length : Half) (overlength : Option Class) : Effects sound posting s (confirm slot e length overlength s) := by
  refine .then (.then (.then (.then (.refl s) (.detectors _)) (.write slot _ fun hsound d hd hstate => ?_)) (.counters _))
    (.offer _)
  obtain ⟨he, hopen⟩ := hopening hsound
  obtain rfl := Option.some.inj (he.symm.trans hd)
  exact absurd hopen hstate

theorem discardEntry_effects {slot : Slot} {e : Entry} (hopening : sound → entryAt slot s = some e ∧ e.state = .opening) :
    Effects sound posting s (discardEntry slot e s) := by
  refine .then (.then (.removeActions (.refl s) ?_) (.laneLists _)) (.discard slot fun hsound d hd => ?_)
  · simpa [detachItem] using List.length_filter_le _ _
  · obtain ⟨he, hopen⟩ := hopening hsound
    obtain rfl := Option.some.inj (he.symm.trans hd)
    exact hopen

theorem takeDecision_effects (slot : Slot) (s : State) : Effects sound posting s (takeDecision slot s) := by
  rcases takeDecision_cases s slot with ⟨_, e⟩ | ⟨e, he, hdue, h⟩
  · rw [e]
    exact .refl s
  · rw [h]
    refine .trans (.then (.refl s) (.write slot _ fun _ d hd _ => ?_)) (placeVerdictActions_effects slot _ _ _)
    obtain rfl := Option.some.inj (he.symm.trans hd)
    refine ⟨.scheduled, _, e.flags, e.fired, rfl, by simp, fun hv => ?_, .refl _ _⟩
    obtain ⟨v, hv⟩ := Option.ne_none_iff_exists'.1 hv
    simp [settledVerdict, hv]

theorem takeDecisions_effects (slots : List Slot) (s : State) : Effects sound posting s (takeDecisions slots s) :=
  foldl_effects (fun s slot => takeDecision_effects slot s) slots s

/-- What an exit makes of its entry: DONE, with MISSED where an action is PENDING for it (R120). -/
def exitedEntry (slot : Slot) (e : Entry) (s : State) : Entry :=
  { e with state := .done, flags := if hasPending slot s.schedule then { e.flags with missed := true } else e.flags }

/-- R52, R120: the whole effect of an exit. -/
theorem takeExit_eq (slot : Slot) (e : Entry) (s : State) : takeExit slot e s = { s with
    schedule := detachItem slot s.schedule,
    table := { s.table with
      entries := putEntry slot (exitedEntry slot e s) s.table.entries,
      laneList := updateAt s.table.laneList e.lane (·.filter (· ≠ slot)),
      doneList := s.table.doneList ++ [slot] } } := by
  unfold takeExit exitedEntry
  split <;> rfl

theorem exitedEntry_keepsItem (slot : Slot) (e : Entry) (s : State) : KeepsItem e (exitedEntry slot e s) := by
  refine .of_flags (by simp) ?_
  split
  · exact setsFlags_missed e.flags
  · simp

theorem detachItem_length_le (slot : Slot) (l : List Action) : (detachItem slot l).length ≤ l.length := by
  simpa [detachItem] using List.length_filter_le _ _

theorem takeExit_effects {slot : Slot} {e : Entry} (hposting : posting) (he : sound → entryAt slot s = some e) :
    Effects sound posting s (takeExit slot e s) := by
  rw [takeExit_eq]
  refine .then (.then (.then (.removeActions (.refl s) (detachItem_length_le slot s.schedule))
    (.write slot (exitedEntry slot e s) fun hsound d hd _ => ?_)) (.laneLists _)) (.doneList _ hposting)
  obtain rfl := Option.some.inj ((he hsound).symm.trans hd)
  exact exitedEntry_keepsItem slot e s

theorem entryAt_takeExit (slot k : Slot) (e : Entry) (s : State) :
    entryAt k (takeExit slot e s) = if k = slot then some (exitedEntry slot e s) else entryAt k s := by
  rw [takeExit_eq]
  exact findEntry_putEntry slot k _ _

/-- The exits of entries in different slots, one after another. -/
theorem takeExit_fold_effects (hposting : posting) (l : List (Slot × Entry)) (s : State)
    (hnodup : sound → (l.map (·.1)).Nodup) (hl : sound → ∀ x ∈ l, entryAt x.1 s = some x.2) :
    Effects sound posting s (l.foldl (fun s x => takeExit x.1 x.2 s) s) := by
  induction l generalizing s with
  | nil => exact .refl s
  | cons x rest ih =>
    refine .trans (takeExit_effects hposting fun hsound => hl hsound x (by simp))
      (ih _ (fun hsound => (List.nodup_cons.1 (hnodup hsound)).2) fun hsound y hy => ?_)
    have hne : y.1 ≠ x.1 := fun h =>
      (List.nodup_cons.1 (hnodup hsound)).1 (List.mem_map.2 ⟨y, hy, h⟩)
    rw [entryAt_takeExit, if_neg hne]
    exact hl hsound y (List.mem_cons_of_mem _ hy)

theorem wf_slots_nodup (hs : s.table.wf = true) : (s.table.entries.map (·.1)).Nodup := by
  have h : s.table.entries.Pairwise fun x y => x.1 < y.1 := of_decide_eq_true hs
  exact List.pairwise_map.2 (h.imp fun hlt => ne_of_lt hlt)

theorem leavingEntries_perm (s : State) :
    (leavingEntries s).Perm (s.table.entries.filter fun x => exitDue x.2 s) := sortBy_perm _ _

theorem mem_leavingEntries {x : Slot × Entry} : x ∈ leavingEntries s ↔ x ∈ s.table.entries ∧ exitDue x.2 s = true := by
  rw [(leavingEntries_perm s).mem_iff, List.mem_filter]

theorem leavingEntries_nodup (hs : s.table.wf = true) : ((leavingEntries s).map (·.1)).Nodup :=
  (((leavingEntries_perm s).map _).nodup_iff).2 ((wf_slots_nodup hs).sublist (List.filter_sublist.map _))

theorem takeExits_effects (hposting : posting) (hs : sound → s.table.wf = true) :
    Effects sound posting s (takeExits s) :=
  (takeExit_fold_effects hposting (leavingEntries s) s (fun hsound => leavingEntries_nodup (hs hsound))
    fun hsound _ hx => entryAt_of_mem (hs hsound) (mem_leavingEntries.1 hx).1).settlePosts

theorem takeNextExit_effects (hposting : posting) (hs : sound → s.table.wf = true) :
    Effects sound posting s (takeNextExit s) := by
  rcases takeNextExit_cases s with ⟨_, e⟩ | ⟨x, rest, hx, e⟩ <;> rw [e]
  · exact .refl s
  · have hmem : x ∈ leavingEntries s := by simp [hx]
    exact takeExit_effects hposting fun hsound => entryAt_of_mem (hs hsound) (mem_leavingEntries.1 hmem).1

theorem flushTable_effects (hposting : posting) (s : State) : Effects sound posting s (flushTable s) :=
  (((Effects.refl s).then .flush).then (.laneLists _) |>.then (.doneList _ hposting)).settlePosts

/-! ### The detectors -/

theorem Effects.modifyDetector (h : Effects sound posting s t) (l : Lane) (f : Detector → Detector) :
    Effects sound posting s (modifyDetector l f t) := h.then (.detectors _)

/-- The OPENING entry of a lane, found in a canonical table, is the entry of its slot (R48). -/
theorem openingEntry_spec {l : Lane} {slot : Slot} {e : Entry} (h : openingEntry l s = some (slot, e)) :
    (slot, e) ∈ s.table.entries ∧ e.lane = l ∧ e.state = .opening := by
  have hmem := List.mem_of_find?_eq_some h
  have hp := List.find?_some h
  simp only [Bool.and_eq_true, decide_eq_true_eq] at hp
  exact ⟨hmem, hp⟩

theorem openingEntry_entryAt (hs : s.table.wf = true) {l : Lane} {slot : Slot} {e : Entry}
    (h : openingEntry l s = some (slot, e)) : entryAt slot s = some e ∧ e.state = .opening :=
  ⟨entryAt_of_mem hs (openingEntry_spec h).1, (openingEntry_spec h).2.2⟩

theorem takeLeading_effects (l : Lane) (e : PendingEdge) (s : State) : Effects sound posting s (takeLeading l e s) := by
  unfold takeLeading
  split
  · exact ((Effects.refl s).raise _ _ _).modifyDetector l _
  split
  · exact ((Effects.refl s).raise _ _ _).modifyDetector l _
  split
  · exact (((Effects.refl s).raise _ _ _).then (.counters _)).modifyDetector l _
  · rename_i slot hslot
    exact ((Effects.refl s).modifyDetector l _).trans (openEntry_effects l _ (lowestFreeSlot_some hslot).1)

theorem measure_effects {slot : Slot} {e : Entry} (l : Lane) (trailing : Word)
    (hopening : sound → entryAt slot s = some e ∧ e.state = .opening) :
    Effects sound posting s (measure l slot e trailing s) := by
  unfold measure
  dsimp only
  split
  · exact (discardEntry_effects hopening).raise _ _ _
  · exact confirm_effects hopening _ _

theorem takeTrailing_effects (l : Lane) (e : PendingEdge) (hs : sound → s.table.wf = true) :
    Effects sound posting s (takeTrailing l e s) := by
  unfold takeTrailing openGap
  refine Effects.modifyDetector ?_ l _
  split
  · exact measure_effects l _ fun hsound => openingEntry_entryAt (hs hsound) ‹_›
  · exact .refl s

theorem takeEdge_effects (l : Lane) (e : PendingEdge) (hs : sound → s.table.wf = true) :
    Effects sound posting s (takeEdge l e s) := by
  have hdropped : Effects sound posting s (modifyDetector l ({ · with edge := none }) s) :=
    (Effects.refl s).modifyDetector l _
  unfold takeEdge
  dsimp only
  split
  · exact hdropped.trans (takeTrailing_effects l e fun hsound => hdropped.wf (hs hsound))
  · exact hdropped.trans (takeLeading_effects l e _)

theorem createEdge_effects (l : Lane) (hs : sound → s.table.wf = true) : Effects sound posting s (createEdge l s) := by
  unfold createEdge
  dsimp only
  split
  · exact takeEdge_effects l _ hs
  · exact (Effects.refl s).modifyDetector l _

theorem rawChange_effects (l : Lane) (hs : sound → s.table.wf = true) : Effects sound posting s (rawChange l s) := by
  unfold rawChange
  (repeat' split)
  · exact .refl s
  · exact (Effects.refl s).modifyDetector l _
  · exact createEdge_effects l hs

theorem detectorAdvance_effects (l : Lane) (hs : sound → s.table.wf = true) :
    Effects sound posting s (detectorAdvance l s) := by
  unfold detectorAdvance
  dsimp only
  split
  · split
    · exact (Effects.refl s).modifyDetector l _
    · exact .refl s
  · split
    · exact (confirm_effects (fun hsound => openingEntry_entryAt (hs hsound) ‹_›) _ _).modifyDetector l _
    · exact .refl s
  · exact .refl s

theorem detectorsFromInputs_effects (s : State) : Effects sound posting s (detectorsFromInputs s) :=
  foldl_effects (fun s l => (Effects.refl s).modifyDetector l _) _ s

theorem resample_effects (l : Lane) (hs : sound → s.table.wf = true) : Effects sound posting s (resample s l) := by
  unfold resample
  split
  · exact createEdge_effects l hs
  · exact .refl s

/-! ### The epoch unit and the engine -/

theorem deferCommit_effects (r : CommitResult) (s : State) : Effects sound posting s (deferCommit r s) := by
  unfold deferCommit
  dsimp only
  split
  · exact (Effects.refl s).then (.epochUnit _)
  · exact ((Effects.refl s).then (.epochUnit _)).then (.flag _)

theorem rejectShadow_effects (code : CheckCode) (s : State) : Effects sound posting s (rejectShadow code s) :=
  ((Effects.refl s).then (.epochUnit _)).then (.flag _)

theorem commit_effects (s : State) : Effects sound posting s (commit s) :=
  (((Effects.refl s).then (.epochUnit _)).then (.flag _)).then (.offer _)

theorem commitAttempt_effects (s : State) : Effects sound posting s (commitAttempt s) := by
  rcases commitAttempt_cases s with ⟨_, e⟩ | ⟨_, _, e⟩ | ⟨_, _, _, e⟩ | ⟨_, _, _, ⟨_, _, e⟩ | ⟨_, e⟩⟩ <;> rw [e]
  · exact .refl s
  · exact deferCommit_effects _ s
  · exact deferCommit_effects _ s
  · exact rejectShadow_effects _ s
  · exact commit_effects s

theorem pitchMark_effects (s : State) : Effects sound posting s (pitchMark s) :=
  (commitAttempt_effects s).then (.motion _ ⟨rfl, rfl, rfl, rfl⟩)

theorem Effects.enterStopped (h : Effects sound posting s t) : Effects sound posting s (enterStopped t) :=
  ((h.then (.detectors _)).then (.engine _)).then (.flag _)

theorem Effects.completeDrain (h : Effects sound posting s t) : Effects sound posting s (completeDrain t) := by
  rcases completeDrain_cases t with ⟨_, e⟩ | ⟨_, e⟩ <;> rw [e]
  · exact h.enterStopped
  · exact h

theorem Effects.settleDrain (h : Effects sound posting s t) : Effects sound posting s (settleDrain t) := by
  unfold Machine.settleDrain
  split
  · exact h.completeDrain
  · exact h

theorem freeze_effects (r : FaultReport) (s : State) : Effects sound posting s (freeze r s) := by
  refine .then (.then ?_ (.flag _)) (.offer _)
  exact (((Effects.refl s).then (.engine _)).then (.detectors _)).trans (cutPulses_effects _)

theorem takeReport_effects (r : FaultReport) (s : State) : Effects sound posting s (takeReport r s) := by
  unfold takeReport
  split
  · exact freeze_effects r s
  · exact freeze_effects r s
  · exact (Effects.refl s).then (.engine _)
  · exact .refl s

/-! ### The verdict unit -/

theorem verdictError_effects (hposting : posting) (code : ExceptionCode) (r : VerdictRecord) (s : State) :
    Effects sound posting s (verdictError code r s) :=
  (((Effects.refl s).then (.verdicts { s.verdicts with exceptionCount := satSucc s.verdicts.exceptionCount } hposting
    le_rfl)).then (.flag _)).raise _ _ _

theorem answerLate_effects (hposting : posting) (slot : Slot) (r : VerdictRecord) (s : State) :
    Effects sound posting s (answerLate slot r s) :=
  ((Effects.refl s).addFlags setsFlags_lateVerdict slot).trans (verdictError_effects hposting _ r _)

theorem taggedEntry_spec {l : Lane} {tag : Half} {slot : Slot} {e : Entry} (h : taggedEntry l tag s = some (slot, e)) :
    (slot, e) ∈ s.table.entries ∧ e.lane = l ∧ e.tag = some tag := by
  have hmem := List.mem_of_find?_eq_some h
  have hp := List.find?_some h
  simp only [Bool.and_eq_true, decide_eq_true_eq] at hp
  exact ⟨hmem, hp⟩

/-- R40, R72: the entry that a record names is listed, with the lane and the tag of the record. -/
theorem namedEntry_spec {r : VerdictRecord} {slot : Slot} {e : Entry} (h : namedEntry r s = some (slot, e)) :
    (slot, e) ∈ s.table.entries ∧ laneOf r.lane = some e.lane ∧ e.tag = some r.tag := by
  unfold namedEntry at h
  split at h
  · cases h
  · rename_i l hl
    obtain ⟨hmem, hlane, htag⟩ := taggedEntry_spec h
    exact ⟨hmem, hlane ▸ hl, htag⟩

theorem appliedEntry_keepsItem {e : Entry} (c : Class) (hv : e.verdict = none) : KeepsItem e (appliedEntry e c) :=
  ⟨.held, _, e.flags, e.fired, rfl, by simp, fun h => absurd hv h, .refl _ _⟩

theorem settleVerdict_effects (hposting : posting) (r : VerdictRecord) (hs : sound → s.table.wf = true) :
    Effects sound posting s (settleVerdict r s) := by
  unfold settleVerdict
  split
  · exact verdictError_effects hposting _ r s
  · rename_i slot e hnamed
    split
    · rename_i hv
      split
      · refine (Effects.refl s).then (.write slot _ fun hsound d hd _ => ?_)
        have he := entryAt_of_mem (hs hsound) (namedEntry_spec hnamed).1
        obtain rfl := Option.some.inj (he.symm.trans hd)
        exact appliedEntry_keepsItem r.cls hv
      · exact answerLate_effects hposting slot r s
    · split
      · exact verdictError_effects hposting _ r s
      · exact verdictError_effects hposting _ r s
      · exact answerLate_effects hposting slot r s

/-! ### The work of an advance -/

theorem doWork_effects (fixed : Option (List Slot)) (w : AdvanceWork) (hposting : posting)
    (hs : sound → s.table.wf = true) : Effects sound posting s (doWork fixed w s).1 := by
  cases w with
  | channel n => exact channelAdvance_effects n s
  | channelEvent n => exact channelEvent_effects n s
  | detector l => exact detectorAdvance_effects l hs
  | decisions => exact takeDecisions_effects _ s
  | decision => exact takeDecisions_effects _ s
  | exits => exact takeExits_effects hposting hs
  | exit => exact takeNextExit_effects hposting hs
  | posts => exact (Effects.refl s).serveDone
  | mark =>
    simp only [doWork]
    split
    · exact pitchMark_effects s
    · exact .refl s
  | pitchActions => exact placePitchActions_effects _ s
  | levelChange l => exact rawChange_effects l hs
  | drainCompletion => exact (Effects.refl s).completeDrain

theorem runWork_effects (hposting : posting) (hs : sound → s.table.wf = true) (fuel : Nat)
    (first left : List AdvanceWork) (fixed : Option (List Slot)) :
    Effects sound posting s (runWork fuel first left fixed s) :=
  runWork_keeps (fun t => Effects sound posting s t)
    (fun fixed w _ _ h => h.trans (doWork_effects fixed w hposting fun hsound => h.wf (hs hsound))) fuel first left fixed
    s (.refl s)

theorem advanceOnce_effects (hposting : posting) (hs : sound → s.table.wf = true) (first : List AdvanceWork) :
    Effects sound posting s (advanceOnce first s) := by
  have hstep : Effects sound posting s (stepForward s) := (Effects.refl s).then (.motion _ ⟨rfl, rfl, rfl, rfl⟩)
  have hwork := runWork_effects (s := stepForward s) hposting hs (29 + first.length) first advanceWork none
  exact (hstep.trans hwork).settlePosts.settleDrain

/-! ### The commands of the command register -/

theorem Effects.finishCommand (h : Effects sound posting s t) (code : Byte) (r : CommandResult) :
    Effects sound posting s (finishCommand code r t) := by
  unfold Machine.finishCommand
  dsimp only
  split
  · exact h.then (.engine _)
  · exact (h.then (.engine _)).then (.flag _)

theorem Effects.setEngineState (h : Effects sound posting s t) (e : EngineState) :
    Effects sound posting s (setEngineState e t) := h.then (.engine { t.engine with state := e })

theorem beginRun_effects (committing : Bool) (s : State) : Effects sound posting s (beginRun committing s) := by
  have hbegun : ∀ u, Effects sound posting s u → Effects sound posting s
      (setEngineState .running (detectorsFromInputs { u with
        motion := { u.motion with m := u.motion.h + (currentBank u).pitch, phaseErrors := 0, reports := [] },
        epochUnit := { u.epochUnit with deferral := false } })) := fun u hu =>
    (((hu.then (.motion { u.motion with m := u.motion.h + (currentBank u).pitch, phaseErrors := 0, reports := [] }
      ⟨rfl, rfl, rfl, rfl⟩)).then (.epochUnit { u.epochUnit with deferral := false })).trans
      (detectorsFromInputs_effects _)).setEngineState _
  have hmoved : Effects sound posting s { s with motion := { s.motion with h := s.motion.p } } :=
    (Effects.refl s).then (.motion _ ⟨rfl, rfl, rfl, rfl⟩)
  cases committing with
  | true => exact hbegun _ (hmoved.trans (commit_effects _))
  | false => exact hbegun _ hmoved

theorem commandStart_effects (s : State) : Effects sound posting s (commandStart s) := by
  unfold commandStart
  (repeat' split)
  · exact (Effects.refl s).finishCommand _ _
  · exact (beginRun_effects true s).finishCommand _ _
  · exact (rejectShadow_effects _ s).finishCommand _ _
  · exact (beginRun_effects false s).finishCommand _ _
  · exact ((Effects.refl s).then (.epochUnit _)).finishCommand _ _

theorem commandStop_effects (s : State) : Effects sound posting s (commandStop s) := by
  unfold commandStop
  split
  · exact ((Effects.refl s).then (.engine _)).completeDrain.finishCommand _ _
  · exact (Effects.refl s).finishCommand _ _

theorem takeBack_effects (s : State) (n : Channel) : Effects sound posting s (takeBack s n) := by
  unfold takeBack
  split
  · exact takeDeferred_effects n s
  · exact .refl s

theorem resumeRun_effects (first : List Lane) (hs : sound → s.table.wf = true) :
    Effects sound posting s (resumeRun first s) := by
  have hresampled : ∀ (l : List Lane) (u : State), Effects sound posting s u →
      Effects sound posting s (l.foldl resample u) := fun l u hu =>
    foldl_keeps (fun t => Effects sound posting s t) resample
      (fun t x h => h.trans (resample_effects x fun hsound => h.wf (hs hsound))) l u hu
  have hbegun : Effects sound posting s { s with
      engine := { s.engine with state := s.engine.frozenFrom.getD .running, frozenFrom := none },
      motion := { s.motion with phaseErrors := 0 } } :=
    ((Effects.refl s).then (.motion { s.motion with phaseErrors := 0 } ⟨rfl, rfl, rfl, rfl⟩)).then (.engine _)
  have hall := (hresampled (preferred first allLanes) _ hbegun).trans (foldl_effects takeBack_effects allChannels _)
  exact hall.completeDrain

theorem commandResume_effects (first : List Lane) (hs : sound → s.table.wf = true) :
    Effects sound posting s (commandResume first s) := by
  unfold commandResume
  (repeat' split)
  · exact (Effects.refl s).finishCommand _ _
  · exact (resumeRun_effects first hs).finishCommand _ _
  · exact (Effects.refl s).finishCommand _ _

theorem commandFlush_effects (hposting : posting) (s : State) : Effects sound posting s (commandFlush s) := by
  unfold commandFlush flushLine
  split
  · exact (Effects.refl s).finishCommand _ _
  · exact (((flushSchedule_effects s).trans (flushTable_effects hposting _)).trans
      (detectorsFromInputs_effects _)).enterStopped.finishCommand _ _

theorem commandCommit_effects (s : State) : Effects sound posting s (commandCommit s) := by
  unfold commandCommit
  (repeat' split)
  · exact (Effects.refl s).finishCommand _ _
  · exact (Effects.refl s).finishCommand _ _
  · exact (Effects.refl s).finishCommand _ _
  · exact (commit_effects s).finishCommand _ _
  · exact (rejectShadow_effects _ s).finishCommand _ _

/-! ### The register window -/

theorem refuseAccess_effects (a : Addr) (s : State) : Effects sound posting s (refuseAccess a s) :=
  ((Effects.refl s).then (.window _)).then (.flag _)

theorem readAddress_effects (a : Addr) (s : State) : Effects sound posting s (readAddress a s) := by
  refine .then ?_ (.window _)
  unfold takeSnapshot
  split
  · exact (Effects.refl s).then (.window _)
  · exact .refl s

theorem hostRead_effects (a : Addr) (s : State) : Effects sound posting s (hostRead a s) := by
  unfold hostRead
  split
  · split
    · exact ((Effects.refl s).then (.window _)).trans (readAddress_effects a _)
    · exact .refl s
  · split
    · exact readAddress_effects a s
    · exact .refl s
  · exact .refl s

theorem takeControl_effects (v : Byte) (s : State) : Effects sound posting s (takeControl v s) := by
  unfold takeControl
  (repeat' split)
  · exact ((Effects.refl s).then (.window _)).then (.window _)
  · exact (((Effects.refl s).then (.flag _)).then (.window _)).then (.window _)
  · exact .refl s

theorem takeAddress_effects (v : Byte) (s : State) : Effects sound posting s (takeAddress v s) := by
  unfold takeAddress
  split
  · exact (Effects.refl s).then (.window _)
  · dsimp only
    split
    · exact ((Effects.refl s).then (.window _)).trans (readAddress_effects _ _)
    · exact (Effects.refl s).then (.window _)
  · exact .refl s

/-! ### The events -/

theorem legalSample_effects (sample : Phases) (s : State) : Effects sound posting s (legalSample sample s) := by
  have hmotion := legalSample_motion s sample
  have heq : legalSample sample s = { s with motion := (legalSample sample s).motion } := by
    unfold legalSample takeCount raiseFault
    dsimp only
    (repeat' split) <;> rfl
  rw [heq]
  exact (Effects.refl s).then (.motion _ ⟨by rw [hmotion], by rw [hmotion], by rw [hmotion], by rw [hmotion]⟩)

theorem illegalSample_effects (sample : Phases) (s : State) : Effects sound posting s (illegalSample sample s) := by
  rw [illegalSample_eq]
  exact (Effects.refl s).then (.motion _ ⟨rfl, rfl, rfl, rfl⟩)

theorem takeVerdict_effects (hposting : posting) (hs : sound → s.table.wf = true) :
    Effects sound posting s (takeVerdict s) := by
  unfold takeVerdict
  split
  · exact .refl s
  · rename_i r rest hfifo
    have htaken : Effects sound posting s { s with verdicts := { s.verdicts with fifo := rest } } :=
      (Effects.refl s).then (.verdicts { s.verdicts with fifo := rest } hposting (by simp [hfifo]))
    exact (htaken.trans (settleVerdict_effects hposting r fun hsound => htaken.wf (hs hsound))).settlePosts

theorem Effects.elapseTo (h : Effects sound posting s t) (k : Nat) : Effects sound posting s (elapseTo k t) :=
  h.then (.motion _ ⟨rfl, rfl, rfl, rfl⟩)

/-- Every event of the part but a pin reset is a chain of effects. An ADVANCE and a VERDICT_TAKE post at their ends. -/
theorem exec_event_effects {c : Instr} (hbyte : c.byteWritten = none) (hreset : ∀ levels, c ≠ .pinReset levels)
    (hposting : (∃ first, c = .advance first) ∨ c = .verdictTake → posting) (hs : sound → s.table.wf = true)
    (h : exec c s = .next t) : Effects sound posting s t := by
  cases c with
  | pinReset levels => exact absurd rfl (hreset levels)
  | legalTransition phase => cases h; exact legalSample_effects _ s
  | illegalTransition => cases h; exact illegalSample_effects _ s
  | advance first =>
    cases h
    split
    · exact advanceOnce_effects (hposting (.inl ⟨first, rfl⟩)) hs first
    · exact .refl s
  | microsecondsPulseEnd n =>
    cases h
    split
    · exact .refl s
    · split
      · exact (((Effects.refl s).elapseTo _).trans (endPulse_effects n _)).settleDrain
      · exact .refl s
  | recoveryExpiry n =>
    cases h
    split
    · have hidle : Effects sound posting s (setChannelState n .idle (elapseTo ‹_› s)) :=
        ((Effects.refl s).elapseTo _).then (.channel _ _)
      unfold expireRecovery
      dsimp only
      split
      · exact hidle.trans (takeDeferred_effects n _)
      · exact hidle
    · exact .refl s
  | speedWindowEnd => cases h; exact ((Effects.refl s).elapseTo _).then (.motion _ ⟨rfl, rfl, rfl, rfl⟩)
  | rawInputChange l high =>
    cases h
    split
    · exact .refl s
    · have hdet : Effects sound posting s (setDet l high s) := (Effects.refl s).then (.det _)
      exact (hdet.trans (rawChange_effects l fun hsound => hdet.wf (hs hsound))).settleDrain
  | debounceExpiry l =>
    cases h
    split
    · exact .refl s
    · rename_i e _
      split
      · have helapsed : Effects sound posting s (Machine.elapseTo e.expires s) := (Effects.refl s).elapseTo _
        exact (helapsed.trans (takeEdge_effects l _ fun hsound => helapsed.wf (hs hsound))).settleDrain
      · exact .refl s
  | faultReport =>
    cases h
    split
    · exact .refl s
    · rename_i r rest _
      have htaken : Effects sound posting s { s with motion := { s.motion with reports := rest } } :=
        (Effects.refl s).then (.motion { s.motion with reports := rest } ⟨rfl, rfl, rfl, rfl⟩)
      exact htaken.trans (takeReport_effects r _)
  | verdictTake => cases h; exact takeVerdict_effects (hposting (.inr rfl)) hs
  | outcomePost => cases h; exact (Effects.refl s).serveDone
  | drainComplete => cases h; exact (Effects.refl s).completeDrain
  | frameBegin =>
    cases h
    unfold beginFrame
    split
    · exact ((Effects.refl s).then (.window _)).then (.window _)
    · exact .refl s
  | controlByte value => cases h; exact takeControl_effects value s
  | frameEnd => cases h; exact (Effects.refl s).then (.window _)
  | snapshotRead addr => cases h; exact hostRead_effects addr s
  | addressByte value => cases h; exact takeAddress_effects value s
  | _ => cases hbyte

/-- A byte of the command register other than POP and ENGINE_RESET is a chain of effects; a FLUSH posts at its end. -/
theorem writeCommand_effects {code : Byte} (hreset : code ≠ 6) (hpop : code ≠ 7) (hposting : code = 4 → posting)
    (hs : sound → s.table.wf = true) : Effects sound posting s (writeCommand code s) := by
  unfold writeCommand
  split
  · exact commandStart_effects s
  split
  · exact commandStop_effects s
  split
  · exact commandResume_effects [] hs
  split
  · exact commandFlush_effects (hposting ‹_›) s
  split
  · exact commandCommit_effects s
  · exact refuseAccess_effects _ s

/-- R172: a byte written anywhere but at the command register leaves the line as it is: the table but for the inspection
snapshot, the schedule, the queue but for its threshold, and the engine. -/
theorem writeAddress_line {a : Addr} (v : Byte) (s : State) (h : target a ≠ .command) :
    (writeAddress a v s).table = { s.table with inspection := (writeAddress a v s).table.inspection } ∧
    (writeAddress a v s).schedule = s.schedule ∧
    (writeAddress a v s).queue = { s.queue with threshold := (writeAddress a v s).queue.threshold } ∧
    (writeAddress a v s).engine = s.engine := by
  unfold writeAddress
  cases htarget : target a with
  | command => exact absurd htarget h
  | threshold => simp only [writeThreshold]; split <;> simp
  | inspectionSelect => simp [writeInspection, inspect]
  | _ => simp

end Sys2Proof.Machine
end

section
set_option Elab.async false
/-! PROOFS. The bounds of the part (R4, R56, R65, R107, R157, R165): the capacities and the ranges under every effect, and
the posting that leaves an entry in DONE only for a full queue or a waiting take. -/

namespace Sys2Proof.Machine

/-- The queue, the FIFO and the schedule within their capacities, the threshold and the phase-error limit in their
ranges: the bounds but for the one on the DONE list. -/
def Capacities (s : State) : Prop :=
  s.queue.records.length ≤ 64 ∧ s.verdicts.fifo.length ≤ 16 ∧ s.schedule.length ≤ 128 ∧
  (1 ≤ s.queue.threshold.toNat ∧ s.queue.threshold.toNat ≤ 64) ∧ 1 ≤ s.motion.phaseLimit.toNat

/-- R56: an entry waits in DONE only where no place is free or a verdict record waits for its take. -/
def DoneServed (s : State) : Prop := s.table.doneList ≠ [] → 64 ≤ s.queue.records.length ∨ s.verdicts.fifo ≠ []

theorem bounded_iff (s : State) : Bounded s ↔ Capacities s ∧ DoneServed s := by
  unfold Bounded Capacities DoneServed
  constructor
  · rintro ⟨hrecords, hfifo, hschedule, hthreshold, hlimit, hdone⟩
    exact ⟨⟨hrecords, hfifo, hschedule, hthreshold, hlimit⟩, fun h => (hdone h).imp_left Eq.ge⟩
  · rintro ⟨⟨hrecords, hfifo, hschedule, hthreshold, hlimit⟩, hdone⟩
    exact ⟨hrecords, hfifo, hschedule, hthreshold, hlimit, fun h => (hdone h).imp_left (le_antisymm hrecords)⟩

variable {sound posting : Prop} {s t : State}

/-! ### The bounds under the effects -/

/-- A posting takes one place where one is free. -/
theorem postOutcome_records_length (h : s.queue.records.length ≤ 64) : (postOutcome s).queue.records.length ≤ 64 := by
  rcases postOutcome_cases s with ⟨_, e⟩ | ⟨_, e⟩ | ⟨_, _, _, hdepth, ⟨_, e⟩ | ⟨_, _, e⟩⟩ <;> rw [e]
  · exact h
  · exact h
  · exact h
  · simpa [depth] using hdepth

theorem postOutcome_threshold (s : State) : (postOutcome s).queue.threshold = s.queue.threshold := by
  rcases postOutcome_cases s with ⟨_, e⟩ | ⟨_, e⟩ | ⟨_, _, _, _, ⟨_, e⟩ | ⟨_, _, e⟩⟩ <;> rw [e]

theorem offer_threshold (r : Report) (s : State) : (offer r s).queue.threshold = s.queue.threshold := by
  rcases offer_cases s r with ⟨_, e⟩ | ⟨_, e⟩ <;> rw [e]

theorem Effect.capacities (h : Effect sound posting s t) (hs : Capacities s) : Capacities t := by
  obtain ⟨hrecords, hfifo, hschedule, hthreshold, hlimit⟩ := hs
  cases h with
  | offer r => exact ⟨offer_depth s r hrecords, by simpa using hfifo, by simpa using hschedule,
      by rwa [offer_threshold], by simpa using hlimit⟩
  | post => exact ⟨postOutcome_records_length hrecords, by simpa using hfifo, by simpa using hschedule,
      by rwa [postOutcome_threshold], by simpa using hlimit⟩
  | amend slot f => exact ⟨by simpa using hrecords, by simpa using hfifo, by simpa using hschedule,
      by simpa using hthreshold, by simpa using hlimit⟩
  | schedule l hl => exact ⟨hrecords, hfifo, hl.trans (max_le le_rfl hschedule), hthreshold, hlimit⟩
  | motion m hm => exact ⟨hrecords, hfifo, hschedule, hthreshold, hm.2.2.2 ▸ hlimit⟩
  | verdicts v _ hv => exact ⟨hrecords, hv.trans hfifo, hschedule, hthreshold, hlimit⟩
  | _ => exact ⟨hrecords, hfifo, hschedule, hthreshold, hlimit⟩

theorem Effects.capacities (h : Effects sound posting s t) (hs : Capacities s) : Capacities t :=
  h.keeps_pred (fun _ _ => Effect.capacities) hs

/-- From s to t no entry joins the DONE list, no record leaves the queue and no verdict record is taken. -/
def AddsNoWait (s t : State) : Prop :=
  (t.table.doneList ≠ [] → s.table.doneList ≠ []) ∧ s.queue.records.length ≤ t.queue.records.length ∧
    t.verdicts.fifo = s.verdicts.fifo

theorem offer_records_length (r : Report) (s : State) :
    s.queue.records.length ≤ (offer r s).queue.records.length := by
  rcases offer_cases s r with ⟨_, e⟩ | ⟨_, e⟩ <;> rw [e]
  simp

theorem postOutcome_addsNoWait (s : State) : AddsNoWait s (postOutcome s) := by
  rcases postOutcome_cases s with ⟨_, e⟩ | ⟨_, e⟩ | ⟨_, _, hdone, _, ⟨_, e⟩ | ⟨_, _, e⟩⟩ <;> rw [e]
  · exact ⟨id, le_rfl, rfl⟩
  · exact ⟨id, le_rfl, rfl⟩
  · exact ⟨by simp [hdone], le_rfl, rfl⟩
  · exact ⟨by simp [hdone], by simp, rfl⟩

/-- An effect of an event that does not post makes no entry wait. -/
theorem Effect.addsNoWait (h : Effect sound False s t) : AddsNoWait s t := by
  cases h with
  | offer r => exact ⟨by simp, offer_records_length r s, by simp⟩
  | post => exact postOutcome_addsNoWait s
  | amend slot f => exact ⟨by rw [modifyEntry_table]; exact id, by simp, by simp⟩
  | doneList _ hposting => exact hposting.elim
  | verdicts _ hposting => exact hposting.elim
  | _ => exact ⟨id, le_rfl, rfl⟩

theorem Effects.addsNoWait (h : Effects sound False s t) : AddsNoWait s t :=
  h.keeps (fun _ => ⟨id, le_rfl, rfl⟩)
    (fun _ _ _ ⟨hdone, hrecords, hfifo⟩ ⟨hdone', hrecords', hfifo'⟩ =>
      ⟨hdone ∘ hdone', hrecords.trans hrecords', hfifo'.trans hfifo⟩)
    fun _ _ => Effect.addsNoWait

theorem AddsNoWait.doneServed (h : AddsNoWait s t) (hs : DoneServed s) : DoneServed t := fun hne =>
  (hs (h.1 hne)).imp (fun hfull => hfull.trans h.2.1) fun hfifo => by rwa [h.2.2]

/-- The bounds go through an event that does not post. -/
theorem Effects.bounded (h : Effects sound False s t) (hs : Bounded s) : Bounded t := by
  rw [bounded_iff] at hs ⊢
  exact ⟨h.capacities hs.1, h.addsNoWait.doneServed hs.2⟩

/-! ### The posting -/

/-- R56: with as many postings as entries wait, none waits any more or the queue is full. -/
theorem postOutcomes_served (n : Nat) (s : State) (h : s.table.doneList.length ≤ n) :
    (postOutcomes n s).table.doneList = [] ∨ 64 ≤ (postOutcomes n s).queue.records.length := by
  induction n generalizing s with
  | zero => exact .inl (List.length_eq_zero_iff.1 (Nat.le_zero.1 h))
  | succ n ih =>
    by_cases hidle : s.table.doneList = [] ∨ 64 ≤ depth s
    · have hrun : ∀ k, postOutcomes k s = s := by
        intro k
        induction k with
        | zero => rfl
        | succ k ihk =>
          have hpost : postOutcome s = s := by
            rcases postOutcome_cases s with ⟨_, e⟩ | ⟨_, e⟩ | ⟨slot, rest, hdone, hdepth, _⟩
            · exact e
            · exact e
            · rcases hidle with h | h
              · simp [hdone] at h
              · omega
          rw [postOutcomes, hpost, ihk]
      rw [hrun]
      exact hidle
    · refine ih _ ?_
      rcases postOutcome_cases s with ⟨hdone, _⟩ | ⟨hdepth, _⟩ | ⟨_, _, hdone, _, ⟨_, e⟩ | ⟨_, _, e⟩⟩
      · exact absurd (.inl hdone) hidle
      · exact absurd (.inr hdepth) hidle
      · rw [e]; simp [hdone] at h; exact h
      · rw [e]; simp [hdone] at h; exact h

theorem serveDone_doneServed (s : State) : DoneServed (serveDone s) := fun hne =>
  .inl ((postOutcomes_served _ s le_rfl).resolve_left hne)

theorem settlePosts_doneServed (s : State) : DoneServed (settlePosts s) := by
  rcases settlePosts_cases s with ⟨_, e⟩ | ⟨hfifo, e⟩ <;> rw [e]
  · exact serveDone_doneServed s
  · exact fun _ => .inr hfifo

/-- The bounds hold after an event that posts, and after what it still does then. -/
theorem bounded_of_posted {u : State} (hs : Capacities s) (h : Effects sound True s t) (hserved : DoneServed t)
    (h' : Effects sound False t u) : Bounded u :=
  h'.bounded ((bounded_iff t).2 ⟨h.capacities hs, hserved⟩)

theorem advanceOnce_bounded (first : List AdvanceWork) (hs : Bounded s) : Bounded (advanceOnce first s) := by
  have hstep : Effects False True s (stepForward s) := (Effects.refl s).then (.motion _ ⟨rfl, rfl, rfl, rfl⟩)
  have hwork := runWork_effects (s := stepForward s) (sound := False) trivial False.elim (29 + first.length) first advanceWork none
  exact bounded_of_posted ((bounded_iff s).1 hs).1 (hstep.trans hwork).settlePosts (settlePosts_doneServed _)
    (Effects.refl _).settleDrain

theorem takeVerdict_bounded (hs : Bounded s) : Bounded (takeVerdict s) := by
  unfold takeVerdict
  split
  · exact hs
  · rename_i r rest hfifo
    have htaken : Effects False True s { s with verdicts := { s.verdicts with fifo := rest } } :=
      (Effects.refl s).then (.verdicts { s.verdicts with fifo := rest } trivial (by simp [hfifo]))
    exact bounded_of_posted ((bounded_iff s).1 hs).1
      (htaken.trans (settleVerdict_effects trivial r False.elim)).settlePosts (settlePosts_doneServed _) (Effects.refl _)

theorem flushTable_doneServed (s : State) : DoneServed (flushTable s) := settlePosts_doneServed _

theorem commandFlush_bounded (hs : Bounded s) : Bounded (commandFlush s) := by
  unfold commandFlush flushLine
  split
  · exact ((Effects.refl s : Effects False False s s).finishCommand _ _).bounded hs
  · exact bounded_of_posted (sound := False) ((bounded_iff s).1 hs).1
      ((flushSchedule_effects s).trans (flushTable_effects trivial _)) (flushTable_doneServed _)
      ((detectorsFromInputs_effects _).enterStopped.finishCommand _ _)

theorem commandPop_bounded (hs : Bounded s) : Bounded (commandPop s) := by
  unfold commandPop
  split
  · exact ((Effects.refl s : Effects False False s s).finishCommand _ _).bounded hs
  · rename_i r rest hrecords
    obtain ⟨hdepth, hfifo, hschedule, hthreshold, hlimit, _⟩ := hs
    have hpopped : Capacities { s with queue := { s.queue with records := rest } } :=
      ⟨by simp [hrecords] at hdepth; simp; omega, hfifo, hschedule, hthreshold, hlimit⟩
    exact bounded_of_posted (sound := False) hpopped (Effects.refl _).serveDone (serveDone_doneServed _)
      ((Effects.refl _).finishCommand _ _)

theorem commandReset_bounded (hs : Bounded s) : Bounded (commandReset s) := by
  obtain ⟨_, _, _, hthreshold, hlimit, _⟩ := hs
  exact ⟨by simp [commandReset], by simp [commandReset, Verdicts.reset], by simp [commandReset, resetChannels],
    hthreshold, hlimit, fun h => absurd rfl h⟩

/-! ### The written bytes -/

theorem writeCommand_bounded (code : Byte) (hs : Bounded s) : Bounded (writeCommand code s) := by
  by_cases hflush : code = 4
  · subst hflush; exact commandFlush_bounded hs
  by_cases hreset : code = 6
  · subst hreset; exact commandReset_bounded hs
  by_cases hpop : code = 7
  · subst hpop; exact commandPop_bounded hs
  · exact (writeCommand_effects (sound := False) hreset hpop (absurd · hflush) False.elim).bounded hs

/-- R65: a push joins a FIFO with room. -/
theorem pushVerdict_fifo_length (h : s.verdicts.fifo.length ≤ 16) : (pushVerdict s).verdicts.fifo.length ≤ 16 := by
  unfold pushVerdict
  split
  · simpa using ‹_›
  · exact h

theorem pushVerdict_fifo_ne_nil (h : s.verdicts.fifo ≠ []) : (pushVerdict s).verdicts.fifo ≠ [] := by
  unfold pushVerdict
  split
  · simp
  · exact h

/-- A written byte keeps the FIFO within its 16 places, and takes no record from it. -/
theorem writeAddress_fifo {a : Addr} (v : Byte) (hcommand : target a ≠ .command) (h : s.verdicts.fifo.length ≤ 16) :
    (writeAddress a v s).verdicts.fifo.length ≤ 16 ∧
    (s.verdicts.fifo ≠ [] → (writeAddress a v s).verdicts.fifo ≠ []) := by
  unfold writeAddress
  cases htarget : target a with
  | command => exact absurd htarget hcommand
  | verdictClass =>
    simp only [writeClass]
    split
    · exact ⟨pushVerdict_fifo_length h, fun hne => pushVerdict_fifo_ne_nil hne⟩
    · exact ⟨h, id⟩
  | _ => exact ⟨by simpa using h, by simp⟩

/-- R165: a threshold written is stored from 1 to 64. -/
theorem writeAddress_threshold {a : Addr} (v : Byte) (hcommand : target a ≠ .command)
    (h : 1 ≤ s.queue.threshold.toNat ∧ s.queue.threshold.toNat ≤ 64) :
    1 ≤ (writeAddress a v s).queue.threshold.toNat ∧ (writeAddress a v s).queue.threshold.toNat ≤ 64 := by
  unfold writeAddress
  cases htarget : target a with
  | command => exact absurd htarget hcommand
  | threshold =>
    simp only [writeThreshold]
    split
    · assumption
    · exact h
  | _ => simpa using h

/-- R4: a phase-error limit written is stored as 1 where it is 0. -/
theorem writeAddress_phaseLimit {a : Addr} (v : Byte) (hcommand : target a ≠ .command)
    (h : 1 ≤ s.motion.phaseLimit.toNat) : 1 ≤ (writeAddress a v s).motion.phaseLimit.toNat := by
  unfold writeAddress
  cases htarget : target a with
  | command => exact absurd htarget hcommand
  | phaseLimit =>
    simp only [writePhaseLimit, stoppedOnly]
    split
    · split
      · rename_i hle
        by_cases hv : v = 0
        · simp [hv]
        · have hne : v.toNat ≠ 0 := fun h0 => hv (BitVec.eq_of_toNat_eq h0)
          simp only [if_neg hv, BitVec.toNat_setWidth]
          omega
      · exact h
    · exact h
  | decodeMode => simp only [writeDecodeMode, stoppedOnly]; (repeat' split) <;> exact h
  | invert => simp only [writeInvert, stoppedOnly]; split <;> exact h
  | backlash => simp only [writeBacklash, stoppedOnly]; split <;> exact h
  | _ => simpa using h

theorem writeAddress_bounded (a : Addr) (v : Byte) (hs : Bounded s) : Bounded (writeAddress a v s) := by
  by_cases hcommand : target a = .command
  · obtain rfl := target_eq_command hcommand
    exact writeCommand_bounded v hs
  obtain ⟨hrecords, hfifo, hschedule, hthreshold, hlimit, hdone⟩ := hs
  obtain ⟨htable, hsched, hqueue, _⟩ := writeAddress_line v s hcommand
  obtain ⟨hfifo', hwaits⟩ := writeAddress_fifo v hcommand hfifo
  refine ⟨?_, hfifo', ?_, writeAddress_threshold v hcommand hthreshold, writeAddress_phaseLimit v hcommand hlimit, ?_⟩
  · rw [hqueue]; exact hrecords
  · rw [hsched]; exact hschedule
  · rw [htable, hqueue]
    exact fun hne => (hdone hne).imp_right hwaits

/-- The window moves on past a data byte and touches nothing that the bounds speak of. -/
theorem hostWrite_bounded (a : Addr) {effect : State → State} (heffect : Bounded s → Bounded (effect s)) (hs : Bounded s) :
    Bounded (hostWrite a effect s) := by
  unfold hostWrite
  split
  · split
    · unfold stepAddress
      split <;> exact heffect hs
    · exact hs
  · split
    · exact heffect hs
    · exact hs
  · exact hs

/-! ### Every step -/

theorem exec_bounded {c : Instr} (hs : Bounded s) (h : exec c s = .next t) : Bounded t := by
  cases hbyte : c.byteWritten with
  | some byte =>
    obtain ⟨a, v⟩ := byte
    rcases exec_of_byteWritten s hbyte with hexec | ⟨first, rfl, rfl, rfl⟩
    · obtain rfl : hostWrite a (writeAddress a v) s = t := by simpa [hexec] using h
      exact hostWrite_bounded a (writeAddress_bounded a v) hs
    · cases h
      exact hostWrite_bounded _ (commandResume_effects (sound := False) first False.elim).bounded hs
  | none =>
    by_cases hreset : ∃ levels, c = .pinReset levels
    · obtain ⟨levels, rfl⟩ := hreset
      cases h
      have hthreshold : 1 ≤ (1 : Byte).toNat ∧ (1 : Byte).toNat ≤ 64 := by decide
      have hlimit : 1 ≤ (4 : BitVec 4).toNat := by decide
      exact ⟨Nat.zero_le _, Nat.zero_le _, Nat.zero_le _, hthreshold, hlimit, fun hne => absurd rfl hne⟩
    by_cases hadvance : ∃ first, c = .advance first
    · obtain ⟨first, rfl⟩ := hadvance
      cases h
      split
      · exact advanceOnce_bounded first hs
      · exact hs
    by_cases htake : c = .verdictTake
    · subst htake
      cases h
      exact takeVerdict_bounded hs
    · exact (exec_event_effects (sound := False) hbyte (not_exists.1 hreset) (fun h => h.elim hadvance htake) False.elim
        h).bounded hs

theorem idleStep_bounded (hs : Bounded s) : Bounded (idleStep s) := by
  unfold idleStep
  dsimp only
  split <;> exact hs

/-- Settles O58: the step on an empty queue passes a tick or queues events, and every command keeps the bounds
(`exec_bounded`). -/
theorem everyStepKeepsTheBounds : Obligations.EveryStepKeepsTheBounds := by
  intro s t hs h
  cases hpending : s.pending with
  | nil =>
    obtain rfl : idleStep s = t := by simpa [step_nil s hpending] using h
    exact idleStep_bounded hs
  | cons c rest =>
    rw [step_cons s c rest hpending] at h
    exact exec_bounded (s := { s with pending := rest }) hs h

end Sys2Proof.Machine
end

section
set_option Elab.async false
/-! PROOFS. Rules of every command: each answers a next state and leaves the queue of commands alone; H, the sticky flags, the
report queue and the confirmed items under every command. Each rule is asked of the effects once and then of the data bytes
that are none: POP, ENGINE_RESET and the settings. -/

namespace Sys2Proof.Machine

variable {sound posting : Prop} {c : Instr} {s t : State}

/-! ### Every command answers -/

theorem exec_answers (c : Instr) (s : State) : ∃ t, exec c s = .next t := by
  cases c <;> exact ⟨_, rfl⟩

/-- From s to t the commands that are waiting and the model's own counter stay. -/
def QueueKept (s t : State) : Prop := t.pending = s.pending ∧ t.freeCount = s.freeCount

theorem Effect.queueKept (h : Effect sound posting s t) : QueueKept s t := by
  cases h with
  | offer | amend | post => exact ⟨by simp, by simp⟩
  | _ => exact ⟨rfl, rfl⟩

theorem Effects.queueKept (h : Effects sound posting s t) : QueueKept s t :=
  h.keeps (fun _ => ⟨rfl, rfl⟩) (fun _ _ _ h h' => ⟨h'.1.trans h.1, h'.2.trans h.2⟩) fun _ _ => Effect.queueKept

/-- A data byte is the effect of its address or changes nothing, and then moves only the window on. -/
theorem hostWrite_keeps {P : State → Prop} (a : Addr) {effect : State → State} (heffect : P (effect s)) (hs : P s)
    (hwindow : ∀ u w, P u → P { u with window := w }) : P (hostWrite a effect s) := by
  unfold hostWrite
  split
  · split
    · unfold stepAddress
      split
      · exact hwindow _ _ heffect
      · exact heffect
    · exact hs
  · split
    · exact hwindow _ _ heffect
    · exact hs
  · exact hs

theorem writeCommand_queueKept (code : Byte) (s : State) : QueueKept s (writeCommand code s) := by
  by_cases hreset : code = 6
  · subst hreset; exact ⟨rfl, rfl⟩
  by_cases hpop : code = 7
  · subst hpop; exact ⟨commandPop_pending s, commandPop_freeCount s⟩
  · exact (writeCommand_effects (sound := False) hreset hpop (posting := True) (fun _ => trivial) False.elim).queueKept

theorem writeAddress_queueKept (a : Addr) (v : Byte) (s : State) : QueueKept s (writeAddress a v s) := by
  unfold writeAddress
  cases target a with
  | command => exact writeCommand_queueKept v s
  | _ => exact ⟨by simp, by simp⟩

theorem exec_queueKept (h : exec c s = .next t) : QueueKept s t := by
  cases hbyte : c.byteWritten with
  | some byte =>
    obtain ⟨a, v⟩ := byte
    rcases exec_of_byteWritten s hbyte with hexec | ⟨first, rfl, rfl, rfl⟩
    · obtain rfl : hostWrite a (writeAddress a v) s = t := by simpa [hexec] using h
      exact hostWrite_keeps a (writeAddress_queueKept a v s) ⟨rfl, rfl⟩ fun _ _ => id
    · cases h
      exact hostWrite_keeps _ (commandResume_effects (sound := False) (posting := True) first False.elim).queueKept
        ⟨rfl, rfl⟩ fun _ _ => id
  | none =>
    by_cases hreset : ∃ levels, c = .pinReset levels
    · obtain ⟨levels, rfl⟩ := hreset
      cases h
      exact ⟨rfl, rfl⟩
    · exact (exec_event_effects (sound := False) (posting := True) hbyte (not_exists.1 hreset) (fun _ => trivial)
        False.elim h).queueKept

/-- Settles O2: every command has its arm, and no effect, setting or reset touches the queue. -/
theorem everyCommandAnswersANextState : Obligations.EveryCommandAnswersANextState := by
  intro c s
  obtain ⟨t, h⟩ := exec_answers c s
  exact ⟨t, h, exec_queueKept h⟩

/-- Settles O1: a step on a queue is the command at its front, which leaves the rest waiting. -/
theorem stepRunsTheFrontCommand : Obligations.StepRunsTheFrontCommand := by
  intro c rest s
  obtain ⟨t, h, hpending, _⟩ := everyCommandAnswersANextState c { s with pending := rest }
  exact ⟨rfl, t, h, hpending⟩

/-! ### The tracking position H -/

theorem canAdvance_iff (s : State) : canAdvance s = true ↔
    (s.engine.state = .running ∨ s.engine.state = .draining) ∧
      1 ≤ (s.motion.p - s.motion.h).toNat ∧ (s.motion.p - s.motion.h).toNat < 2 ^ 31 := by
  simp [canAdvance, tracking, isAhead]

theorem exec_advance (first : List AdvanceWork) (s : State) :
    exec (.advance first) s = .next (if canAdvance s then advanceOnce first s else s) := rfl

/-- No event but an advance and a pin reset moves H. -/
theorem exec_event_h (hbyte : c.byteWritten = none) (hreset : ∀ levels, c ≠ .pinReset levels)
    (hadvance : ∀ first, c ≠ .advance first) (h : exec c s = .next t) : t.motion.h = s.motion.h := by
  cases c with
  | pinReset levels => exact absurd rfl (hreset levels)
  | advance first => exact absurd rfl (hadvance first)
  | legalTransition phase => cases h; rw [legalSample_motion]
  | illegalTransition => cases h; rw [illegalSample_eq]
  | microsecondsPulseEnd n => cases h; (repeat' split) <;> simp
  | recoveryExpiry n =>
    cases h
    split
    · simp only [expireRecovery]; split <;> simp
    · rfl
  | speedWindowEnd => cases h; rfl
  | rawInputChange l high => cases h; split <;> simp
  | debounceExpiry l => cases h; (repeat' split) <;> simp
  | faultReport => cases h; split <;> simp
  | verdictTake | outcomePost | drainComplete | frameBegin | controlByte | frameEnd | snapshotRead | addressByte =>
    cases h; simp
  | _ => cases hbyte

/-- Of the command register only ENGINE_RESET and an accepted START move H, and they put it at P. -/
theorem writeCommand_h (code : Byte) (s : State) : (writeCommand code s).motion.h =
    if code = 6 ∨ code = 1 ∧ (writeCommand code s).engine.lastResult = .accepted then s.motion.p else s.motion.h := by
  by_cases hstart : code = 1
  · subst hstart
    change (commandStart s).motion.h = if _ ∨ _ ∧ (commandStart s).engine.lastResult = .accepted then _ else _
    rw [commandStart_motion]
    split <;> simp [*]
  by_cases hresume : code = 3
  · subst hresume
    change (commandResume [] s).motion.h = _
    rw [commandResume_motion]
    split <;> simp
  by_cases hreset : code = 6
  · subst hreset; rfl
  · simp only [hstart, hreset, false_or, false_and, if_false]
    unfold writeCommand
    (repeat' split) <;> simp_all

theorem commandResume_h (first : List Lane) (s : State) : (commandResume first s).motion.h = s.motion.h := by
  rw [commandResume_motion]
  split <;> rfl

/-- What a data byte does to H where the window takes it. -/
theorem exec_write_h {a : Addr} {v : Byte} (hbyte : c.byteWritten = some (a, v)) (h : exec c s = .next t) :
    t.motion.h = if issues c 6 s = true ∨ issues c 1 s = true ∧ t.engine.lastResult = .accepted then s.motion.p
      else s.motion.h := by
  have heffect : ∃ effect, exec c s = .next (hostWrite a effect s) ∧ (effect s).motion.h =
      if a = 0x0004 ∧ (v = 6 ∨ v = 1 ∧ (effect s).engine.lastResult = .accepted) then s.motion.p else s.motion.h := by
    rcases exec_of_byteWritten s hbyte with hexec | ⟨first, rfl, rfl, rfl⟩
    · refine ⟨_, hexec, ?_⟩
      by_cases ha : a = 0x0004
      · subst ha
        change (writeCommand v s).motion.h = _
        rw [writeCommand_h]
        simp only [true_and]
        rfl
      · rw [writeAddress_motion s v (mt target_eq_command ha), if_neg (ha ·.1)]
    · exact ⟨_, rfl, by rw [commandResume_h]; simp⟩
  obtain ⟨effect, hexec, hh⟩ := heffect
  obtain rfl : hostWrite a effect s = t := by simpa [hexec] using h
  rw [hostWrite_motion, hostWrite_engine]
  simp only [issues_iff hbyte]
  by_cases htaken : s.window.takesWrite a = true
  · simp only [htaken, if_true, and_true]
    rw [hh]
    congr 1
    simp only [eq_iff_iff]
    tauto
  · simp [htaken]

/-- Settles O11: H under an advance, a pin reset, the data bytes and the other events. -/
theorem trackingPositionMovesOnlyByAdvances : Obligations.TrackingPositionMovesOnlyByAdvances := by
  intro c s t h
  refine ⟨?_, ?_, fun hissues => ?_, fun hadvance hreset hsix hone => ?_⟩
  · rintro first rfl
    obtain rfl : (if canAdvance s then advanceOnce first s else s) = t := by simpa [exec_advance] using h
    simp only [← canAdvance_iff]
    split
    · rw [advanceOnce_motion]
    · rfl
  · rintro ⟨levels, rfl⟩
    cases h
    rfl
  · cases hbyte : c.byteWritten with
    | some byte => rw [exec_write_h hbyte h, if_pos hissues]
    | none => simp [issues_eq_false hbyte] at hissues
  · cases hbyte : c.byteWritten with
    | some byte =>
      rw [exec_write_h hbyte h, if_neg]
      rintro (hissues | ⟨hissues, haccepted⟩)
      · exact absurd (hsix.symm.trans hissues) (by decide)
      · exact hone hissues haccepted
    | none => exact exec_event_h hbyte hreset hadvance h

/-! ### The sticky flags -/

theorem Effect.stickySet (h : Effect sound posting s t) (f : Flag) (hs : stickySet f s = true) : stickySet f t = true := by
  cases h with
  | offer r => exact stickySet_offer s r hs
  | flag g => rw [stickySet_setFlag, hs, Bool.true_or]
  | amend slot g => simpa [Machine.stickySet] using hs
  | post => simpa [Machine.stickySet, postOutcome_interrupts] using hs
  | _ => exact hs

theorem Effects.stickySet (h : Effects sound posting s t) (f : Flag) (hs : stickySet f s = true) :
    stickySet f t = true :=
  h.keeps_pred (fun _ _ h => h.stickySet f) hs

theorem finishCommand_stickySet (code : Byte) (r : CommandResult) {f : Flag} (hs : stickySet f s = true) :
    stickySet f (finishCommand code r s) = true :=
  ((Effects.refl s : Effects False False s s).finishCommand code r : Effects False False s _).stickySet f hs

theorem commandPop_stickySet {f : Flag} (hs : stickySet f s = true) : stickySet f (commandPop s) = true := by
  unfold commandPop
  split
  · exact finishCommand_stickySet _ _ hs
  · rename_i r rest _
    exact finishCommand_stickySet _ _
      ((Effects.refl { s with queue := { s.queue with records := rest } } :
        Effects False False _ _).serveDone.stickySet f hs)

theorem page00_eq_flags {off : Nat} {half : RegisterHalf} (h : page00 off = .flags half) :
    off = (flagAddress half).toNat := by
  simp [page00, ite_eq_iff] at h
  cases half <;> simp_all [flagAddress]

theorem laterPage_ne_flags (off : Nat) (half : RegisterHalf) :
    ∀ page ∈ [page01, page02, page03, page04, page05, page06, page07, page08], page off ≠ .flags half := by
  simp [page01, page02, page03, page04, page05, page06, page07, page08, ite_eq_iff]

/-- Only 0x0014 and 0x0015 name the flag register. -/
theorem target_eq_flags {a : Addr} {half : RegisterHalf} (h : target a = .flags half) : a = flagAddress half := by
  have hlater := laterPage_ne_flags (a.toNat % 256) half
  simp only [target] at h
  split_ifs at h with hpage
  · have hoff := page00_eq_flags h
    apply BitVec.eq_of_toNat_eq
    have hlt : (flagAddress half).toNat < 256 := by cases half <;> decide
    omega
  all_goals exact absurd h (hlater _ (by simp))

/-- A written byte clears no flag, but for one written to the flag register and ENGINE_RESET. -/
theorem writeAddress_stickySet {a : Addr} {v : Byte} {f : Flag} (hflags : ∀ half, a ≠ flagAddress half)
    (hreset : ¬ (a = 0x0004 ∧ v = 6)) (hs : stickySet f s = true) : stickySet f (writeAddress a v s) = true := by
  have hrefused : stickySet f (refuseAccess a s) = true :=
    (refuseAccess_effects a s : Effects False False s _).stickySet f hs
  have hbit : s.interrupts.sticky.getLsbD f.position = true := hs
  unfold writeAddress
  cases htarget : target a with
  | command =>
    obtain rfl := target_eq_command htarget
    by_cases hpop : v = 7
    · subst hpop; exact commandPop_stickySet hs
    · exact (writeCommand_effects (sound := False) (posting := True) (fun h => hreset ⟨rfl, h⟩) hpop (fun _ => trivial)
        False.elim).stickySet f hs
  | flags half => exact absurd (target_eq_flags htarget) (hflags half)
  | laneMask => simp only [writeLaneMask, stoppedOnly]; split <;> simp [Machine.stickySet, hbit]
  | verdictClass => simp only [writeClass, pushVerdict]; (repeat' split) <;> simp [Machine.stickySet, hbit]
  | stageHold => simp only [writeHold]; split <;> simp [Machine.stickySet, hbit]
  | viewSelect => simp only [writeView]; split <;> simp [Machine.stickySet, hbit]
  | threshold => simp only [writeThreshold]; split <;> simp [Machine.stickySet, hbit]
  | decodeMode => simp only [writeDecodeMode, stoppedOnly]; (repeat' split) <;> simp [Machine.stickySet, hbit]
  | invert => simp only [writeInvert, stoppedOnly]; split <;> simp [Machine.stickySet, hbit]
  | backlash => simp only [writeBacklash, stoppedOnly]; split <;> simp [Machine.stickySet, hbit]
  | phaseLimit => simp only [writePhaseLimit, stoppedOnly]; (repeat' split) <;> simp [Machine.stickySet, hbit]
  | channelConfig n which => simp only [writeConfig, stoppedOnly]; (repeat' split) <;> simp [Machine.stickySet, hbit]
  | pitch | laneBlock | channelBlock => simp only [writeStaged]; split <;> simp [Machine.stickySet, hbit]
  | enables | inspectionSelect | verdictLane | verdictTagLow | verdictTagHigh => exact hs
  | _ => exact hrefused

theorem exec_stickySet {f : Flag} (hs : stickySet f s = true) (hreset : ∀ levels, c ≠ .pinReset levels)
    (hsix : issues c 6 s = false) (hflags : ∀ which v, c.byteWritten ≠ some (flagAddress which, v))
    (h : exec c s = .next t) : stickySet f t = true := by
  cases hbyte : c.byteWritten with
  | some byte =>
    obtain ⟨a, v⟩ := byte
    rcases exec_of_byteWritten s hbyte with hexec | ⟨first, rfl, rfl, rfl⟩
    · obtain rfl : hostWrite a (writeAddress a v) s = t := by simpa [hexec] using h
      by_cases htaken : s.window.takesWrite a = true
      · have hnot : ¬ (a = 0x0004 ∧ v = 6) := fun hcode =>
          absurd (hsix.symm.trans ((issues_iff hbyte 6).2 ⟨hcode, htaken⟩)) (by decide)
        exact hostWrite_keeps (P := fun u => stickySet f u = true) a
          (writeAddress_stickySet (fun half ha => hflags half v (ha ▸ hbyte)) hnot hs) hs fun _ _ => id
      · rwa [hostWrite_not_taken s a _ (by simpa using htaken)]
    · cases h
      exact hostWrite_keeps (P := fun u => stickySet f u = true) _
        ((commandResume_effects (sound := False) (posting := True) first False.elim).stickySet f hs) hs fun _ _ => id
  | none =>
    exact (exec_event_effects (sound := False) (posting := True) hbyte hreset (fun _ => trivial) False.elim
      h).stickySet f hs

/-- R167: a flag other than the live REPORT_LEVEL shows its sticky position. -/
theorem flagSet_eq_stickySet {f : Flag} (hf : f ≠ .reportLevel) (s : State) : flagSet f s = stickySet f s := by
  have hbit : Flag.reportLevel.bit.getLsbD f.position = false := by simp [hf.symm]
  unfold flagSet flagBits stickySet
  split <;> simp [hbit, f.position_lt, -BitVec.getLsbD_eq_getElem]

/-- R165: REPORT_LEVEL follows the depth and the threshold alone. -/
theorem flagSet_reportLevel (s : State) : flagSet .reportLevel s = reportLevel s := by
  have hbit : Flag.reportLevel.bit.getLsbD Flag.reportLevel.position = true := by simp
  unfold flagSet flagBits
  cases reportLevel s <;> simp [hbit, -BitVec.getLsbD_eq_getElem]

/-- R167: each sticky flag whose position is written 1 is cleared. -/
theorem stickySet_writeFlags (half : RegisterHalf) (v : Byte) (s : State) (f : Flag) :
    stickySet f (writeFlags half v s) =
      (stickySet f s && !(decide (f.position / 8 = halfShift half / 8) && v.getLsbD (f.position % 8))) := by
  simp [stickySet, halfBits_getLsbD, f.position_lt, -BitVec.getLsbD_eq_getElem]

/-- Settles O50: the write of the flag register position by position, then a sticky flag under every other command. -/
theorem stickyFlagsStayUntilTheHostClearsThem : Obligations.StickyFlagsStayUntilTheHostClearsThem := by
  refine ⟨fun which v s htaken => ⟨_, congrArg Host.Outcome.next (hostWrite_taken s _ (writeFlags which v) htaken rfl),
    fun f hf => ?_, flagSet_reportLevel _, rfl⟩,
    fun c s t f h hs hreset hsix hflags => exec_stickySet hs hreset hsix hflags h⟩
  rw [flagSet_eq_stickySet hf, flagSet_eq_stickySet hf]
  have hwritten := stickySet_writeFlags which v s f
  rw [Bool.and_comm (decide _)] at hwritten
  cases which <;> exact hwritten

/-! ### The report queue -/

/-- From s to t records only join the queue, behind those that are waiting. -/
def RecordsJoin (s t : State) : Prop := ∃ more, t.queue.records = s.queue.records ++ more

theorem RecordsJoin.of_eq (h : t.queue.records = s.queue.records) : RecordsJoin s t := ⟨[], by simp [h]⟩

theorem RecordsJoin.trans {u : State} (h : RecordsJoin s t) (h' : RecordsJoin t u) : RecordsJoin s u := by
  obtain ⟨more, h⟩ := h
  obtain ⟨more', h'⟩ := h'
  exact ⟨more ++ more', by rw [h', h, List.append_assoc]⟩

theorem offer_recordsJoin (r : Report) (s : State) : RecordsJoin s (offer r s) := by
  rcases offer_cases s r with ⟨_, e⟩ | ⟨_, e⟩ <;> rw [e]
  · exact ⟨[r], rfl⟩
  · exact .of_eq rfl

theorem postOutcome_recordsJoin (s : State) : RecordsJoin s (postOutcome s) := by
  rcases postOutcome_cases s with ⟨_, e⟩ | ⟨_, e⟩ | ⟨_, _, _, _, ⟨_, e⟩ | ⟨_, _, e⟩⟩ <;> rw [e]
  · exact .of_eq rfl
  · exact .of_eq rfl
  · exact .of_eq rfl
  · exact ⟨_, rfl⟩

theorem Effect.recordsJoin (h : Effect sound posting s t) : RecordsJoin s t := by
  cases h with
  | offer r => exact offer_recordsJoin r s
  | post => exact postOutcome_recordsJoin s
  | amend slot f => exact .of_eq (by simp)
  | _ => exact .of_eq rfl

theorem Effects.recordsJoin (h : Effects sound posting s t) : RecordsJoin s t :=
  h.keeps (fun _ => .of_eq rfl) (fun _ _ _ => RecordsJoin.trans) fun _ _ => Effect.recordsJoin

@[simp] theorem finishCommand_records (code : Byte) (r : CommandResult) (s : State) :
    (finishCommand code r s).queue.records = s.queue.records := by
  rw [finishCommand_queue]

/-- R161, R164: POP takes the head record, and what the freed places take joins the tail. -/
theorem commandPop_records (s : State) : ∃ more, (commandPop s).queue.records = s.queue.records.tail ++ more := by
  unfold commandPop
  split
  · rename_i hempty
    exact ⟨[], by simp [hempty]⟩
  · rename_i r rest hrecords
    obtain ⟨more, h⟩ := ((Effects.refl { s with queue := { s.queue with records := rest } } :
      Effects False False _ _).serveDone).recordsJoin
    exact ⟨more, by rw [finishCommand_records, h, hrecords]; rfl⟩

/-- A written byte only adds records, but for the codes of ENGINE_RESET and POP at the command register. -/
theorem writeAddress_recordsJoin {a : Addr} {v : Byte} (hreset : ¬ (a = 0x0004 ∧ v = 6)) (hpop : ¬ (a = 0x0004 ∧ v = 7))
    (s : State) : RecordsJoin s (writeAddress a v s) := by
  by_cases hcommand : target a = .command
  · obtain rfl := target_eq_command hcommand
    exact (writeCommand_effects (sound := False) (posting := True) (fun h => hreset ⟨rfl, h⟩) (fun h => hpop ⟨rfl, h⟩)
      (fun _ => trivial) False.elim).recordsJoin
  · exact .of_eq (by rw [(writeAddress_line v s hcommand).2.2.1])

theorem hostWrite_queue (a : Addr) (effect : State → State) (s : State) :
    (hostWrite a effect s).queue = if s.window.takesWrite a then (effect s).queue else s.queue := by
  unfold hostWrite Window.takesWrite
  split <;> split <;> simp_all

theorem exec_recordsJoin (hreset : ∀ levels, c ≠ .pinReset levels) (hsix : issues c 6 s = false)
    (hseven : issues c 7 s = false) (h : exec c s = .next t) : RecordsJoin s t := by
  cases hbyte : c.byteWritten with
  | some byte =>
    obtain ⟨a, v⟩ := byte
    rcases exec_of_byteWritten s hbyte with hexec | ⟨first, rfl, rfl, rfl⟩
    · obtain rfl : hostWrite a (writeAddress a v) s = t := by simpa [hexec] using h
      by_cases htaken : s.window.takesWrite a = true
      · have hnot : ∀ code, issues c code s = false → ¬ (a = 0x0004 ∧ v = code) := fun code hissues hcode =>
          absurd (hissues.symm.trans ((issues_iff hbyte code).2 ⟨hcode, htaken⟩)) (by decide)
        exact hostWrite_keeps (P := RecordsJoin s) a (writeAddress_recordsJoin (hnot 6 hsix) (hnot 7 hseven) s)
          (.of_eq rfl) fun _ _ => id
      · rw [hostWrite_not_taken s a _ (by simpa using htaken)]
        exact .of_eq rfl
    · cases h
      exact hostWrite_keeps (P := RecordsJoin s) _
        (commandResume_effects (sound := False) (posting := True) first False.elim).recordsJoin (.of_eq rfl) fun _ _ => id
  | none =>
    exact (exec_event_effects (sound := False) (posting := True) hbyte hreset (fun _ => trivial) False.elim h).recordsJoin

/-- A command that issues a code and is not RESUME is the effect of that code at the command register. -/
theorem exec_issues {code : Byte} (hissues : issues c code s = true) (hcode : code ≠ 3) :
    exec c s = .next (hostWrite 0x0004 (writeCommand code) s) ∧ s.window.takesWrite 0x0004 = true := by
  cases hbyte : c.byteWritten with
  | none => simp [issues_eq_false hbyte] at hissues
  | some byte =>
    obtain ⟨a, v⟩ := byte
    obtain ⟨⟨rfl, rfl⟩, htaken⟩ := (issues_iff hbyte code).1 hissues
    rcases exec_of_byteWritten s hbyte with hexec | ⟨first, rfl, _, rfl⟩
    · exact ⟨hexec, htaken⟩
    · exact absurd rfl hcode

theorem satSucc_half_eq (v : Half) : (if v = 65535 then 65535 else v + 1) = satSucc v := (satSucc_half v).symm

/-- Settles O56: the admission of a record, then the records under the resets, POP and every other command. -/
theorem recordsLeaveOnlyAtTheHead : Obligations.RecordsLeaveOnlyAtTheHead := by
  refine ⟨fun r s => ?_, fun c s t h => ⟨?_, fun hseven => ?_, fun hreset hsix hseven => exec_recordsJoin hreset hsix hseven h⟩⟩
  · simp only [satSucc_half_eq]
    rcases offer_cases s r with ⟨hplaces, e⟩ | ⟨hplaces, e⟩
    · rw [e, if_pos]
      cases r <;> simp only [placesNeeded, depth, decide_eq_true_eq] at hplaces ⊢ <;> omega
    · rw [e, if_neg]
      cases r <;> simp only [placesNeeded, depth, decide_eq_true_eq] at hplaces ⊢ <;> omega
  · rintro (⟨levels, rfl⟩ | hsix)
    · cases h
      rfl
    · obtain ⟨hexec, htaken⟩ := exec_issues hsix (by decide)
      obtain rfl : hostWrite 0x0004 (writeCommand 6) s = t := by simpa [hexec] using h
      rw [hostWrite_queue, if_pos htaken]
      rfl
  · obtain ⟨hexec, htaken⟩ := exec_issues hseven (by decide)
    obtain rfl : hostWrite 0x0004 (writeCommand 7) s = t := by simpa [hexec] using h
    rw [hostWrite_queue, if_pos htaken]
    exact commandPop_records s

/-! ### The confirmed items -/

/-- A confirmed item of s is in t: its slot keeps it, or its OUTCOME record stands in the queue. -/
def ItemsKept (s t : State) : Prop :=
  ∀ slot e, entryAt slot s = some e → e.state ≠ .opening →
    (∃ e', entryAt slot t = some e' ∧ KeepsItem e e') ∨ ∃ e', KeepsItem e e' ∧ outcomeRecord e' ∈ t.queue.records

theorem ItemsKept.of_entries (h : t.table.entries = s.table.entries) : ItemsKept s t := fun slot e he hstate =>
  .inl ⟨e, by rwa [entryAt, h], .refl hstate⟩

theorem ItemsKept.trans {u : State} (h : ItemsKept s t) (h' : ItemsKept t u) (hjoin : RecordsJoin t u) : ItemsKept s u := by
  intro slot e he hstate
  obtain ⟨more, hmore⟩ := hjoin
  rcases h slot e he hstate with ⟨e', he', hkeeps⟩ | ⟨e', hkeeps, hrecord⟩
  · have hconfirmed : e'.state ≠ .opening := by
      obtain ⟨_, _, _, _, rfl, hstate', _⟩ := hkeeps
      exact hstate'
    rcases h' slot e' he' hconfirmed with ⟨e'', he'', hkeeps'⟩ | ⟨e'', hkeeps', hrecord⟩
    · exact .inl ⟨e'', he'', hkeeps.trans hkeeps'⟩
    · exact .inr ⟨e'', hkeeps.trans hkeeps', hrecord⟩
  · exact .inr ⟨e', hkeeps, by rw [hmore]; exact List.mem_append_left _ hrecord⟩

theorem flushedEntry_keepsItem {e : Entry} (hstate : e.state ≠ .opening) : KeepsItem e (flushedEntry e) := by
  unfold flushedEntry
  split
  · exact .of_flags (by simp) (setsFlags_abandoned e.flags)
  · exact .refl hstate

theorem postOutcome_itemsKept (s : State) : ItemsKept s (postOutcome s) := by
  rcases postOutcome_cases s with ⟨_, h⟩ | ⟨_, h⟩ | ⟨slot, rest, _, _, ⟨_, h⟩ | ⟨d, hd, h⟩⟩ <;> rw [h]
  · exact .of_entries rfl
  · exact .of_entries rfl
  · exact .of_entries rfl
  · intro k e he hstate
    by_cases hk : k = slot
    · subst hk
      obtain rfl := Option.some.inj (hd.symm.trans he)
      exact .inr ⟨d, .refl hstate, by simp⟩
    · exact .inl ⟨e, by simpa [entryAt, findEntry_dropEntry, hk] using he, .refl hstate⟩

theorem Effect.itemsKept (hwf : s.table.wf = true) (h : Effect True posting s t) : ItemsKept s t := by
  cases h with
  | amend slot f hf =>
    intro k e he hstate
    refine .inl ?_
    rw [entryAt_modifyEntry, he]
    by_cases hk : k = slot
    · obtain ⟨heq, hgains⟩ := hf e
      exact ⟨f e, by simp [hk], e.state, e.verdict, _, _, heq, hstate, fun _ => rfl, hgains⟩
    · exact ⟨e, by simp [hk], .refl hstate⟩
  | write slot d hd =>
    intro k e he hstate
    refine .inl ?_
    rw [entryAt_setEntry]
    by_cases hk : k = slot
    · subst hk
      exact ⟨d, by simp, hd trivial e he hstate⟩
    · exact ⟨e, by simp [hk, he], .refl hstate⟩
  | discard slot hd =>
    intro k e he hstate
    have hk : k ≠ slot := fun hk => hstate (hd trivial e (hk ▸ he))
    exact .inl ⟨e, by simpa [entryAt, findEntry_dropEntry, hk] using he, .refl hstate⟩
  | flush =>
    intro k e he hstate
    refine .inl ⟨flushedEntry e, ?_, flushedEntry_keepsItem hstate⟩
    have hmem := findEntry_mem he
    refine (findEntry_eq_some_iff (flushedEntries_rising hwf) k _).2 (List.mem_map.2 ⟨(k, e), ?_, rfl⟩)
    exact List.mem_filter.2 ⟨hmem, by simpa using hstate⟩
  | post => exact postOutcome_itemsKept s
  | offer r => exact .of_entries (by simp)
  | _ => exact .of_entries rfl

theorem Effects.itemsKept (hwf : s.table.wf = true) (h : Effects True posting s t) : ItemsKept s t :=
  (h.keeps (P := fun s t => s.table.wf = true → t.table.wf = true ∧ RecordsJoin s t ∧ ItemsKept s t)
    (fun _ hs => ⟨hs, .of_eq rfl, .of_entries rfl⟩)
    (fun _ _ _ h h' hs =>
      let ⟨hwf, hjoin, hkept⟩ := h hs
      let ⟨hwf', hjoin', hkept'⟩ := h' hwf
      ⟨hwf', hjoin.trans hjoin', hkept.trans hkept' hjoin'⟩)
    fun _ _ h hs => ⟨h.wf hs, h.recordsJoin, h.itemsKept hs⟩) hwf |>.2.2

/-- POP takes a record that stands in the queue already, and no entry with it. -/
theorem commandPop_itemsKept (hwf : s.table.wf = true) : ItemsKept s (commandPop s) := by
  unfold commandPop
  split
  · exact .of_entries (by simp)
  · rename_i r rest _
    have hserved : Effects True True { s with queue := { s.queue with records := rest } }
        (finishCommand 7 .accepted (serveDone { s with queue := { s.queue with records := rest } })) :=
      ((Effects.refl _).serveDone).finishCommand _ _
    exact fun slot e he => Effects.itemsKept (s := { s with queue := { s.queue with records := rest } }) hwf hserved slot e he

theorem writeAddress_itemsKept {a : Addr} {v : Byte} (hreset : ¬ (a = 0x0004 ∧ v = 6)) (hwf : s.table.wf = true) :
    ItemsKept s (writeAddress a v s) := by
  by_cases hcommand : target a = .command
  · obtain rfl := target_eq_command hcommand
    by_cases hpop : v = 7
    · subst hpop; exact commandPop_itemsKept hwf
    · exact (writeCommand_effects (sound := True) (posting := True) (fun h => hreset ⟨rfl, h⟩) hpop (fun _ => trivial)
        fun _ => hwf).itemsKept hwf
  · exact .of_entries (by rw [(writeAddress_line v s hcommand).1])

theorem exec_itemsKept (hwf : s.table.wf = true) (hreset : ∀ levels, c ≠ .pinReset levels) (hsix : issues c 6 s = false)
    (h : exec c s = .next t) : ItemsKept s t := by
  cases hbyte : c.byteWritten with
  | some byte =>
    obtain ⟨a, v⟩ := byte
    rcases exec_of_byteWritten s hbyte with hexec | ⟨first, rfl, rfl, rfl⟩
    · obtain rfl : hostWrite a (writeAddress a v) s = t := by simpa [hexec] using h
      by_cases htaken : s.window.takesWrite a = true
      · have hnot : ¬ (a = 0x0004 ∧ v = 6) := fun hcode =>
          absurd (hsix.symm.trans ((issues_iff hbyte 6).2 ⟨hcode, htaken⟩)) (by decide)
        exact hostWrite_keeps (P := ItemsKept s) a (writeAddress_itemsKept hnot hwf) (.of_entries rfl) fun _ _ => id
      · rw [hostWrite_not_taken s a _ (by simpa using htaken)]
        exact .of_entries rfl
    · cases h
      exact hostWrite_keeps (P := ItemsKept s) _
        ((commandResume_effects (sound := True) (posting := True) first fun _ => hwf).itemsKept hwf) (.of_entries rfl)
        fun _ _ => id
  | none =>
    exact (exec_event_effects (sound := True) (posting := True) hbyte hreset (fun _ => trivial) (fun _ => hwf)
      h).itemsKept hwf

/-- Settles O57: the item goes on in its slot or in its OUTCOME record (`exec_itemsKept`), with all that it keeps. -/
theorem noConfirmedItemIsLost : Obligations.NoConfirmedItemIsLost := by
  intro c s t slot e htable h hreset hsix he hstate
  rcases exec_itemsKept htable.1 hreset hsix h slot e he hstate with
    ⟨_, he', state, v, f, fired, rfl, hstate', hv, hf, hfired⟩ | ⟨_, ⟨state, v, f, fired, rfl, _, hv, hf, hfired⟩, hrecord⟩
  · exact ⟨v, f, fired, hv, hf, hfired, .inl ⟨state, hstate', he'⟩⟩
  · exact ⟨v, f, fired, hv, hf, hfired, .inr hrecord⟩

end Sys2Proof.Machine
end

section
set_option Elab.async false
/-! PROOFS. The work of an advance (R9, R17): the list of work that is left, the induction over the work in whatever order it
is taken, and that none of it is left when the advance ends, but for a drain that is not over. Then the advance as a whole, an
advance with nothing due, and the rules of the engine's state and of the configuration. -/

namespace Sys2Proof.Machine

variable {s t : State}

/-! ### The work that is left -/

/-- The work that is left of an advance: whole pieces, none of them twice, and none of those that follow a mark while the mark
is to come. -/
structure Leftover (left : List AdvanceWork) : Prop where
  nodup : left.Nodup
  whole : ∀ w ∈ left, wholeWork w = w ∧ w ≠ .posts
  beforeMark : .mark ∈ left → .pitchActions ∉ left ∧ ∀ l, .levelChange l ∉ left

theorem advanceWork_leftover : Leftover advanceWork where
  nodup := by decide
  whole := by decide
  beforeMark _ := by decide

/-- Only a mark gives work that follows from it: at most the PER_PITCH placement and the level changes of a commit (R17, R20). -/
theorem doWork_follows (fixed : Option (List Slot)) (w : AdvanceWork) (s : State) :
    (doWork fixed w s).2 = [] ∨ w = .mark ∧ (doWork fixed w s).2.length ≤ 5 ∧ (doWork fixed w s).2.Nodup ∧
      ∀ x ∈ (doWork fixed w s).2, x = .pitchActions ∨ ∃ l, x = .levelChange l := by
  cases w with
  | mark =>
    simp only [doWork]
    split
    · refine .inr ⟨trivial, ?_, ?_, ?_⟩
      · have hlanes : (lanesWithNewLevel s (pitchMark s)).length ≤ 4 := List.length_filter_le _ allLanes
        split <;> simp <;> omega
      · have hlanes : (lanesWithNewLevel s (pitchMark s)).Nodup := List.Nodup.filter _ (by decide)
        have hchanges := hlanes.map (f := AdvanceWork.levelChange) fun _ _ h => by injection h
        split
        · exact List.nodup_cons.2 ⟨by simp, hchanges⟩
        · exact hchanges
      · intro x hx
        split at hx <;> simp at hx <;> aesop
    · exact .inl rfl
  | _ => exact .inl rfl

theorem Leftover.step {left : List AdvanceWork} (h : Leftover left) (fixed : Option (List Slot)) {w : AdvanceWork}
    (hready : workReady s left w = true) : Leftover (left.erase w ++ (doWork fixed w s).2) := by
  rcases doWork_follows fixed w s with hnone | ⟨rfl, _, hnodup, hfollows⟩
  · rw [hnone, List.append_nil]
    refine ⟨h.nodup.erase w, fun x hx => h.whole x (List.mem_of_mem_erase hx), fun hmark => ?_⟩
    obtain ⟨hpitch, hlevel⟩ := h.beforeMark (List.mem_of_mem_erase hmark)
    exact ⟨fun hx => hpitch (List.mem_of_mem_erase hx), fun l hx => hlevel l (List.mem_of_mem_erase hx)⟩
  · have hmark : .mark ∈ left := by simpa [workReady, wholeWork] using hready
    obtain ⟨hpitch, hlevel⟩ := h.beforeMark hmark
    have hnew : ∀ x ∈ (doWork fixed .mark s).2, x ∉ left := by
      intro x hx
      rcases hfollows x hx with rfl | ⟨l, rfl⟩
      · exact hpitch
      · exact hlevel l
    refine ⟨List.nodup_append.2 ⟨h.nodup.erase _, hnodup, ?_⟩, fun x hx => ?_, fun hx => ?_⟩
    · rintro x hx _ hy rfl
      exact hnew x hy (List.mem_of_mem_erase hx)
    · rcases List.mem_append.1 hx with hx | hx
      · exact h.whole x (List.mem_of_mem_erase hx)
      · rcases hfollows x hx with rfl | ⟨l, rfl⟩ <;> simp [wholeWork]
    · rcases List.mem_append.1 hx with hx | hx
      · exact absurd hx h.nodup.not_mem_erase
      · rcases hfollows _ hx with h | ⟨l, h⟩ <;> cases h

/-! ### The induction over the work of an advance -/

/-- How many pieces and parts of work an advance can still take. -/
def workBudget (first left : List AdvanceWork) : Nat := first.length + left.length + if .mark ∈ left then 5 else 0

theorem workBudget_step {first left : List AdvanceWork} {w : AdvanceWork} (hleft : Leftover left)
    (hnext : nextWork first left s = some w) (fixed : Option (List Slot)) :
    workBudget (first.erase w) (left.erase w ++ (doWork fixed w s).2) < workBudget first left := by
  have hready := nextWork_ready s hnext
  have hmem : w ∈ first ∨ w ∈ left := by
    unfold nextWork at hnext
    split at hnext
    · rename_i hfound
      cases hnext
      exact .inl (List.mem_of_find?_eq_some hfound)
    · exact .inr (List.mem_of_find?_eq_some hnext)
  have herase : (first.erase w).length + (left.erase w).length < first.length + left.length := by
    rcases hmem with h | h
    · have := List.length_erase_of_mem h
      have := List.length_pos_of_mem h
      have := (List.erase_sublist (a := w) (l := left)).length_le
      omega
    · have := List.length_erase_of_mem h
      have := List.length_pos_of_mem h
      have := (List.erase_sublist (a := w) (l := first)).length_le
      omega
  unfold workBudget
  rcases doWork_follows fixed w s with hnone | ⟨rfl, hlength, _, hfollows⟩
  · rw [hnone, List.append_nil]
    have hmark : (if AdvanceWork.mark ∈ left.erase w then 5 else 0) ≤ if AdvanceWork.mark ∈ left then 5 else 0 := by
      split
      · rw [if_pos (List.mem_of_mem_erase ‹_›)]
      · exact Nat.zero_le _
    omega
  · have hin : AdvanceWork.mark ∈ left := by simpa [workReady, wholeWork] using hready
    have hout : AdvanceWork.mark ∉ left.erase .mark ++ (doWork fixed .mark s).2 := by
      intro hx
      rcases List.mem_append.1 hx with hx | hx
      · exact hleft.nodup.not_mem_erase hx
      · rcases hfollows _ hx with h | ⟨l, h⟩ <;> cases h
    rw [if_pos hin, if_neg hout, List.length_append]
    omega

/-- Where no work is next, only a drain completion is left, and the drain is not over or a fault report is on its way. -/
theorem nextWork_none_left {first left : List AdvanceWork} (hleft : Leftover left) (hnone : nextWork first left s = none)
    (hdrain : .drainCompletion ∈ left) : left = [.drainCompletion] ∧ drainOpen s = true := by
  have hready := nextWork_none s hnone
  have hdecisions : .decisions ∉ left := fun h => by simpa [workReady, wholeWork, h] using hready _ h
  have honly : ∀ w ∈ left, w = .drainCompletion := by
    intro w hw
    have hw' := hready w hw
    obtain ⟨hwhole, hposts⟩ := hleft.whole w hw
    unfold workReady at hw'
    rw [hwhole] at hw'
    cases w <;> simp_all
  have hlevel : left.any isLevelChange = false := by
    simp only [List.any_eq_false]
    intro w hw
    rw [honly w hw]
    simp [isLevelChange]
  refine ⟨?_, ?_⟩
  · obtain ⟨front, back, rfl⟩ := List.append_of_mem hdrain
    have hfront : front = [] := by
      cases front with
      | nil => rfl
      | cons x xs =>
        have hx := honly x (by simp)
        subst hx
        have := hleft.nodup
        simp at this
    have hback : back = [] := by
      cases back with
      | nil => rfl
      | cons x xs =>
        have hx := honly x (by simp)
        subst hx
        have := hleft.nodup
        subst hfront
        simp at this
    subst hfront hback
    rfl
  · have := hready _ hdrain
    simp only [workReady, wholeWork, hlevel, List.contains_iff_mem.2 hdrain, Bool.not_false, Bool.true_and] at this
    unfold drainOpen
    cases hdone : drainDone s <;> simp_all

/-- What holds of the work and the state at the start of an advance and through each piece or part of it, in whatever order it is
taken, holds at its end, where the line is not tracking any more or no work is left but a drain that is not over. -/
theorem runWork_induction {named : List AdvanceWork} {P : List AdvanceWork → Option (List Slot) → State → Prop}
    (step : ∀ left fixed w s, tracking s = true → Leftover left → workReady s left w = true → (w ∈ named ∨ w ∈ left) →
      P left fixed s → P (left.erase w ++ (doWork fixed w s).2) (fixDecisions fixed w s) (doWork fixed w s).1)
    (fuel : Nat) (first left : List AdvanceWork) (fixed : Option (List Slot)) (s : State)
    (hnamed : ∀ w ∈ first, w ∈ named) (hleft : Leftover left) (hdrain : tracking s = true → .drainCompletion ∈ left)
    (hfuel : workBudget first left ≤ fuel) (hP : P left fixed s) :
    ∃ left' fixed', P left' fixed' (runWork fuel first left fixed s) ∧
      (tracking (runWork fuel first left fixed s) = false ∨
        left' = [.drainCompletion] ∧ drainOpen (runWork fuel first left fixed s) = true) := by
  induction fuel generalizing first left fixed s with
  | zero =>
    refine ⟨left, fixed, hP, .inl ?_⟩
    have hnil : left = [] := by
      have : left.length = 0 := by unfold workBudget at hfuel; omega
      exact List.length_eq_zero_iff.1 this
    cases htracking : tracking s
    · exact htracking
    · simpa [hnil] using hdrain htracking
  | succ fuel ih =>
    unfold runWork
    cases htracking : tracking s
    · exact ⟨left, fixed, hP, .inl htracking⟩
    · simp only [Bool.not_true, Bool.false_eq_true, if_false]
      cases hnext : nextWork first left s with
      | none => exact ⟨left, fixed, hP, .inr (nextWork_none_left hleft hnext (hdrain htracking))⟩
      | some w =>
        have hready := nextWork_ready s hnext
        have hmem : w ∈ named ∨ w ∈ left := by
          unfold nextWork at hnext
          split at hnext
          · rename_i hfound
            cases hnext
            exact .inl (hnamed _ (List.mem_of_find?_eq_some hfound))
          · exact .inr (List.mem_of_find?_eq_some hnext)
        refine ih _ _ _ _ (fun x hx => hnamed x (List.mem_of_mem_erase hx)) (hleft.step fixed hready) ?_ ?_
          (step left fixed w s htracking hleft hready hmem hP)
        · intro hstill
          have hne : AdvanceWork.drainCompletion ≠ w := by
            rintro rfl
            have hdone : drainDone s = true := by
              simp [workReady, wholeWork] at hready
              exact hready.1.2
            simp [doWork, completeDrain, hdone, tracking] at hstill
          exact List.mem_append_left _ ((List.mem_erase_of_ne hne).2 (hdrain htracking))
        · have := workBudget_step hleft hnext fixed
          omega

/-- The induction over the work of one advance. -/
theorem advanceOnce_induction {first : List AdvanceWork} {P : List AdvanceWork → Option (List Slot) → State → Prop}
    (hstart : P advanceWork none (stepForward s))
    (step : ∀ left fixed w u, tracking u = true → Leftover left → workReady u left w = true → (w ∈ first ∨ w ∈ left) →
      P left fixed u → P (left.erase w ++ (doWork fixed w u).2) (fixDecisions fixed w u) (doWork fixed w u).1) :
    ∃ left fixed u, advanceOnce first s = settleDrain (settlePosts u) ∧ P left fixed u ∧
      (tracking u = false ∨ left = [.drainCompletion] ∧ drainOpen u = true) := by
  have hbudget : workBudget first advanceWork ≤ 29 + first.length := by
    have : workBudget first advanceWork = first.length + 29 := by
      simp [workBudget, advanceWork, allChannels, allLanes]
    omega
  obtain ⟨left, fixed, hP, hend⟩ := runWork_induction step (29 + first.length) first advanceWork none (stepForward s)
    (fun _ h => h) advanceWork_leftover (fun _ => by decide) hbudget hstart
  exact ⟨left, fixed, _, rfl, hP, hend⟩

/-! ### The blocks that take no position -/

/-- From s to t the settings and what the host has selected stay: the lane enable mask, the configuration of every channel, the
inspection snapshot, the report threshold and the enables. -/
def SettingsKept (s t : State) : Prop :=
  t.detectors.enabled = s.detectors.enabled ∧ (∀ n : Channel, t.channels[n].config = s.channels[n].config) ∧
  t.table.inspection = s.table.inspection ∧ t.queue.threshold = s.queue.threshold ∧
  t.interrupts.enables = s.interrupts.enables

theorem SettingsKept.refl (s : State) : SettingsKept s s := ⟨rfl, fun _ => rfl, rfl, rfl, rfl⟩

theorem SettingsKept.trans {u : State} (h : SettingsKept s t) (h' : SettingsKept t u) : SettingsKept s u :=
  ⟨h'.1.trans h.1, fun n => (h'.2.1 n).trans (h.2.1 n), h'.2.2.1.trans h.2.2.1, h'.2.2.2.1.trans h.2.2.2.1,
    h'.2.2.2.2.trans h.2.2.2.2⟩

theorem offer_enables (r : Report) (s : State) : (offer r s).interrupts.enables = s.interrupts.enables := by
  rcases offer_cases s r with ⟨_, e⟩ | ⟨_, e⟩ <;> rw [e]

theorem postOutcome_inspection (s : State) : (postOutcome s).table.inspection = s.table.inspection := by
  rcases postOutcome_cases s with ⟨_, e⟩ | ⟨_, e⟩ | ⟨_, _, _, _, ⟨_, e⟩ | ⟨_, _, e⟩⟩ <;> rw [e]

theorem setChannelState_channel (n k : Channel) (c : ChannelState) (s : State) :
    (setChannelState n c s).channels[k] = if n = k then { s.channels[n] with state := c } else s.channels[k] :=
  updateAt_get _ _ _ _

theorem Effect.settingsKept {sound posting : Prop} (h : Effect sound posting s t) : SettingsKept s t := by
  cases h with
  | offer r => exact ⟨by simp, by simp, by simp, offer_threshold r s, offer_enables r s⟩
  | post =>
    exact ⟨by simp, by simp, postOutcome_inspection s, postOutcome_threshold s, by rw [postOutcome_interrupts]⟩
  | amend slot f => exact ⟨by simp, by simp, by rw [modifyEntry_table], by simp, by simp⟩
  | channel n c =>
    refine ⟨rfl, fun k => ?_, rfl, rfl, rfl⟩
    rw [setChannelState_channel]
    split
    · rename_i hk; rw [hk]
    · rfl
  | _ => exact .refl s

theorem Effects.settingsKept {sound posting : Prop} (h : Effects sound posting s t) : SettingsKept s t :=
  h.keeps .refl (fun _ _ _ => .trans) fun _ _ => Effect.settingsKept

theorem doWork_det (fixed : Option (List Slot)) (w : AdvanceWork) (s : State) : (doWork fixed w s).1.det = s.det := by
  cases w with
  | mark => simp only [doWork]; split <;> simp
  | _ => simp [doWork]

theorem doWork_window (fixed : Option (List Slot)) (w : AdvanceWork) (s : State) :
    (doWork fixed w s).1.window = s.window := by
  cases w with
  | mark => simp only [doWork]; split <;> simp
  | _ => simp [doWork]

theorem advanceOnce_det (first : List AdvanceWork) (s : State) : (advanceOnce first s).det = s.det := by
  simp only [advanceOnce, settleDrain_det, settlePosts_det]
  refine runWork_keeps (fun t => t.det = s.det) ?_ _ _ _ _ _ (stepForward_det s)
  intro fixed w t _ ht
  rw [doWork_det, ht]

theorem advanceOnce_window (first : List AdvanceWork) (s : State) : (advanceOnce first s).window = s.window := by
  simp only [advanceOnce, settleDrain_window, settlePosts_window]
  refine runWork_keeps (fun t => t.window = s.window) ?_ _ _ _ _ _ (stepForward_window s)
  intro fixed w t _ ht
  rw [doWork_window, ht]

/-! ### M and the engine at an advance -/

/-- Only a mark moves M and the epoch unit. -/
theorem doWork_m (fixed : Option (List Slot)) {w : AdvanceWork} (hw : w ≠ .mark) (s : State) :
    (doWork fixed w s).1.motion = s.motion ∧ (doWork fixed w s).1.epochUnit = s.epochUnit := by
  cases w with
  | mark => exact absurd rfl hw
  | _ => simp [doWork]

theorem doWork_engine (fixed : Option (List Slot)) {w : AdvanceWork} (hw : w ≠ .drainCompletion) (s : State) :
    (doWork fixed w s).1.engine = s.engine := by
  cases w with
  | drainCompletion => exact absurd rfl hw
  | mark => simp only [doWork]; split <;> simp
  | _ => simp [doWork]

/-- From s to t a drain has been completed, with no fault report on its way (R149). -/
def DrainEnds (s t : State) : Prop :=
  s.engine.state = .draining ∧ liveEntries t = 0 ∧ t.schedule = [] ∧ s.motion.reports = [] ∧
    stickySet .stoppedReached t = true ∧ t.engine = { s.engine with state := .stopped, frozenFrom := none }

theorem drainDone_iff (s : State) :
    drainDone s = true ↔ s.engine.state = .draining ∧ liveEntries s = 0 ∧ s.schedule = [] := by
  simp [drainDone, and_assoc]

theorem enterStopped_stoppedReached (s : State) : stickySet .stoppedReached (enterStopped s) = true := by
  simp [stickySet]

/-- R149: the completion of a drain, or nothing. -/
theorem settleDrain_engine (s : State) : (settleDrain s).engine = s.engine ∨ DrainEnds s (settleDrain s) := by
  unfold settleDrain
  split
  · rename_i hreports
    rcases completeDrain_cases s with ⟨hdone, e⟩ | ⟨_, e⟩ <;> rw [e]
    · obtain ⟨hdraining, hlive, hschedule⟩ := (drainDone_iff s).1 hdone
      exact .inr ⟨hdraining, hlive, hschedule, by simpa using hreports, enterStopped_stoppedReached s, rfl⟩
    · exact .inl rfl
  · exact .inl rfl

theorem postOutcome_liveEntries_le (s : State) : liveEntries (postOutcome s) ≤ liveEntries s := by
  rcases postOutcome_cases s with ⟨_, e⟩ | ⟨_, e⟩ | ⟨_, _, _, _, ⟨_, e⟩ | ⟨_, _, e⟩⟩ <;> rw [e]
  · exact le_rfl
  · exact List.Sublist.countP_le List.filter_sublist

theorem settlePosts_liveEntries_le (s : State) : liveEntries (settlePosts s) ≤ liveEntries s := by
  have key : ∀ (n : Nat) (s : State), liveEntries (postOutcomes n s) ≤ liveEntries s := by
    intro n
    induction n with
    | zero => exact fun s => le_refl (liveEntries s)
    | succ n ih => exact fun s => (ih _).trans (postOutcome_liveEntries_le s)
  rcases settlePosts_cases s with ⟨_, e⟩ | ⟨_, e⟩ <;> rw [e]
  exact key _ s

/-- From the start of an advance: H has stepped, M has moved exactly where the mark has been taken at its position, and the engine
is as it was or has completed its drain. -/
structure AdvanceState (s : State) (left : List AdvanceWork) (t : State) : Prop where
  motion : t.motion = { s.motion with
    h := s.motion.h + 1, windowCount := satSucc s.motion.windowCount, m := t.motion.m }
  marked : s.motion.h + 1 = s.motion.m → .mark ∉ left → t.motion.m = s.motion.m + (currentBank t).pitch
  kept : s.motion.h + 1 ≠ s.motion.m ∨ .mark ∈ left → t.motion.m = s.motion.m
  unmarked : s.motion.h + 1 = s.motion.m → .mark ∈ left → t.epochUnit = s.epochUnit
  engine : t.engine = s.engine ∨ DrainEnds s t

theorem AdvanceState.h {left : List AdvanceWork} (h : AdvanceState s left t) : t.motion.h = s.motion.h + 1 := by
  rw [h.motion]

theorem currentBank_congr (h : t.epochUnit = s.epochUnit) : currentBank t = currentBank s := by
  simp [currentBank, bankOf, h]

theorem AdvanceState.start (s : State) : AdvanceState s advanceWork (stepForward s) where
  motion := rfl
  marked _ hout := absurd (by decide) hout
  kept _ := rfl
  unmarked _ _ := rfl
  engine := .inl rfl

theorem mark_mem_follows {left : List AdvanceWork} (fixed : Option (List Slot)) {w : AdvanceWork} (hw : w ≠ .mark)
    (s : State) : .mark ∈ left.erase w ++ (doWork fixed w s).2 ↔ .mark ∈ left := by
  rcases doWork_follows fixed w s with hnone | ⟨rfl, _⟩
  · rw [hnone, List.append_nil, List.mem_erase_of_ne hw.symm]
  · exact absurd rfl hw

theorem mark_not_mem_follows {left : List AdvanceWork} (hleft : Leftover left) (fixed : Option (List Slot)) (s : State) :
    .mark ∉ left.erase .mark ++ (doWork fixed .mark s).2 := by
  intro h
  rcases List.mem_append.1 h with h | h
  · exact hleft.nodup.not_mem_erase h
  · rcases doWork_follows fixed .mark s with hnone | ⟨_, _, _, hfollows⟩
    · simp [hnone] at h
    · rcases hfollows _ h with h | ⟨l, h⟩ <;> cases h

theorem AdvanceState.step {left : List AdvanceWork} (h : AdvanceState s left t) (hleft : Leftover left)
    (fixed : Option (List Slot)) {w : AdvanceWork} (htracking : tracking t = true) (hready : workReady t left w = true) :
    AdvanceState s (left.erase w ++ (doWork fixed w t).2) (doWork fixed w t).1 := by
  have hengine : t.engine = s.engine := h.engine.resolve_right fun hends => by
    simp [tracking, hends.2.2.2.2.2] at htracking
  by_cases hmark : w = .mark
  · subst hmark
    have hin : AdvanceWork.mark ∈ left := by simpa [workReady, wholeWork] using hready
    have hout := mark_not_mem_follows hleft fixed t
    have hm : (doWork fixed .mark t).1.motion.m = if s.motion.h + 1 = s.motion.m
        then s.motion.m + (currentBank (doWork fixed .mark t).1).pitch else s.motion.m := by
      rw [← h.kept (.inr hin), ← h.h]
      simp only [doWork]
      split
      · simp only [pitchMark_motion]; rfl
      · rfl
    refine ⟨by rw [doWork_motion, h.motion], fun hat _ => by rw [hm, if_pos hat],
      fun hnot => by rw [hm, if_neg (hnot.resolve_right hout)], fun _ hx => absurd hx hout, .inl ?_⟩
    rw [doWork_engine fixed (by simp), hengine]
  · obtain ⟨hmotion, hepoch⟩ := doWork_m fixed hmark t
    have hmem := mark_mem_follows (left := left) fixed hmark t
    refine ⟨by rw [hmotion]; exact h.motion, fun hat hout => ?_, fun hnot => ?_, fun hat hin => ?_, ?_⟩
    · rw [hmotion, currentBank_congr hepoch]
      exact h.marked hat (mt hmem.2 hout)
    · rw [hmotion]
      exact h.kept (hnot.imp_right hmem.1)
    · rw [hepoch]
      exact h.unmarked hat (hmem.1 hin)
    · by_cases hdrain : w = .drainCompletion
      · subst hdrain
        have hready' : drainDone t = true ∧ t.motion.reports = [] := by
          simp [workReady, wholeWork] at hready
          exact ⟨hready.1.2, hready.2⟩
        obtain ⟨hdraining, hlive, hschedule⟩ := (drainDone_iff t).1 hready'.1
        have hstopped : (doWork fixed .drainCompletion t).1 = enterStopped t := by simp [doWork, completeDrain, hready'.1]
        have hreports : s.motion.reports = [] := by rw [← hready'.2, h.motion]
        rw [hstopped]
        exact .inr ⟨hengine ▸ hdraining, hlive, hschedule, hreports, enterStopped_stoppedReached t, by rw [← hengine]; rfl⟩
      · exact .inl (by rw [doWork_engine fixed hdrain, hengine])

/-- The advance as it ends, before its last posting: no work is left, or the line has stopped. -/
theorem advanceOnce_state (first : List AdvanceWork) (hmay : canAdvance s = true) :
    ∃ left u, advanceOnce first s = settleDrain (settlePosts u) ∧ AdvanceState s left u ∧
      (u.engine.state = .stopped ∨ left = [.drainCompletion] ∧ drainOpen u = true) := by
  obtain ⟨left, fixed, u, heq, hstate, hend⟩ := advanceOnce_induction (first := first)
    (P := fun left _ u => AdvanceState s left u) (AdvanceState.start s)
    fun left fixed w u htracking hleft hready _ h => h.step hleft fixed htracking hready
  refine ⟨left, u, heq, hstate, hend.imp_left fun hnot => ?_⟩
  rcases hstate.engine with he | he
  · have htracking : tracking s = true := by
      simp only [canAdvance, Bool.and_eq_true] at hmay
      exact hmay.1
    simp [tracking, he] at hnot htracking
    tauto
  · rw [he.2.2.2.2.2]

theorem settleDrain_of_state {s : State} (h : s.engine.state ≠ .draining) : settleDrain s = s := by
  have hdone : drainDone s = false := by simp [drainDone, h]
  simp [settleDrain, completeDrain, hdone]

theorem DrainEnds.settlePosts (h : DrainEnds s t) : DrainEnds s (settlePosts t) := by
  obtain ⟨hdraining, hlive, hschedule, hreports, hflag, hengine⟩ := h
  refine ⟨hdraining, ?_, by simpa using hschedule, hreports, ?_, by simpa using hengine⟩
  · have := settlePosts_liveEntries_le t
    omega
  · simpa [stickySet, settlePosts_interrupts] using hflag

/-- The engine after an advance. -/
theorem advanceOnce_engine (first : List AdvanceWork) (hmay : canAdvance s = true) :
    (advanceOnce first s).engine = s.engine ∨ DrainEnds s (advanceOnce first s) := by
  obtain ⟨left, u, heq, hstate, _⟩ := advanceOnce_state first hmay
  rw [heq]
  have hreports : u.motion.reports = s.motion.reports := by rw [hstate.motion]
  rcases settleDrain_engine (settlePosts u) with he | ⟨hdraining, hlive, hschedule, hnone, hflag, he⟩
  · rcases hstate.engine with hu | hu
    · exact .inl (by rw [he, settlePosts_engine, hu])
    · have hposts := hu.settlePosts
      rw [settleDrain_of_state (by rw [hposts.2.2.2.2.2]; simp)]
      exact .inr hposts
  · rcases hstate.engine with hu | hu
    · rw [settlePosts_engine, hu] at hdraining he
      rw [settlePosts_motion, hreports] at hnone
      exact .inr ⟨hdraining, hlive, hschedule, hnone, hflag, he⟩
    · simp [hu.2.2.2.2.2] at hdraining

/-- Settles O13: the motion unit, M at its mark and the engine through the work in any order (`AdvanceState`), and the blocks
that take no position, which no effect of an advance touches. -/
theorem advanceStepsHOneCount : Obligations.AdvanceStepsHOneCount := by
  intro first s may
  refine ⟨fun hnot => ?_, fun hmay => ?_⟩
  · rw [exec_advance, if_neg (mt (canAdvance_iff s).1 hnot)]
  · have hcan := (canAdvance_iff s).2 hmay
    rw [exec_advance, if_pos hcan]
    obtain ⟨left, u, heq, hstate, hend⟩ := advanceOnce_state first hcan
    have hbank : currentBank (advanceOnce first s) = currentBank u := currentBank_congr (by rw [heq]; simp)
    have hm : (advanceOnce first s).motion.m = u.motion.m := by rw [heq]; simp
    have heffects : Effects False True s (advanceOnce first s) := advanceOnce_effects trivial False.elim first
    obtain ⟨henabled, hconfig, hinspection, hthreshold, henables⟩ := heffects.settingsKept
    obtain ⟨hpending, hfree⟩ := heffects.queueKept
    refine ⟨_, rfl, ?_, ?_, fun hat => ?_, advanceOnce_engine first hcan, advanceOnce_det first s, henabled,
      advanceOnce_verdicts s first, hconfig, hinspection, hthreshold, henables, advanceOnce_window first s, hpending, hfree⟩
    · rw [satSucc_half_eq]
      exact advanceOnce_motion s first
    · rw [hm, hbank]
      by_cases hnot : s.motion.h + 1 ≠ s.motion.m ∨ .mark ∈ left
      · exact .inl (hstate.kept hnot)
      · rw [not_or, not_not] at hnot
        exact .inr ⟨hnot.1, hstate.marked hnot.1 hnot.2⟩
    · rw [hm, hbank]
      rcases hend with hstopped | ⟨rfl, _⟩
      · refine .inr ?_
        rw [heq, settleDrain_of_state (by simp [hstopped]), settlePosts_engine, hstopped]
      · exact .inl (hstate.marked hat (by simp))

/-! ### An advance with nothing due -/

/-- Where no action satisfies the test, none is settled. -/
theorem settleAll_of_none {q : Action → Bool} (h : s.schedule.find? q = none) (fuel : Nat) : settleAll q fuel s = s := by
  have hfirst : settleFirst q s = s := by simp [settleFirst, h]
  induction fuel with
  | zero => rfl
  | succ fuel ih => rw [settleAll, hfirst, ih]

/-- R117, R135: a channel with no due action and no COUNTS pulse end has no work at the position reached. -/
theorem actionsQuiet_channel (hquiet : actionsQuietAt s.motion.h s = true) (n : Channel) :
    s.schedule.find? (dueOn n s.motion.h) = none ∧ countsEndDue n s = false := by
  have hall : ∀ a ∈ s.schedule, ¬ (a.state = .pending false ∧ a.start = s.motion.h) ∧
      a.state ≠ .active (.position s.motion.h) := by
    intro a ha
    have := List.all_eq_true.1 hquiet a ha
    simp only [Bool.and_eq_true, Bool.not_eq_true', Bool.and_eq_false_iff, decide_eq_false_iff_not] at this
    tauto
  refine ⟨List.find?_eq_none.2 fun a ha => ?_, ?_⟩
  · have := (hall a ha).1
    simp only [dueOn, Bool.and_eq_true, decide_eq_true_eq]
    tauto
  · unfold countsEndDue
    split
    · rename_i a ha
      have := (hall a (List.mem_of_find?_eq_some ha)).2
      simpa using this
    · rfl

theorem entriesQuiet_decision (hquiet : entriesQuietAt s.motion.h s = true) {x : Slot × Entry} (hx : x ∈ s.table.entries) :
    decisionDue x.2 s = false ∧ exitDue x.2 s = false := by
  have := List.all_eq_true.1 hquiet x hx
  simp only [Bool.and_eq_true, Bool.not_eq_true'] at this
  exact this

theorem entriesQuiet_dueDecisions (hquiet : entriesQuietAt s.motion.h s = true) : dueDecisions s = [] := by
  refine List.filter_eq_nil_iff.2 fun slot _ => ?_
  unfold decisionWaits
  split
  · simp
  · rename_i e he
    simp [(entriesQuiet_decision hquiet (findEntry_mem he)).1]

theorem entriesQuiet_leavingEntries (hquiet : entriesQuietAt s.motion.h s = true) : leavingEntries s = [] := by
  have hnil : (s.table.entries.filter fun x => exitDue x.2 s) = [] :=
    List.filter_eq_nil_iff.2 fun x hx => by simp [(entriesQuiet_decision hquiet hx).2]
  exact List.perm_nil.1 (hnil ▸ leavingEntries_perm s)

theorem lanesQuiet_detector (hquiet : lanesQuietAt s.motion.h s = true) (l : Lane) : detectorAdvance l s = s := by
  have hl := List.all_eq_true.1 hquiet l (by fin_cases l <;> decide)
  unfold detectorAdvance
  dsimp only
  split
  · rename_i g hstate hgap
    simp only [hstate, hgap] at hl
    rw [if_neg (by simpa using hl)]
  · rename_i slot e hstate hopening
    simp only [hstate, hopening] at hl
    rw [if_neg (by simpa using hl)]
  · rfl

/-- No block has work at the position that H has reached. -/
structure NothingDue (s : State) : Prop where
  mark : s.motion.h ≠ s.motion.m
  lanes : lanesQuietAt s.motion.h s = true
  actions : actionsQuietAt s.motion.h s = true
  entries : entriesQuietAt s.motion.h s = true
  posts : settlePosts s = s
  drain : drainOpen s = true

theorem NothingDue.doWork (h : NothingDue s) {left : List AdvanceWork} {w : AdvanceWork}
    (hready : workReady s left w = true) (hpitch : .pitchActions ∉ left) (hlevel : ∀ l, .levelChange l ∉ left)
    (hposts : w = .posts → serveDone s = s) : doWork none w s = (s, []) ∧ fixDecisions none w s = none := by
  have hdue := entriesQuiet_dueDecisions h.entries
  have hleaving := entriesQuiet_leavingEntries h.entries
  have hfixed : fixDecisions none w s = none := by
    unfold fixDecisions decisionsLeft
    simp [hdue]
  refine ⟨?_, hfixed⟩
  cases w with
  | channel n =>
    obtain ⟨hnone, hend⟩ := actionsQuiet_channel h.actions n
    simp [Machine.doWork, channelAdvance, hend, takeDue, settleAll_of_none hnone]
  | channelEvent n =>
    obtain ⟨hnone, hend⟩ := actionsQuiet_channel h.actions n
    simp [Machine.doWork, channelEvent, hend, settleFirst, hnone]
  | detector l => simp [Machine.doWork, lanesQuiet_detector h.lanes l]
  | decisions => simp [Machine.doWork, decisionsLeft, hdue]
  | decision => simp [Machine.doWork, decisionsLeft, hdue]
  | exits => simp [Machine.doWork, takeExits, hleaving, h.posts]
  | exit => simp [Machine.doWork, takeNextExit, hleaving]
  | posts => simp [Machine.doWork, hposts rfl]
  | mark => simp [Machine.doWork, h.mark]
  | pitchActions => exact absurd (by simpa [workReady, wholeWork] using hready) hpitch
  | levelChange l => exact absurd (by simpa [workReady, wholeWork] using hready) (hlevel l)
  | drainCompletion =>
    have hopen := h.drain
    simp [workReady, wholeWork] at hready
    simp [drainOpen, hready] at hopen

theorem NothingDue.advanceOnce {first : List AdvanceWork} (h : NothingDue (stepForward s))
    (hposts : .posts ∈ first → serveDone (stepForward s) = stepForward s) : advanceOnce first s = stepForward s := by
  obtain ⟨left, fixed, u, heq, ⟨rfl, _⟩, _⟩ := advanceOnce_induction (s := s) (first := first)
    (P := fun left fixed u => u = stepForward s ∧ fixed = none ∧ .pitchActions ∉ left ∧ ∀ l, .levelChange l ∉ left)
    ⟨rfl, rfl, by decide, by decide⟩
    (by
      rintro left fixed w _ _ hleft hready hmem ⟨rfl, rfl, hpitch, hlevel⟩
      have hnamed : w = .posts → serveDone (stepForward s) = stepForward s := by
        rintro rfl
        exact hposts (hmem.resolve_right fun hin => (hleft.whole _ hin).2 rfl)
      obtain ⟨hwork, hfixed⟩ := h.doWork hready hpitch hlevel hnamed
      rw [hwork, hfixed, List.append_nil]
      exact ⟨rfl, rfl, fun hx => hpitch (List.mem_of_mem_erase hx), fun l hx => hlevel l (List.mem_of_mem_erase hx)⟩)
  rw [heq, h.posts, settleDrain_eq, if_pos h.drain]

/-- Settles O14: no piece of work changes anything (`NothingDue.doWork`), so that the step of H is all there is. -/
theorem quietAdvanceMovesOnlyH : Obligations.QuietAdvanceMovesOnlyH := by
  intro first s hmay hmark hlanes hactions hentries hposts hdrain
  have hidle : settlePosts (stepForward s) = stepForward s ∧
      (.posts ∈ first → serveDone (stepForward s) = stepForward s) := by
    rcases hposts with hdone | hfull | ⟨hfifo, hnamed⟩
    · have hserve := serveDone_of_idle (stepForward s) (.inl hdone)
      exact ⟨by rcases settlePosts_cases (stepForward s) with ⟨_, e⟩ | ⟨_, e⟩ <;> simp [e, hserve], fun _ => hserve⟩
    · have hserve := serveDone_of_idle (stepForward s) (.inr hfull)
      exact ⟨by rcases settlePosts_cases (stepForward s) with ⟨_, e⟩ | ⟨_, e⟩ <;> simp [e, hserve], fun _ => hserve⟩
    · refine ⟨?_, fun h => absurd h hnamed⟩
      rcases settlePosts_cases (stepForward s) with ⟨h, _⟩ | ⟨_, e⟩
      · exact absurd h hfifo
      · exact e
  have hnothing : NothingDue (stepForward s) := ⟨hmark, hlanes, hactions, hentries, hidle.1, hdrain⟩
  rw [exec_advance, if_pos hmay, hnothing.advanceOnce hidle.2, satSucc_half_eq]
  rfl

end Sys2Proof.Machine
end

section
set_option Elab.async false
/-! PROOFS. The resets (R155, R169), the motion unit's own events (R5, R16) and the step on an empty queue: the values that each
leaves in every block. -/

namespace Sys2Proof.Machine

variable {s t : State}

/-! ### Pin reset (R169) -/

/-- At pin reset the flag register shows POWER_ON alone: the queue is empty and the threshold 1 (R165, R169). -/
theorem afterPinReset_flagBits (levels : InputLevels) : flagBits (State.afterPinReset levels) = Flag.powerOn.bit := by
  have hlevel : reportLevel (State.afterPinReset levels) = false := by
    simp [reportLevel, depth, State.afterPinReset, ReportQueue.reset]
  rw [flagBits, hlevel, afterPinReset_sticky]
  decide

/-- Settles O5: the values of pin reset, block by block. -/
theorem pinResetValuesOfTheOtherBlocks : Obligations.PinResetValuesOfTheOtherBlocks := by
  intro levels s
  refine ⟨_, exec_pinReset levels s, rfl, rfl, rfl, ?detectors, rfl, ?lists, rfl, ?counters, rfl, rfl, rfl, ?channels, rfl, rfl,
    ?flags, ?irq, rfl, rfl, rfl⟩
  case detectors => exact fun l => Vector.getElem_replicate l.isLt
  case lists => exact fun l => Vector.getElem_replicate l.isLt
  case counters => exact fun l => Vector.getElem_replicate l.isLt
  case irq =>
    show (flagBits (State.afterPinReset levels) &&& Interrupts.reset.enables != 0) = false
    rw [afterPinReset_flagBits]
    decide
  case channels =>
    intro n
    have hchannel := afterPinReset_channel levels n
    exact ⟨congrArg OutputChannel.config hchannel, congrArg OutputChannel.state hchannel, by
      unfold outLine
      rw [show ({ State.afterPinReset levels with pending := s.pending, freeCount := s.freeCount } : State).channels[n] =
        OutputChannel.reset from hchannel]
      rfl⟩
  case flags =>
    intro f
    have hflags : flagSet f { State.afterPinReset levels with pending := s.pending, freeCount := s.freeCount } =
        Flag.powerOn.bit.getLsbD f.position := congrArg (·.getLsbD f.position) (afterPinReset_flagBits levels)
    have henables : (State.afterPinReset levels).interrupts.enables = Flag.reportLevel.bit ||| Flag.fault.bit := rfl
    refine ⟨by simp [hflags, eq_comm], ?_⟩
    show (State.afterPinReset levels).interrupts.enables.getLsbD f.position = true ↔ _
    rw [henables, BitVec.getLsbD_or, Flag.bit_getLsbD, Flag.bit_getLsbD]
    simpa only [Bool.or_eq_true, decide_eq_true_eq] using or_congr eq_comm eq_comm

/-- With no entry and no action, and every lane and channel at its reset value, the line is sound at any level of the inputs. -/
theorem lineSound_afterPinReset (levels : InputLevels) (pending : List Instr) (freeCount : Nat) :
    LineSound { State.afterPinReset levels with pending := pending, freeCount := freeCount } := by
  have hlane (l : Lane) : (State.afterPinReset levels).detectors.lane[l] = Detector.reset := Vector.getElem_replicate l.isLt
  have hlist (l : Lane) : (State.afterPinReset levels).table.laneList[l] = [] := Vector.getElem_replicate l.isLt
  have hcounters (l : Lane) : (State.afterPinReset levels).table.counters[l] = LaneCounters.zero :=
    Vector.getElem_replicate l.isLt
  have hentries : (State.afterPinReset levels).table.entries = [] := rfl
  have hschedule : (State.afterPinReset levels).schedule = [] := rfl
  have hchannel := afterPinReset_channel levels
  constructor
  case bounded => 
    exact ⟨Nat.zero_le _, Nat.zero_le _, Nat.zero_le _, ⟨le_rfl, Nat.le_of_ble_eq_true rfl⟩, Nat.le_of_ble_eq_true rfl,
      fun h => absurd rfl h⟩
  case window => exact ⟨fun _ => rfl, fun h => absurd h Bool.false_ne_true⟩
  case table =>
    exact ⟨rfl, fun l => by simp [hlist, hentries], .nil, fun l => by simp [openingCount, detectorOf, hlane, Detector.reset, hentries]⟩
  case entries => simp [EntriesSound, hentries]
  case counters => simp [CountersSound, hcounters, LaneCounters.zero, confirmedCount, hentries]
  case channels => simp [ChannelsSound, activeCount, hschedule, hchannel, OutputChannel.reset]
  case links => simp [LinksSound, hschedule]
  case engine =>
    have hengine : (State.afterPinReset levels).engine = Engine.reset := rfl
    simp [EngineSound, hengine, Engine.reset, hschedule, liveEntries, hentries, detectorOf, hlane, Detector.reset]
  case epochs =>
    have hengine : (State.afterPinReset levels).engine = Engine.reset := rfl
    simp [EpochSound, hentries, hengine, Engine.reset]

/-- Settles O60: at the reset state and after every pin reset. -/
theorem pinResetLeavesTheLineSound : Obligations.PinResetLeavesTheLineSound := by
  refine ⟨lineSound_afterPinReset Machine.InputLevels.atReset [] 0, fun levels s t h => ?_⟩
  obtain rfl := Host.Outcome.next.inj ((exec_pinReset levels s).symm.trans h)
  exact lineSound_afterPinReset levels s.pending s.freeCount

/-! ### Engine reset (R155) -/

theorem exec_engineReset_taken (h : s.window.takesWrite 0x0004 = true) :
    exec .engineReset s = .next { commandReset s with window := s.window.afterWrite } :=
  congrArg Host.Outcome.next (hostWrite_taken s 0x0004 commandReset h rfl)

/-- Settles O6: each block after an engine reset that the window takes. -/
theorem engineResetKeepsTheConfiguration : Obligations.EngineResetKeepsTheConfiguration := by
  intro s htaken
  have hchannel (n : Channel) : (commandReset s).channels[n] = { s.channels[n] with state := .idle } := mapAll_get _ _ n
  refine ⟨_, exec_engineReset_taken htaken, commandReset_motion s, rfl, rfl, ?detectors, rfl, ?lists, rfl, ?counters, rfl, rfl, rfl,
    rfl, ?channels, rfl, rfl, ?flags, rfl, rfl, rfl, rfl⟩
  case detectors => exact fun l => Vector.getElem_replicate l.isLt
  case lists => exact fun l => Vector.getElem_replicate l.isLt
  case counters => exact fun l => Vector.getElem_replicate l.isLt
  case channels =>
    refine fun n => ⟨hchannel n, ?_⟩
    unfold outLine
    rw [show ({ commandReset s with window := s.window.afterWrite } : State).channels[n] = _ from hchannel n]
    rfl
  case flags =>
    intro f
    show (s.interrupts.sticky &&& Flag.powerOn.bit).getLsbD f.position = _
    cases hf : s.interrupts.sticky.getLsbD f.position <;> simp [stickySet, hf, eq_comm]

/-! ### The motion unit (R5, R11, R16) -/

/-- The decode mode chooses which changes of a phase count (Table 1-3). -/
def countsChange (mode : DecodeMode) (r : Phases) (phase : EncoderPhase) : Bool :=
  match mode with
  | .x1 => decide (phase = .encA) && !r.encB
  | .x2 => decide (phase = .encA)
  | .x4 => true

/-- The count of a change of one phase before the invert: a change of ENCA leads where the two phases are equal, a change of ENCB
where they differ (Table 1-2). -/
theorem rawCount_flip (mode : DecodeMode) (r : Phases) (phase : EncoderPhase) :
    rawCount mode r (r.flip phase) =
      if countsChange mode r phase then some (decide (phase = .encA) == (r.encA == r.encB)) else none := by
  obtain ⟨a, b⟩ := r
  cases mode <;> cases phase <;> cases a <;> cases b <;> rfl

/-- A count moves P, and a reverse count after which the reversal condition first holds raises REVERSAL out of STOPPED (R5, R11). -/
theorem takeCount_eq (forward : Bool) (s : State) :
    takeCount forward s =
      let p := if forward then s.motion.p + 1 else s.motion.p - 1
      let raised := !forward && reversalHolds { s.motion with p := p } && !reversalHolds s.motion &&
        decide (s.engine.state ≠ .stopped)
      { s with motion := { s.motion with
          p := p, reports := s.motion.reports ++ if raised then [{ cause := .reversal, p := p, h := s.motion.h }] else [] } } := by
  cases forward with
  | true => simp [takeCount]
  | false =>
    simp only [takeCount, raiseFault, Bool.not_false, Bool.true_and, Bool.false_eq_true, if_false]
    split
    case isFalse h =>
      rw [eq_false_of_ne_true h]
      simp
    case isTrue h =>
      rw [h]
      by_cases hstopped : s.engine.state = .stopped <;> simp [hstopped]

/-- Settles O7: the count of Tables 1-2 and 1-3, then P and the reversal condition. -/
theorem legalTransitionMovesP : Obligations.LegalTransitionMovesP := by
  intro phase s r sample leads counted forward p beyond raised
  have hsample : s.motion.recorded.flip phase = sample := by cases phase <;> rfl
  have hcounted : countsChange s.motion.decodeMode s.motion.recorded phase = counted := rfl
  have hcount : directedCount s.motion sample = if counted then some forward else none := by
    rw [directedCount, ← hsample, rawCount_flip, hcounted]
    cases counted <;> rfl
  have heffect : exec (.legalTransition phase) s = .next (legalSample sample s) := by rw [← hsample]; rfl
  rw [heffect, legalSample, hcount]
  cases hc : counted
  case false => simp [raised, p, hc]
  case true =>
    have hp : p = if forward then s.motion.p + 1 else s.motion.p - 1 := by simp [p, hc]
    have hraised : raised = (!forward && beyond p && !beyond s.motion.p && decide (s.engine.state ≠ .stopped)) := by
      simp [raised, hc]
    rw [hraised, hp]
    exact congrArg Host.Outcome.next (takeCount_eq forward _)

/-- The mean of four window counts is a window count (R16). -/
theorem meanSpeed_toNat (x : SpeedHistory) :
    (meanSpeed x).toNat = (x.w0.toNat + x.w1.toNat + x.w2.toNat + x.w3.toNat) / 4 := by
  simp only [meanSpeed, BitVec.toNat_ofNat]
  omega

/-- Settles O12. -/
theorem speedEstimateIsTheMeanOfFourWindows : Obligations.SpeedEstimateIsTheMeanOfFourWindows := fun s =>
  ⟨meanSpeed { w0 := s.motion.history.w1, w1 := s.motion.history.w2, w2 := s.motion.history.w3, w3 := s.motion.windowCount },
    meanSpeed_toNat _, rfl⟩

/-! ### The step on an empty queue (assumptions 3 and 5) -/

theorem enqueueEvents_perm (events : List Instr) (s : State) (h : s.pending = []) :
    ∃ q, enqueueEvents events s = { s with pending := q, freeCount := s.freeCount + 1 } ∧ q.Perm events :=
  ⟨_, rfl, by simpa [h] using reorder_perm (Config.eventOrder s.freeCount) events⟩

/-- No entry is live exactly where every entry is DONE (Table 3-3). -/
theorem liveEntries_eq_zero_iff (s : State) : liveEntries s = 0 ↔ ∀ x ∈ s.table.entries, x.2.state = .done := by
  simp [liveEntries, isLive, List.countP_eq_zero]

/-- Settles O3: the events that are ready, and otherwise a tick and the expiries due on it. -/
theorem emptyQueueLetsThePartAct : Obligations.EmptyQueueLetsThePartAct := by
  intro s hpending now ready edgeOver pulseOver recoveryOver due
  have hready : readyEvents s = ready := by
    simp only [readyEvents, ready, List.isEmpty_iff, canAdvance_iff, drainDone_iff, liveEntries_eq_zero_iff, Bool.and_eq_true,
      Bool.not_eq_true', List.isEmpty_eq_false_iff, decide_eq_true_eq]
    rfl
  have hdue : dueExpiries (elapseTo now s) = due := by
    have htick : (elapseTo now s).motion.tick = now := Nat.max_eq_right (Nat.le_succ _)
    simp only [dueExpiries, due, htick]
    have hedges : edgeDue (elapseTo now s) = edgeOver := by
      funext l
      have hedge : (elapseTo now s).detectors.lane[l].edge = (detectorOf l s).edge := rfl
      simp only [edgeDue, htick, edgeOver, hedge]
      cases (detectorOf l s).edge <;> rfl
    have hpulses : pulseDue (elapseTo now s) = pulseOver := by
      funext n
      refine congrArg s.schedule.any (funext fun a => ?_)
      simp only [htick]
      rcases a.state with _ | _ | _ <;> simp
    have hrecoveries : recoveryDue (elapseTo now s) = recoveryOver := by
      funext n
      simp only [recoveryDue, htick, recoveryOver]
      rfl
    rw [hedges, hpulses, hrecoveries]
    rfl
  rw [step_nil s hpending, idleStep, hready]
  by_cases hnone : ready = []
  · obtain ⟨q, heq, hperm⟩ := enqueueEvents_perm due (elapseTo now s) hpending
    refine ⟨q, ?_, by simpa [hnone] using hperm⟩
    have hmotion : { s.motion with tick := now } = (elapseTo now s).motion := by
      simp [now]
    simp only [hnone, List.isEmpty_nil, if_true, hmotion]
    exact congrArg Host.Outcome.next ((congrArg (enqueueEvents · _) hdue).trans heq)
  · obtain ⟨q, heq, hperm⟩ := enqueueEvents_perm ready s hpending
    refine ⟨q, ?_, by simpa [hnone] using hperm⟩
    simp only [List.isEmpty_iff, hnone, if_false]
    exact congrArg Host.Outcome.next heq

end Sys2Proof.Machine
end

section
set_option Elab.async false
/-! PROOFS. The detectors' own events (chapter 2): a raw input change makes or drops the pending edge, and its expiry takes a leading
or a trailing edge. -/

namespace Sys2Proof.Machine

variable {s t : State}

/-! ### Detectors and records -/

theorem modifyDetector_eq (l : Lane) (f : Detector → Detector) (s : State) :
    modifyDetector l f s =
      { s with detectors := { s.detectors with lane := s.detectors.lane.set l (f (detectorOf l s)) } } := rfl

/-- Two changes of one detector, one after the other, are one change. -/
theorem modifyDetector_modifyDetector (l : Lane) (f g : Detector → Detector) (s : State) :
    modifyDetector l g (modifyDetector l f s) = modifyDetector l (fun d => g (f d)) s := by
  have hd := detectorOf_modifyDetector s l l f
  rw [if_pos rfl] at hd
  rw [modifyDetector_eq l g, hd]
  simp [modifyDetector_eq]

/-- A record that is offered and a change of a detector do not meet (R159). -/
theorem modifyDetector_offer (l : Lane) (f : Detector → Detector) (r : Report) (s : State) :
    modifyDetector l f (offer r s) = offer r (modifyDetector l f s) := by
  rcases offer_cases s r with ⟨h, e⟩ | ⟨h, e⟩ <;> rw [e]
  · exact (offer_admitted (modifyDetector l f s) r h).symm
  · exact (offer_lost (modifyDetector l f s) r h).symm

theorem drainOpen_offer (r : Report) (s : State) : drainOpen (offer r s) = drainOpen s := by
  rcases offer_cases s r with ⟨_, e⟩ | ⟨_, e⟩ <;> rw [e] <;> rfl

/-- Where the drain is not over, nothing follows an event (R149). -/
theorem settleDrain_of_drainOpen (h : drainOpen s = true) : settleDrain s = s := by
  rw [settleDrain_eq, if_pos h]

theorem laneEnabled_and_tracking (l : Lane) (s : State) :
    (s.detectors.enabled.getLsbD l.val && decide (s.engine.state = .running ∨ s.engine.state = .draining)) =
      (laneEnabled l s && tracking s) := by
  simp [laneEnabled, inMask, tracking]

/-! ### The pending edge (R22, R23, R24) -/

/-- The expiry of an edge that is taken (R23). -/
theorem exec_debounceExpiry {l : Lane} {ed : PendingEdge} (hedge : (detectorOf l s).edge = some ed) (htracking : tracking s = true) :
    exec (.debounceExpiry l) s = .next (settleDrain (takeEdge l ed (elapseTo ed.expires s))) := by
  show Host.Outcome.next _ = _
  rw [show s.detectors.lane[l].edge = some ed from hedge]
  simp [htracking]

/-- With no pending edge, and in STOPPED and FROZEN, no edge is taken (R24, assumption 11). -/
theorem exec_debounceExpiry_idle {l : Lane} (h : (detectorOf l s).edge = none ∨ tracking s = false) :
    exec (.debounceExpiry l) s = .next s := by
  show Host.Outcome.next _ = _
  rcases h with hedge | hidle
  · rw [show s.detectors.lane[l].edge = none from hedge]
  · split <;> simp [hidle]

/-- A change of a line's level (R20). -/
theorem exec_rawInputChange {l : Lane} {high : Bool} (h : s.det[l] ≠ high) :
    exec (.rawInputChange l high) s = .next (settleDrain (rawChange l (setDet l high s))) := by
  show Host.Outcome.next _ = _
  rw [if_neg h]

theorem rawChange_idle {l : Lane} (h : (laneEnabled l s && tracking s) = false) : rawChange l s = s := by
  unfold rawChange
  rw [if_pos (by rw [← Bool.not_and, h]; rfl)]

theorem rawChange_of_edge {l : Lane} (h : (laneEnabled l s && tracking s) = true) (hedge : (detectorOf l s).edge ≠ none) :
    rawChange l s = modifyDetector l ({ · with edge := none }) s := by
  obtain ⟨henabled, htracking⟩ := Bool.and_eq_true_iff.1 h
  obtain ⟨ed, hed⟩ := Option.ne_none_iff_exists'.1 hedge
  simp [rawChange, henabled, htracking, hed]

theorem rawChange_of_no_edge {l : Lane} (h : (laneEnabled l s && tracking s) = true) (hedge : (detectorOf l s).edge = none) :
    rawChange l s = createEdge l s := by
  obtain ⟨henabled, htracking⟩ := Bool.and_eq_true_iff.1 h
  simp [rawChange, henabled, htracking, hedge]

/-- The edge that a change creates (R22). -/
def newEdge (l : Lane) (s : State) : PendingEdge :=
  { latched := s.motion.h, expires := s.motion.tick + (currentBank s).lanes[l].debounce.toNat,
    inGap := (detectorOf l s).state = .gap }

theorem createEdge_debounced {l : Lane} (h : (currentBank s).lanes[l].debounce ≠ 0) :
    createEdge l s = modifyDetector l ({ · with edge := some (newEdge l s) }) s := if_neg h

theorem createEdge_at_once {l : Lane} (h : (currentBank s).lanes[l].debounce = 0) :
    createEdge l s = takeEdge l (newEdge l s) s := if_pos h

/-- Settles O26: no change, an idle line or lane, a reversion, and a new edge. -/
theorem rawInputChangeMakesOrDropsThePendingEdge : Obligations.RawInputChangeMakesOrDropsThePendingEdge := by
  intro l high s hopen d
  refine ⟨fun h => exec_debounceExpiry_idle (h.imp_right ?_), ?_⟩
  · rintro (h | h) <;> simp [tracking, h]
  intro debounce act u
  have hact : act = (laneEnabled l u && tracking u) := laneEnabled_and_tracking l s
  rw [hact]
  refine ⟨fun h => congrArg Host.Outcome.next (if_pos h), ?idle, ?drops, ?creates⟩
  case idle =>
    intro hlevel hidle
    rw [exec_rawInputChange hlevel]
    exact congrArg Host.Outcome.next ((congrArg settleDrain (rawChange_idle (s := u) hidle)).trans
      (settleDrain_of_drainOpen (s := u) hopen))
  case drops =>
    intro hlevel hact hedge
    rw [exec_rawInputChange hlevel]
    exact congrArg Host.Outcome.next ((congrArg settleDrain (rawChange_of_edge (s := u) hact hedge)).trans
      (settleDrain_of_drainOpen (s := modifyDetector l _ u) hopen))
  case creates =>
    intro hlevel hact hedge hdebounce
    rw [exec_rawInputChange hlevel]
    exact congrArg Host.Outcome.next ((congrArg settleDrain ((rawChange_of_no_edge (s := u) hact hedge).trans
      (createEdge_debounced (s := u) hdebounce))).trans (settleDrain_of_drainOpen (s := modifyDetector l _ u) hopen))

/-- The tick does not run back (R13). -/
theorem elapseTo_now {k : Nat} (h : k ≤ s.motion.tick) : elapseTo k s = s := by
  have hmax : max s.motion.tick k = s.motion.tick := Nat.max_eq_left h
  unfold elapseTo
  rw [hmax]

/-- An edge that is taken is no longer pending, so it does not matter what was held as the pending edge (R23). -/
theorem takeEdge_of_pending (l : Lane) (ed : PendingEdge) (x : Option PendingEdge) (s : State) :
    takeEdge l ed (modifyDetector l ({ · with edge := x }) s) = takeEdge l ed s := by
  have hstate : (detectorOf l (modifyDetector l ({ · with edge := x }) s)).state = (detectorOf l s).state := by simp
  unfold takeEdge
  rw [hstate, modifyDetector_modifyDetector]

/-- Settles O27: with a debounce of 0 the edge that the change creates is the edge of the expiry on the same tick. -/
theorem zeroDebounceTakesTheEdgeAtOnce : Obligations.ZeroDebounceTakesTheEdgeAtOnce := by
  intro l high s d hlevel henabled htracking hedge hdebounce
  let u : State := setDet l high s
  let ed : PendingEdge := { latched := s.motion.h, expires := s.motion.tick, inGap := d.state = .gap }
  have hact : (laneEnabled l u && tracking u) = true := Bool.and_eq_true_iff.2 ⟨henabled, htracking⟩
  have hnew : newEdge l u = ed := by
    have hzero : (currentBank u).lanes[l].debounce = 0 := hdebounce
    rw [newEdge, hzero]
    rfl
  let v : State := modifyDetector l ({ · with edge := some ed }) u
  have hpending : (detectorOf l v).edge = some ed := by simp [v]
  have hnow : elapseTo ed.expires v = v := elapseTo_now le_rfl
  calc exec (.rawInputChange l high) s
    _ = .next (settleDrain (takeEdge l ed u)) := by
        rw [exec_rawInputChange hlevel, rawChange_of_no_edge (s := u) hact hedge, createEdge_at_once (s := u) hdebounce, hnew]
    _ = .next (settleDrain (takeEdge l ed (elapseTo ed.expires v))) := by
        rw [hnow, takeEdge_of_pending]
    _ = exec (.debounceExpiry l) v := (exec_debounceExpiry hpending htracking).symm

/-! ### Trailing edges -/

/-- A leading edge is taken where the taken level is INACTIVE (R20, R23). -/
theorem takeEdge_leading {l : Lane} (ed : PendingEdge) (h : (detectorOf l s).state = .clear ∨ (detectorOf l s).state = .gap) :
    takeEdge l ed s = takeLeading l ed (modifyDetector l ({ · with edge := none }) s) := by
  rcases h with h | h <;> simp [takeEdge, h, takenLevel]

/-- A trailing edge is taken where the taken level is ACTIVE (R20, R23). -/
theorem takeEdge_trailing {l : Lane} (ed : PendingEdge) (h : (detectorOf l s).state = .covered ∨ (detectorOf l s).state = .blocked) :
    takeEdge l ed s = takeTrailing l ed (modifyDetector l ({ · with edge := none }) s) := by
  rcases h with h | h <;> simp [takeEdge, h, takenLevel]

/-- What the detector of a lane holds once a trailing edge has opened a gap (R32, R33). -/
def afterTrailing (l : Lane) (trailing : Word) (s : State) (d : Detector) : Detector :=
  { d with
    edge := none, gap := some { trailing := trailing, minGap := (currentBank s).lanes[l].minGap }
    state := if (s.motion.h - (trailing + (currentBank s).lanes[l].minGap.setWidth 32)).toNat < 2 ^ 31 then .clear else .gap }

theorem openGap_eq (l : Lane) (trailing : Word) (s : State) :
    openGap l trailing s = modifyDetector l (fun d => { afterTrailing l trailing s d with edge := d.edge }) s := by
  simp [openGap, afterTrailing, reached, gapEnd]

/-- Settles O33. -/
theorem trailingEdgeInBlockedOpensAGap : Obligations.TrailingEdgeInBlockedOpensAGap := by
  intro l s ed htracking hopen hedge hblocked minGap
  have hstate : (detectorOf l (modifyDetector l ({ · with edge := none }) (elapseTo ed.expires s))).state = .blocked := by
    rw [detectorOf_modifyDetector, if_pos rfl]
    exact hblocked
  rw [exec_debounceExpiry hedge htracking, takeEdge_trailing (s := elapseTo ed.expires s) ed (.inr hblocked), takeTrailing, hstate]
  simp only [openGap_eq, modifyDetector_modifyDetector]
  exact congrArg Host.Outcome.next (settleDrain_of_drainOpen (s := modifyDetector l _ (elapseTo ed.expires s)) hopen)

/-! ### Leading edges that are refused (R26, R27, R28) -/

theorem raise_modifyDetector (l : Lane) (f : Detector → Detector) (code : ExceptionCode) (lane : Option Lane)
    (tag : Option Half) (s : State) :
    raise code lane tag (modifyDetector l f s) = modifyDetector l f (raise code lane tag s) :=
  (modifyDetector_offer l f _ (setFlag .exception s)).symm

theorem modifyCounters_offer (l : Lane) (f : LaneCounters → LaneCounters) (r : Report) (s : State) :
    modifyCounters l f (offer r s) = offer r (modifyCounters l f s) := by
  rcases offer_cases s r with ⟨h, e⟩ | ⟨h, e⟩ <;> rw [e]
  · exact (offer_admitted (modifyCounters l f s) r h).symm
  · exact (offer_lost (modifyCounters l f s) r h).symm

theorem modifyCounters_modifyDetector (l k : Lane) (f : LaneCounters → LaneCounters) (g : Detector → Detector) (s : State) :
    modifyCounters l f (modifyDetector k g s) = modifyDetector k g (modifyCounters l f s) := rfl

/-- Settles O30: the three refusals, each with its exception. -/
theorem leadingEdgeIsRefused : Obligations.LeadingEdgeIsRefused := by
  intro l s ed htracking hopen hedge hinactive d after
  let w : State := elapseTo ed.expires s
  have hedgeTaken : exec (.debounceExpiry l) s =
      .next (settleDrain (takeLeading l ed (modifyDetector l ({ · with edge := none }) w))) := by
    rw [exec_debounceExpiry hedge htracking, takeEdge_leading (s := w) ed hinactive]
  have hsettle (r : Report) (u : State) (hu : drainOpen u = true) : settleDrain (offer r u) = offer r u :=
    settleDrain_of_drainOpen ((drainOpen_offer r u).trans hu)
  refine ⟨fun hgap => ?gapShort, fun hgap hdraining => ?draining, fun hgap hrunning hfull => ?tableFull⟩
  case gapShort =>
    rw [hedgeTaken, takeLeading, if_pos hgap, raise_modifyDetector, modifyDetector_modifyDetector, raise_eq, modifyDetector_offer]
    exact congrArg Host.Outcome.next (hsettle _ _ hopen)
  case draining =>
    have hstate : (modifyDetector l ({ · with edge := none }) w).engine.state = .draining := hdraining
    rw [hedgeTaken, takeLeading, hgap, if_neg Bool.false_ne_true, if_pos hstate, goTo, raise_modifyDetector,
      modifyDetector_modifyDetector, raise_eq, modifyDetector_offer]
    exact congrArg Host.Outcome.next (hsettle _ _ hopen)
  case tableFull =>
    have hstate : (modifyDetector l ({ · with edge := none }) w).engine.state ≠ .draining := by
      simp [w, hrunning]
    have hnone : lowestFreeSlot (modifyDetector l ({ · with edge := none }) w).table.entries = none :=
      (lowestFreeSlot_none_iff _).2 hfull
    rw [hedgeTaken, takeLeading, hgap, if_neg Bool.false_ne_true, if_neg hstate, hnone, goTo, raise_modifyDetector,
      modifyCounters_modifyDetector, modifyDetector_modifyDetector, raise_eq, modifyCounters_offer, modifyDetector_offer]
    exact congrArg Host.Outcome.next (hsettle _ _ hopen)

/-! ### An entry in its slot -/

/-- An entry that takes a new value in its slot leaves the other slots in place. -/
theorem putEntry_of_present {l : List (Slot × Entry)} (h : slotsRising l = true) {slot : Slot} {d : Entry}
    (hd : findEntry slot l = some d) (e : Entry) :
    putEntry slot e l = l.map fun x => if x.1 = slot then (slot, e) else x := by
  induction l with
  | nil => simp [findEntry] at hd
  | cons x l ih =>
    obtain ⟨k, c⟩ := x
    obtain ⟨hbelow, hrising⟩ := List.pairwise_cons.1 (of_decide_eq_true h)
    by_cases hk : k = slot
    · subst hk
      have hothers : ∀ y ∈ l, (if y.1 = k then (k, e) else y) = y := fun y hy => if_neg (hbelow y hy).ne'
      simp [putEntry, List.map_congr_left hothers]
    · have hin : findEntry slot l = some d := by simpa [findEntry, hk] using hd
      have hslot : ¬ slot < k := fun hlt => absurd (hbelow _ (findEntry_mem hin)) (not_lt.2 hlt.le)
      simp [putEntry, hslot, hk, ih (decide_eq_true hrising) hin]

/-! ### The OPENING entry of a lane -/

/-- Two members of a list that are the only ones to satisfy a test are one. -/
theorem eq_of_countP_one {α : Type} {p : α → Bool} {l : List α} (h : l.countP p = 1) {x y : α} (hx : x ∈ l) (hpx : p x = true)
    (hy : y ∈ l) (hpy : p y = true) : x = y := by
  rw [List.countP_eq_length_filter] at h
  obtain ⟨z, hz⟩ := List.length_eq_one_iff.1 h
  have hx' : x ∈ l.filter p := List.mem_filter.2 ⟨hx, hpx⟩
  have hy' : y ∈ l.filter p := List.mem_filter.2 ⟨hy, hpy⟩
  rw [hz, List.mem_singleton] at hx' hy'
  exact hx'.trans hy'.symm

theorem openingCount_pos {l : Lane} {slot : Slot} {e : Entry} (hmem : (slot, e) ∈ s.table.entries) (hlane : e.lane = l)
    (hstate : e.state = .opening) : 0 < openingCount l s :=
  List.countP_pos_iff.2 ⟨(slot, e), hmem, by simp [hlane, hstate]⟩

/-- A lane with an OPENING entry is COVERED and has no other (R25, R48). -/
theorem openingCount_eq_one (htable : TableSound s) {l : Lane} {slot : Slot} {e : Entry} (hmem : (slot, e) ∈ s.table.entries)
    (hlane : e.lane = l) (hstate : e.state = .opening) : openingCount l s = 1 ∧ (detectorOf l s).state = .covered := by
  obtain ⟨_, _, _, hopening⟩ := htable
  have hpos := openingCount_pos hmem hlane hstate
  have hcount := hopening l
  split at hcount
  · exact ⟨hcount, by assumption⟩
  · omega

/-- The OPENING entry of a lane is the one that a trailing edge measures (R29, R48). -/
theorem openingEntry_eq (htable : TableSound s) {l : Lane} {slot : Slot} {e : Entry} (hmem : (slot, e) ∈ s.table.entries)
    (hlane : e.lane = l) (hstate : e.state = .opening) : openingEntry l s = some (slot, e) := by
  obtain ⟨hone, -⟩ := openingCount_eq_one htable hmem hlane hstate
  cases hfind : openingEntry l s with
  | none =>
    have hnot := List.find?_eq_none.1 hfind (slot, e) hmem
    simp [hlane, hstate] at hnot
  | some x =>
    obtain ⟨hx, hxl, hxs⟩ := openingEntry_spec (slot := x.1) (e := x.2) hfind
    exact congrArg some (eq_of_countP_one hone hx (by simp [hxl, hxs]) hmem (by simp [hlane, hstate]))

/-! ### A trailing edge in COVERED (R29, R30, R45, R46) -/

/-- The gap that a trailing edge opens after what it measured. -/
theorem openGap_after (l : Lane) (trailing : Word) {u : State} (hunit : u.epochUnit = s.epochUnit) (hh : u.motion.h = s.motion.h) :
    openGap l trailing (modifyDetector l ({ · with edge := none }) u) = modifyDetector l (afterTrailing l trailing s) u := by
  rw [openGap_eq, modifyDetector_modifyDetector]
  have hbank : currentBank (modifyDetector l ({ · with edge := none }) u) = currentBank s := currentBank_congr hunit
  unfold afterTrailing
  rw [hbank, show (modifyDetector l ({ · with edge := none }) u).motion.h = s.motion.h from hh]

theorem takeTrailing_covered {l : Lane} {slot : Slot} {e : Entry} (ed : PendingEdge) (hcovered : (detectorOf l s).state = .covered)
    (hopening : openingEntry l s = some (slot, e)) :
    takeTrailing l ed s = openGap l ed.latched (measure l slot e ed.latched s) := by
  rw [takeTrailing, hcovered, hopening]

/-- What a discard leaves of the schedule: no PENDING action of the entry, and its ACTIVE actions unlinked (R121). -/
theorem detachItem_eq (slot : Slot) (l : List Action) :
    detachItem slot l = (l.filter fun a => a.isActive || decide (a.item ≠ some slot)).map fun a =>
      if a.item = some slot then { a with item := none } else a := by
  unfold detachItem
  congr 1
  refine List.filter_congr fun a _ => ?_
  cases a.isActive <;> simp

/-- Settles O31: the discard of R46 and R121, and the gap. -/
theorem shortItemIsDiscarded : Obligations.ShortItemIsDiscarded := by
  intro l s ed slot e htable htracking hedge hcovered hmem hlane hstate hshort minGap u v
  subst hlane
  let w : State := elapseTo ed.expires s
  have hopening : openingEntry e.lane (modifyDetector e.lane ({ · with edge := none }) w) = some (slot, e) :=
    openingEntry_eq (s := s) htable hmem rfl hstate
  have hcovered' : (detectorOf e.lane (modifyDetector e.lane ({ · with edge := none }) w)).state = .covered := by
    rw [detectorOf_modifyDetector, if_pos rfl]
    exact hcovered
  have hmeasure : measure e.lane slot e ed.latched (modifyDetector e.lane ({ · with edge := none }) w) =
      modifyDetector e.lane ({ · with edge := none }) (raise .shortItem (some e.lane) none (discardEntry slot e w)) := by
    rw [← raise_modifyDetector]
    exact if_pos hshort
  have hv : modifyDetector e.lane (afterTrailing e.lane ed.latched s)
      (raise .shortItem (some e.lane) none (discardEntry slot e w)) = v := by
    rw [raise_eq, modifyDetector_offer, discardEntry, detachItem_eq]
    rfl
  rw [exec_debounceExpiry hedge htracking, takeEdge_trailing (s := w) ed (.inl hcovered), takeTrailing_covered ed hcovered' hopening,
    hmeasure, openGap_after (s := s) e.lane ed.latched (by simp [w]) (by simp [w]), hv, settleDrain_eq]

end Sys2Proof.Machine
end

section
set_option Elab.async false
/-! PROOFS. Confirmation by a trailing edge (R31, R45): the first free tag, by counting the slots, and the DETECT record. -/

namespace Sys2Proof.Machine

variable {s t : State}

/-! ### The next free tag (R31) -/

theorem tagFree_iff (l : Lane) (tag : Half) (s : State) :
    tagFree l tag s = true ↔ ∀ x ∈ s.table.entries, x.2.lane = l → x.2.tag ≠ some tag := by
  simp [tagFree, taggedEntry]

/-- The search for a tag goes up from the one given past the tags that are carried, for as long as the fuel lasts. -/
theorem nextFreeTag_eq_add (l : Lane) (s : State) (fuel : Nat) (tag : Half) :
    ∃ n ≤ fuel, nextFreeTag l s fuel tag = tag + BitVec.ofNat 16 n ∧
      (∀ k < n, tagFree l (tag + BitVec.ofNat 16 k) s = false) ∧
      (n < fuel → tagFree l (tag + BitVec.ofNat 16 n) s = true) := by
  induction fuel generalizing tag with
  | zero => exact ⟨0, le_rfl, by simp [nextFreeTag], by simp, by simp⟩
  | succ fuel ih =>
    cases hfree : tagFree l tag s with
    | true => exact ⟨0, Nat.zero_le _, by simp [nextFreeTag, hfree], by simp, fun _ => by simpa using hfree⟩
    | false =>
      obtain ⟨n, hn, heq, hcarried, hlast⟩ := ih (tag + 1)
      have hshift (k : Nat) : tag + 1 + BitVec.ofNat 16 k = tag + BitVec.ofNat 16 (k + 1) := by
        rw [BitVec.add_assoc]
        congr 1
        bv_omega
      refine ⟨n + 1, Nat.succ_le_succ hn, (if_neg (by simp [hfree])).trans (heq.trans (hshift n)), ?_, fun h => ?_⟩
      · intro k hk
        cases k with
        | zero => simpa using hfree
        | succ k => exact hshift k ▸ hcarried k (by omega)
      · exact hshift n ▸ hlast (by omega)

/-- 257 tags one after another are not all carried: there are 256 slots, and an entry carries one tag (R31, R38). -/
theorem exists_tagFree (hwf : s.table.wf = true) (l : Lane) (tag : Half) :
    ∃ k < 257, tagFree l (tag + BitVec.ofNat 16 k) s = true := by
  by_contra hall
  have hcarried (k : Fin 257) : ∃ x ∈ s.table.entries, x.2.tag = some (tag + BitVec.ofNat 16 k.val) := by
    by_contra hnone
    exact hall ⟨k, k.isLt, (tagFree_iff l _ s).2 fun x hx _ htag => hnone ⟨x, hx, htag⟩⟩
  choose carrier hmem htag using hcarried
  obtain ⟨j, k, hne, hslot⟩ := Fintype.exists_ne_map_eq_of_card_lt (fun k => (carrier k).1) (by simp)
  have hentry : carrier j = carrier k := by
    have hj := entryAt_of_mem hwf (hmem j)
    rw [hslot, entryAt_of_mem hwf (hmem k)] at hj
    exact Prod.ext hslot (Option.some.inj hj).symm
  have heq : tag + BitVec.ofNat 16 j.val = tag + BitVec.ofNat 16 k.val :=
    Option.some.inj ((htag j).symm.trans (hentry ▸ htag k))
  have hj := j.isLt
  have hk := k.isLt
  exact hne (Fin.ext (by bv_omega))

/-- R31: the tag that a confirmation takes is free, and every tag from the lane's next tag up to it is carried. -/
theorem nextFreeTag_spec (hwf : s.table.wf = true) (l : Lane) (tag : Half) :
    tagFree l (nextFreeTag l s 257 tag) s = true ∧
      ∀ k < (nextFreeTag l s 257 tag - tag).toNat, tagFree l (tag + BitVec.ofNat 16 k) s = false := by
  obtain ⟨n, hn, heq, hcarried, hlast⟩ := nextFreeTag_eq_add l s 257 tag
  obtain ⟨k, hk, hfree⟩ := exists_tagFree hwf l tag
  have hlt : n < 257 := by
    by_contra hge
    exact Bool.false_ne_true ((hcarried k (by omega)).symm.trans hfree)
  rw [heq]
  refine ⟨hlast hlt, fun k hk => hcarried k ?_⟩
  bv_omega

theorem tagFree_congr (l : Lane) (tag : Half) (h : t.table.entries = s.table.entries) : tagFree l tag t = tagFree l tag s := by
  simp only [tagFree, taggedEntry, h]

theorem nextFreeTag_congr (l : Lane) (h : t.table.entries = s.table.entries) (fuel : Nat) (tag : Half) :
    nextFreeTag l t fuel tag = nextFreeTag l s fuel tag := by
  induction fuel generalizing tag with
  | zero => rfl
  | succ fuel ih => simp only [nextFreeTag, tagFree_congr l tag h, ih]

/-! ### Confirmation (R45) -/

/-- The tag that a confirmation of an entry takes (R31). -/
def confirmTag (l : Lane) (s : State) : Half := nextFreeTag l s 257 (detectorOf l s).nextTag

theorem confirmTag_congr (l : Lane) (hentries : t.table.entries = s.table.entries)
    (hnext : (detectorOf l t).nextTag = (detectorOf l s).nextTag) : confirmTag l t = confirmTag l s := by
  rw [confirmTag, confirmTag, hnext, nextFreeTag_congr l hentries]

/-- A confirmation: the entry, the next tag, the confirmed count and the DETECT record. -/
theorem confirm_eq (slot : Slot) (e : Entry) (length : Half) (overlength : Option Class) (s : State) :
    confirm slot e length overlength s =
      modifyDetector e.lane ({ · with nextTag := confirmTag e.lane s + 1 })
        (offer (.detect e.lane (confirmTag e.lane s) e.epoch e.leading length overlength.isSome)
          (modifyCounters e.lane (fun c => { c with confirmed := c.confirmed + 1 })
            (setEntry slot (confirmedEntry e (confirmTag e.lane s) length overlength) s))) := by
  rw [modifyDetector_offer]
  rfl

/-- A live entry keeps a drain open (R149). -/
theorem drainOpen_of_live {x : Slot × Entry} (hx : x ∈ s.table.entries) (hlive : isLive x.2 = true) : drainOpen s = true := by
  have hpos : 0 < liveEntries s := List.countP_pos_iff.2 ⟨x, hx, hlive⟩
  have hdone : drainDone s = false := by
    cases h : drainDone s with
    | false => rfl
    | true =>
      obtain ⟨_, hzero, _⟩ := (drainDone_iff s).1 h
      omega
  simp [drainOpen, hdone]

theorem setEntry_modifyDetector (slot : Slot) (e : Entry) (l : Lane) (f : Detector → Detector) (s : State) :
    setEntry slot e (modifyDetector l f s) = modifyDetector l f (setEntry slot e s) := rfl

/-- Settles O32: the measure of R30, with the confirmation of R31 and R45, and the gap. -/
theorem trailingEdgeConfirmsTheItem : Obligations.TrailingEdgeConfirmsTheItem := by
  intro l s ed slot e htable htracking hedge hcovered hmem hlane hstate hmin hmax d minGap length
  subst hlane
  have hwf := htable.1
  obtain ⟨hfree, hcarried⟩ := nextFreeTag_spec hwf e.lane (detectorOf e.lane s).nextTag
  have hentry : entryAt slot s = some e := entryAt_of_mem hwf hmem
  let tag := confirmTag e.lane s
  let e' : Entry := { e with state := .tracked, tag := some tag, length := some length }
  refine ⟨tag, putEntry slot e' s.table.entries, (tagFree_iff _ _ s).1 hfree, fun k hk => ?carried,
    fun k => findEntry_putEntry slot k e' s.table.entries, ?length, ?exec⟩
  case carried =>
    have hk := hcarried k hk
    rw [← Bool.not_eq_true, tagFree_iff] at hk
    push Not at hk
    obtain ⟨x, hx, hlane, htag⟩ := hk
    exact ⟨x, hx, hlane, htag⟩
  case length => rw [putEntry_of_present hwf hentry, List.length_map]
  case exec =>
    let w : State := elapseTo ed.expires s
    have hopening : openingEntry e.lane (modifyDetector e.lane ({ · with edge := none }) w) = some (slot, e) :=
      openingEntry_eq (s := s) htable hmem rfl hstate
    have hcovered' : (detectorOf e.lane (modifyDetector e.lane ({ · with edge := none }) w)).state = .covered := by
      rw [detectorOf_modifyDetector, if_pos rfl]
      exact hcovered
    have htag : confirmTag e.lane (modifyDetector e.lane ({ · with edge := none }) w) = tag :=
      confirmTag_congr e.lane rfl (by rw [detectorOf_modifyDetector, if_pos rfl]; rfl)
    let y : State := modifyCounters e.lane (fun c => { c with confirmed := c.confirmed + 1 }) (setEntry slot e' w)
    let r : Report := .detect e.lane tag e.epoch e.leading length false
    have he' : confirmedEntry e tag length none = e' := rfl
    have hmeasure : measure e.lane slot e ed.latched (modifyDetector e.lane ({ · with edge := none }) w) =
        modifyDetector e.lane ({ · with edge := none }) (modifyDetector e.lane ({ · with nextTag := tag + 1 }) (offer r y)) := by
      calc _ = confirm slot e length none (modifyDetector e.lane ({ · with edge := none }) w) := if_neg (Nat.not_lt.2 hmin)
        _ = modifyDetector e.lane ({ · with nextTag := tag + 1 }) (offer r (modifyDetector e.lane ({ · with edge := none }) y)) := by
            rw [confirm_eq, htag, setEntry_modifyDetector, modifyCounters_modifyDetector, he', Option.isSome_none]
        _ = _ := by rw [← modifyDetector_offer, modifyDetector_modifyDetector, modifyDetector_modifyDetector]
    have hlive : drainOpen (offer r (modifyDetector e.lane (fun d =>
        afterTrailing e.lane ed.latched s { d with nextTag := tag + 1 }) y)) = true := by
      rw [drainOpen_offer]
      refine drainOpen_of_live (x := (slot, e')) (findEntry_mem ?_) rfl
      exact (findEntry_putEntry slot slot e' s.table.entries).trans (if_pos rfl)
    rw [exec_debounceExpiry hedge htracking, takeEdge_trailing (s := w) ed (.inl hcovered),
      takeTrailing_covered ed hcovered' hopening, hmeasure,
      openGap_after (s := s) e.lane ed.latched (by simp [y, w]) (by simp [y, w]), modifyDetector_modifyDetector,
      modifyDetector_offer, settleDrain_of_drainOpen hlive]
    rfl

end Sys2Proof.Machine
end

section
set_option Elab.async false
/-! PROOFS. The placements of an opening and of a decision (R110, R111, R113, R115): one channel after another, in ascending number,
each with an action, or none, while the schedule has room. Then the leading edge that opens an entry (R25, R39). -/

namespace Sys2Proof.Machine

variable {s t : State}

/-! ### What a placement leaves unchanged -/

/-- From s to t actions have been placed for the entry in a slot: they have joined the schedule, and the entry has gained the flags
of R42 that a placement can give. -/
structure Placements (slot : Slot) (late missed full : Bool) (actions : List Action) (s t : State) : Prop where
  frame : t = { s with schedule := t.schedule, table := { s.table with entries := t.table.entries } }
  schedule : t.schedule.Perm (s.schedule ++ actions)
  others : ∀ k ≠ slot, entryAt k t = entryAt k s
  entry : entryAt slot t = (entryAt slot s).map fun e => { e with flags := { e.flags with
    lateStart := e.flags.lateStart || late, missed := e.flags.missed || missed,
    scheduleFull := e.flags.scheduleFull || full } }

theorem Placements.refl (slot : Slot) (s : State) : Placements slot false false false [] s s where
  frame := rfl
  schedule := by simp
  others _ _ := rfl
  entry := by simp

theorem Placements.trans {u : State} {slot : Slot} {late missed full late' missed' full' : Bool} {l l' : List Action}
    (h : Placements slot late missed full l s t) (h' : Placements slot late' missed' full' l' t u) :
    Placements slot (late || late') (missed || missed') (full || full') (l ++ l') s u where
  frame := by rw [h'.frame, h.frame]
  schedule := by
    rw [← List.append_assoc]
    exact h'.schedule.trans (h.schedule.append_right l')
  others k hk := (h'.others k hk).trans (h.others k hk)
  entry := by
    rw [h'.entry, h.entry, Option.map_map]
    simp [Function.comp_def, Bool.or_assoc]

/-- A flag of a placement joins the entry's flags (R42). -/
theorem addFlags_placements (slot : Slot) (late missed full : Bool) (s : State) :
    Placements slot late missed full [] s (addFlags slot (fun f => { f with
      lateStart := f.lateStart || late, missed := f.missed || missed, scheduleFull := f.scheduleFull || full }) s) where
  frame := by
    unfold addFlags modifyEntry
    split <;> rfl
  schedule := by simp
  others k hk := by rw [entryAt_addFlags, if_neg hk]
  entry := by rw [entryAt_addFlags, if_pos rfl]

theorem place_placements (slot : Slot) (a : Action) (s : State) : Placements slot false false false [a] s (place a s) where
  frame := rfl
  schedule := (insertAction_perm _ _ _).trans (List.perm_append_singleton a s.schedule).symm
  others _ _ := rfl
  entry := by simp [place, entryAt]

/-! ### One channel's placement (R111, R113, R115) -/

/-- What one channel's placement comes to: with no room SCHEDULE_FULL; with an action the action, and LATE_START where it was
moved; with none MISSED (R110, R111, R113). -/
def placeChoice (slot : Slot) (choice : Option (Action × Bool)) (s : State) : State :=
  if scheduleFull s then addFlags slot ({ · with scheduleFull := true }) s
  else
    match choice with
    | none => addFlags slot ({ · with missed := true }) s
    | some (a, false) => place a s
    | some (a, true) => addFlags slot ({ · with lateStart := true }) (place a s)

/-- The PER_ITEM action of a channel for an entry, and whether it starts late (R111). -/
def itemChoice (slot : Slot) (e : Entry) (n : Channel) (s : State) : Option (Action × Bool) :=
  let prof := (bankOf e.bank s).channels[n]
  if !reached s.motion.h (e.leading + prof.offset) then some (newAction n (some slot) (e.leading + prof.offset) prof s, false)
  else if reached (s.motion.h + 1) (exitPosition e s) then none
  else some (newAction n (some slot) (s.motion.h + 1) prof s, true)

theorem placeItemAction_eq (slot : Slot) (e : Entry) (n : Channel) (s : State) :
    placeItemAction slot e n s = placeChoice slot (itemChoice slot e n s) s := by
  cases hfull : scheduleFull s with
  | true => simp only [placeItemAction, placeChoice, hfull, if_true]
  | false =>
    cases hreached : reached s.motion.h (e.leading + (bankOf e.bank s).channels[n].offset) <;>
      cases hgone : reached (s.motion.h + 1) (exitPosition e s) <;>
      simp only [placeItemAction, placeChoice, itemChoice, hfull, hreached, hgone, Bool.not_false, Bool.not_true,
        Bool.false_eq_true, if_true, if_false]

/-- The VERDICT action of a channel for an entry, and whether it was moved (R113). -/
def verdictChoice (slot : Slot) (e : Entry) (n : Channel) (s : State) : Action × Bool :=
  let prof := (bankOf e.bank s).channels[n]
  let placed := verdictStart s.motion.h (decisionPosition e s)
    (e.leading + prof.offset - BitVec.ofNat 32 (leadCounts prof.lead s.motion.speed))
  (newAction n (some slot) placed.1 prof s, placed.2)

theorem placeVerdictAction_eq (slot : Slot) (e : Entry) (n : Channel) (s : State) :
    placeVerdictAction slot e n s = placeChoice slot (some (verdictChoice slot e n s)) s := by
  simp only [placeVerdictAction, placeChoice, verdictChoice]
  generalize verdictStart _ _ _ = placed
  obtain ⟨start, moved⟩ := placed
  cases moved <;> simp only [Bool.false_eq_true, if_true, if_false]

theorem placeChoice_placements (slot : Slot) (choice : Option (Action × Bool)) (s : State) :
    Placements slot (!scheduleFull s && choice.any (·.2)) (!scheduleFull s && choice.isNone) (scheduleFull s)
      (if scheduleFull s then [] else choice.toList.map (·.1)) s (placeChoice slot choice s) := by
  unfold placeChoice
  cases hfull : scheduleFull s with
  | true => simpa using addFlags_placements slot false false true s
  | false =>
    rcases choice with _ | ⟨a, late⟩
    · simpa using addFlags_placements slot false true false s
    · have hplace := place_placements slot a s
      cases late with
      | false => simpa using hplace
      | true => simpa using hplace.trans (addFlags_placements slot true false false (place a s))

/-! ### The channels in ascending number -/

/-- The schedule has no room for a channel: it was full, or the channels before it have filled it. -/
def fullAt (length : Nat) (choice : Channel → Option (Action × Bool)) (channels : List Channel) (n : Channel) : Bool :=
  decide (128 ≤ length + channels.countP fun k => (choice k).isSome && decide (k < n))

theorem fullAt_head {length : Nat} {choice : Channel → Option (Action × Bool)} {n : Channel} {channels : List Channel}
    (hsorted : (n :: channels).Pairwise (· < ·)) : fullAt length choice (n :: channels) n = decide (128 ≤ length) := by
  have hnone : (n :: channels).countP (fun k => (choice k).isSome && decide (k < n)) = 0 := by
    rw [List.countP_eq_zero]
    intro k hk
    rcases List.mem_cons.1 hk with rfl | hk
    · simp
    · simp [(List.pairwise_cons.1 hsorted).1 k hk |>.le]
  rw [fullAt, hnone, Nat.add_zero]

theorem fullAt_tail {length : Nat} {choice : Channel → Option (Action × Bool)} {n m : Channel} {channels : List Channel}
    (hsorted : (n :: channels).Pairwise (· < ·)) (hm : m ∈ channels) :
    fullAt length choice (n :: channels) m =
      fullAt (length + if 128 ≤ length then 0 else (choice n).toList.length) choice channels m := by
  have hlt : n < m := (List.pairwise_cons.1 hsorted).1 m hm
  rw [fullAt, fullAt, List.countP_cons]
  cases choice n with
  | none => simp
  | some _ =>
    simp only [Option.isSome_some, hlt, decide_true, Bool.and_self, if_true, Option.toList_some, List.length_singleton]
    split <;> simp <;> omega

theorem any_congr_of_mem {α : Type} {p q : α → Bool} {l : List α} (h : ∀ x ∈ l, p x = q x) : l.any p = l.any q := by
  rw [Bool.eq_iff_iff]
  simp only [List.any_eq_true]
  exact exists_congr fun x => and_congr_right fun hx => by rw [h x hx]

/-- Channels placed one after another, those that find no room giving the entry SCHEDULE_FULL (R110, R115). -/
theorem foldl_placeChoice (slot : Slot) (choice : Channel → Option (Action × Bool)) (channels : List Channel)
    (hsorted : channels.Pairwise (· < ·)) (s : State) :
    let full := fullAt s.schedule.length choice channels
    Placements slot (channels.any fun n => !full n && (choice n).any (·.2)) (channels.any fun n => !full n && (choice n).isNone)
      (channels.any full) ((channels.filter (!full ·)).filterMap fun n => (choice n).map (·.1)) s
      (channels.foldl (fun s n => placeChoice slot (choice n) s) s) := by
  induction channels generalizing s with
  | nil => exact Placements.refl slot s
  | cons n channels ih =>
    have hone := placeChoice_placements slot (choice n) s
    have hrest := ih (List.pairwise_cons.1 hsorted).2 (placeChoice slot (choice n) s)
    have hlength : (placeChoice slot (choice n) s).schedule.length =
        s.schedule.length + if 128 ≤ s.schedule.length then 0 else (choice n).toList.length := by
      rw [hone.schedule.length_eq]
      by_cases hfull : 128 ≤ s.schedule.length <;> simp [scheduleFull, hfull]
    have htail : ∀ m ∈ channels, fullAt s.schedule.length choice (n :: channels) m =
        fullAt (placeChoice slot (choice n) s).schedule.length choice channels m := fun m hm => by
      rw [hlength, fullAt_tail hsorted hm]
    have hhead : fullAt s.schedule.length choice (n :: channels) n = scheduleFull s := fullAt_head hsorted
    intro full
    have hany (p : Channel → Bool → Bool) : (channels.any fun m => p m (full m)) =
        channels.any fun m => p m (fullAt (placeChoice slot (choice n) s).schedule.length choice channels m) :=
      any_congr_of_mem fun m hm => by rw [← htail m hm]
    have hfilter : channels.filter (!full ·) =
        channels.filter (!fullAt (placeChoice slot (choice n) s).schedule.length choice channels ·) :=
      List.filter_congr fun m hm => by rw [← htail m hm]
    have h := hone.trans hrest
    rw [← hany (fun m b => !b && (choice m).any (·.2)), ← hany (fun m b => !b && (choice m).isNone), ← hany (fun _ b => b),
      ← hfilter, ← hhead] at h
    simp only [List.any_cons, List.filter_cons, List.foldl_cons]
    cases hn : full n <;> cases hc : choice n <;> simpa [full, hn, hc] using h

/-! ### The placements of an opening and of a decision -/

theorem allChannels_sorted : allChannels.Pairwise (· < ·) := by decide

theorem mem_allChannels (n : Channel) : n ∈ allChannels := List.mem_finRange n

/-- A placement reads the motion unit, the banks and the channels, which the placements before it leave as they were. -/
theorem foldl_placeChoice_congr (slot : Slot) {choice : Channel → State → Option (Action × Bool)}
    (hcongr : ∀ n s t, t.motion = s.motion → t.epochUnit = s.epochUnit → t.channels = s.channels → choice n t = choice n s)
    (channels : List Channel) (s : State) :
    channels.foldl (fun t n => placeChoice slot (choice n t) t) s =
      channels.foldl (fun t n => placeChoice slot (choice n s) t) s := by
  have key : ∀ u : State, u.motion = s.motion → u.epochUnit = s.epochUnit → u.channels = s.channels →
      channels.foldl (fun t n => placeChoice slot (choice n t) t) u =
        channels.foldl (fun t n => placeChoice slot (choice n s) t) u := by
    induction channels with
    | nil => exact fun _ _ _ _ => rfl
    | cons n channels ih =>
      intro u hmotion hunit hchannels
      have hframe := (placeChoice_placements slot (choice n s) u).frame
      rw [List.foldl_cons, List.foldl_cons, hcongr n s u hmotion hunit hchannels]
      refine ih (placeChoice slot (choice n s) u) ?_ ?_ ?_ <;> rw [hframe] <;> assumption
  exact key s rfl rfl rfl

theorem bankOf_congr (bank : Bank) (h : t.epochUnit = s.epochUnit) : bankOf bank t = bankOf bank s := by
  cases bank <;> simp [bankOf, h]

theorem newAction_congr (n : Channel) (item : Option Slot) (start : Word) (prof : ChannelProfile) (h : t.channels = s.channels) :
    newAction n item start prof t = newAction n item start prof s := by
  rw [newAction, newAction, h]

theorem itemChoice_congr (slot : Slot) (e : Entry) (n : Channel) (hmotion : t.motion = s.motion)
    (hunit : t.epochUnit = s.epochUnit) (hchannels : t.channels = s.channels) : itemChoice slot e n t = itemChoice slot e n s := by
  have hexit : exitPosition e t = exitPosition e s := by rw [exitPosition, exitPosition, laneProfileOf, bankOf_congr e.bank hunit]; rfl
  simp only [itemChoice, hexit, bankOf_congr e.bank hunit, newAction_congr n _ _ _ hchannels, hmotion]

theorem verdictChoice_congr (slot : Slot) (e : Entry) (n : Channel) (hmotion : t.motion = s.motion)
    (hunit : t.epochUnit = s.epochUnit) (hchannels : t.channels = s.channels) :
    verdictChoice slot e n t = verdictChoice slot e n s := by
  simp only [verdictChoice, decisionPosition, laneProfileOf, bankOf_congr e.bank hunit, newAction_congr n _ _ _ hchannels, hmotion]

/-- R111: the PER_ITEM placement at an opening. -/
theorem placeItemActions_placements (slot : Slot) (e : Entry) (s : State) :
    let channels := allChannels.filter (servesItem e.lane s)
    let choice (n : Channel) := itemChoice slot e n s
    let full := fullAt s.schedule.length choice channels
    Placements slot (channels.any fun n => !full n && (choice n).any (·.2)) (channels.any fun n => !full n && (choice n).isNone)
      (channels.any full) ((channels.filter (!full ·)).filterMap fun n => (choice n).map (·.1)) s (placeItemActions slot e s) := by
  intro channels choice full
  have heq : placeItemActions slot e s = channels.foldl (fun t n => placeChoice slot (choice n) t) s := by
    simp only [placeItemActions, placeItemAction_eq]
    exact foldl_placeChoice_congr slot (fun n s t => itemChoice_congr slot e n) channels s
  rw [heq]
  exact foldl_placeChoice slot choice channels (allChannels_sorted.sublist List.filter_sublist) s

/-- R113: the VERDICT placement at a decision. -/
theorem placeVerdictActions_placements (slot : Slot) (e : Entry) (c : Class) (s : State) :
    let channels := allChannels.filter (servesClass e c s)
    let choice (n : Channel) := some (verdictChoice slot e n s)
    let full := fullAt s.schedule.length choice channels
    Placements slot (channels.any fun n => !full n && (verdictChoice slot e n s).2) false (channels.any full)
      ((channels.filter (!full ·)).map fun n => (verdictChoice slot e n s).1) s (placeVerdictActions slot e c s) := by
  intro channels choice full
  have heq : placeVerdictActions slot e c s = channels.foldl (fun t n => placeChoice slot (choice n) t) s := by
    simp only [placeVerdictActions, placeVerdictAction_eq]
    exact foldl_placeChoice_congr slot (choice := fun n s => some (verdictChoice slot e n s))
      (fun n s t hm hu hc => congrArg some (verdictChoice_congr slot e n hm hu hc)) channels s
  rw [heq]
  have hnone : (channels.any fun _ => false) = false := by simp [List.any_eq_false]
  simpa [choice, full, hnone] using foldl_placeChoice slot choice channels (allChannels_sorted.sublist List.filter_sublist) s

/-! ### A leading edge that opens an entry (R25, R39) -/

/-- The line once an entry has opened, its actions still to place. -/
def openedLine (l : Lane) (slot : Slot) (ed : PendingEdge) (s : State) : State :=
  { s with
    motion := { s.motion with tick := max s.motion.tick ed.expires }
    detectors := { s.detectors with lane := s.detectors.lane.set l { detectorOf l s with state := .covered, edge := none } }
    table := { s.table with
      entries := putEntry slot (openedEntry l ed.latched s) s.table.entries
      laneList := s.table.laneList.set l (s.table.laneList[l] ++ [slot]) } }

theorem exec_debounceExpiry_opens {l : Lane} {ed : PendingEdge} {slot : Slot} (hrunning : s.engine.state = .running)
    (hedge : (detectorOf l s).edge = some ed) (hgap : ed.inGap = false)
    (hinactive : (detectorOf l s).state = .clear ∨ (detectorOf l s).state = .gap)
    (hslot : lowestFreeSlot s.table.entries = some slot) :
    exec (.debounceExpiry l) s = .next (placeItemActions slot (openedEntry l ed.latched s) (openedLine l slot ed s)) := by
  let w : State := elapseTo ed.expires s
  have hstate : (modifyDetector l ({ · with edge := none }) w).engine.state ≠ .draining := by simp [w, hrunning]
  have hslot' : lowestFreeSlot (modifyDetector l ({ · with edge := none }) w).table.entries = some slot := hslot
  rw [exec_debounceExpiry hedge (by simp [tracking, hrunning]), takeEdge_leading (s := w) ed hinactive, takeLeading, hgap,
    if_neg Bool.false_ne_true, if_neg hstate, hslot']
  dsimp only
  rw [goTo, modifyDetector_modifyDetector]
  have hframe := (placeItemActions_placements slot (openedEntry l ed.latched s) (openedLine l slot ed s)).frame
  refine congrArg Host.Outcome.next
    (settleDrain_of_state (s := placeItemActions slot (openedEntry l ed.latched s) (openedLine l slot ed s)) ?_)
  rw [hframe]
  simp [openedLine, hrunning]

/-- Settles O28. -/
theorem leadingEdgeOpensAnEntry : Obligations.LeadingEdgeOpensAnEntry := by
  intro l s ed hrunning hedge hgap hinactive hfree
  obtain ⟨slot, hslot⟩ : ∃ slot, lowestFreeSlot s.table.entries = some slot := by
    refine Option.ne_none_iff_exists'.1 fun hnone => ?_
    obtain ⟨k, hk⟩ := hfree
    exact (lowestFreeSlot_none_iff _).1 hnone k hk
  obtain ⟨hnone, hbelow⟩ := lowestFreeSlot_some hslot
  have h := placeItemActions_placements slot (openedEntry l ed.latched s) (openedLine l slot ed s)
  have hentry (k : Slot) : entryAt k (openedLine l slot ed s) =
      if k = slot then some (openedEntry l ed.latched s) else entryAt k s := findEntry_putEntry _ _ _ _
  have hopened := h.entry
  rw [hentry, if_pos rfl] at hopened
  refine ⟨_, slot, { lateStart := _, missed := _, scheduleFull := _ }, exec_debounceExpiry_opens hrunning hedge hgap hinactive hslot,
    hnone, hbelow, hopened, rfl, ?others, ?table, ?detectors, ?frame⟩
  case others =>
    intro k hk
    rw [h.others k hk, hentry, if_neg hk]
  case table =>
    rw [h.frame]
    rfl
  case detectors =>
    rw [h.frame]
    rfl
  case frame =>
    rw [h.frame]
    rfl

/-- Settles O29: the channels of the lane one after another, each with its place. -/
theorem openingPlacesThePerItemActions : Obligations.OpeningPlacesThePerItemActions := by
  intro l s ed hrunning hedge hgap hinactive slot hslot x prof serves late gone placed full action
  let e := openedEntry l ed.latched s
  let u := openedLine l slot ed s
  let choice (n : Channel) : Option (Action × Bool) := itemChoice slot e n u
  let channels := allChannels.filter (servesItem e.lane u)
  have hserves (n : Channel) : servesItem e.lane u n = serves n := rfl
  have hchoice (n : Channel) : choice n =
      if late n then (if gone then none else some (action n, true)) else some (action n, false) := by
    have hreached : reached u.motion.h (e.leading + (bankOf e.bank u).channels[n].offset) = late n := rfl
    have hgone : reached (u.motion.h + 1) (exitPosition e u) = gone := rfl
    simp only [choice, itemChoice, hreached, hgone, action]
    cases late n <;> cases gone <;> rfl
  have hplaced (n : Channel) : (serves n && (choice n).isSome) = placed n := by
    rw [hchoice]
    cases hl : late n <;> cases hg : gone <;> simp [placed, hl, hg]
  have hfull (n : Channel) : fullAt u.schedule.length choice channels n = full n := by
    simp only [fullAt, full, channels, List.countP_filter]
    refine decide_eq_decide.2 (Iff.of_eq (congrArg (128 ≤ s.schedule.length + ·) ?_))
    refine List.countP_congr fun k _ => Iff.of_eq (congrArg (· = true) ?_)
    rw [hserves, ← hplaced]
    cases serves k <;> cases (choice k).isSome <;> simp
  have hfull' : fullAt u.schedule.length choice channels = full := funext hfull
  have h : Placements slot (channels.any fun n => !full n && (choice n).any (·.2)) (channels.any fun n => !full n && (choice n).isNone)
      (channels.any full) ((channels.filter (!full ·)).filterMap fun n => (choice n).map (·.1)) u (placeItemActions slot e u) := by
    rw [← hfull']
    exact placeItemActions_placements slot e u
  have hentry := h.entry
  rw [show entryAt slot u = some e from (findEntry_putEntry _ _ _ _).trans (if_pos rfl)] at hentry
  have hany (p : Channel → Bool) : (false || channels.any p) = true ↔ ∃ n, serves n = true ∧ p n = true := by
    simp [channels, hserves, mem_allChannels]
  refine ⟨_, _, exec_debounceExpiry_opens hrunning hedge hgap hinactive hslot, hentry, ?schedule, (hany _).trans ?late,
    (hany _).trans ?missed, hany full⟩
  case schedule =>
    have hactions : ((channels.filter (!full ·)).filterMap fun n => (choice n).map (·.1)) =
        ((List.finRange 16).filter fun n => placed n && !full n).map action := by
      rw [List.filter_filter, List.filterMap_filter, ← List.filterMap_eq_map, List.filterMap_filter]
      refine List.filterMap_congr fun n _ => ?_
      rw [hchoice, hserves]
      cases hs : serves n <;> cases full n <;> cases hl : late n <;> cases hg : gone <;> simp [placed, hs, hl, hg]
    exact hactions ▸ h.schedule
  case late =>
    refine exists_congr fun n => ?_
    rw [hchoice]
    cases hs : serves n <;> cases full n <;> cases hl : late n <;> cases hg : gone <;> simp [placed, hs, hl, hg]
  case missed =>
    refine exists_congr fun n => ?_
    rw [hchoice]
    cases late n <;> cases gone <;> simp

end Sys2Proof.Machine
end

section
set_option Elab.async false
/-! PROOFS. A channel and its newcomers (Table 7-4): what the schedule, the channel and the entries are once the newcomers that a
channel is handed, one after another, have met it. -/

namespace Sys2Proof.Machine

variable {s t : State}

/-! ### Lists: the first member of one kind, and the members of another -/

section Lists

variable {α : Type} {p q : α → Bool} {f g : α → α} {l : List α}

/-- A change of the first member that leaves it as it is. -/
theorem modifyFirst_of_fixed (h : ∀ x, l.find? p = some x → f x = x) : modifyFirst p f l = l := by
  induction l with
  | nil => rfl
  | cons x l ih =>
    cases hx : p x with
    | true => simp [modifyFirst, hx, h x (by simp [hx])]
    | false => simpa [modifyFirst, hx] using ih fun y hy => h y (by simpa [hx] using hy)

theorem modifyFirst_modifyFirst (hf : ∀ x, p x = true → p (f x) = true) :
    modifyFirst p g (modifyFirst p f l) = modifyFirst p (g ∘ f) l := by
  induction l with
  | nil => rfl
  | cons x l ih =>
    cases hx : p x with
    | true => simp [modifyFirst, hx, hf x hx]
    | false => simpa [modifyFirst, hx] using ih

theorem modifyFirst_congr (h : ∀ x, p x = true → f x = g x) : modifyFirst p f l = modifyFirst p g l := by
  induction l with
  | nil => rfl
  | cons x l ih =>
    cases hx : p x with
    | true => simp [modifyFirst, hx, h x hx]
    | false => simpa [modifyFirst, hx] using ih

theorem find?_modifyFirst (hf : ∀ x, p x = true → p (f x) = true) : (modifyFirst p f l).find? p = (l.find? p).map f := by
  induction l with
  | nil => rfl
  | cons x l ih =>
    cases hx : p x with
    | true => simp [modifyFirst, hx, hf x hx]
    | false => simpa [modifyFirst, hx] using ih

/-- A change of the first member of one kind, seen by a test that no member of the kind passes before or after. -/
theorem filter_modifyFirst (hpq : ∀ x, p x = true → q x = false ∧ q (f x) = false) :
    (modifyFirst p f l).filter q = l.filter q := by
  induction l with
  | nil => rfl
  | cons x l ih =>
    cases hx : p x with
    | true => simp [modifyFirst, hx, hpq x hx]
    | false => simp [modifyFirst, hx, List.filter_cons, ih]

theorem filter_not_modifyFirst (hpq : ∀ x, p x = true → q x = false ∧ q (f x) = false) :
    (modifyFirst p f l).filter (!q ·) = modifyFirst p f (l.filter (!q ·)) := by
  induction l with
  | nil => rfl
  | cons x l ih =>
    cases hx : p x with
    | true => simp [modifyFirst, hx, hpq x hx]
    | false => cases hq : q x <;> simp [modifyFirst, hx, hq, ih]

theorem filter_eraseP (q : α → Bool) (l : List α) : (l.eraseP q).filter q = (l.filter q).tail := by
  induction l with
  | nil => rfl
  | cons x l ih => cases hx : q x <;> simp [hx, ih]

theorem filter_not_eraseP (q : α → Bool) (l : List α) : (l.eraseP q).filter (!q ·) = l.filter (!q ·) := by
  induction l with
  | nil => rfl
  | cons x l ih => cases hx : q x <;> simp [hx, ih]

theorem find?_eraseP (hpq : ∀ x, p x = true → q x = false) : (l.eraseP q).find? p = l.find? p := by
  induction l with
  | nil => rfl
  | cons x l ih =>
    cases hq : q x with
    | true =>
      have hx : p x = false := by
        cases hp : p x with
        | false => rfl
        | true => simp [hpq x hp] at hq
      simp [hq, hx]
    | false => simp [hq, List.find?_cons, ih]

theorem filter_eq_nil_of_find?_none (h : l.find? q = none) : l.filter q = [] := by
  simpa [List.filter_eq_nil_iff, List.find?_eq_none] using h

theorem filter_eq_cons_of_find? {a : α} (h : l.find? q = some a) : l.filter q = a :: (l.filter q).tail := by
  rw [← List.head?_filter] at h
  exact (List.cons_head?_tail h).symm

end Lists

/-! ### Records that have been offered (R159, R160) -/

theorem satSucc_half_le (v : Half) : v.toNat ≤ (satSucc v).toNat := by
  rw [satSucc_half]
  split
  · simp [*]
  · bv_omega

theorem satSucc_half_counts (v : Half) : v.toNat < (satSucc v).toNat ∨ satSucc v = 65535 := by
  rw [satSucc_half]
  split
  · exact .inr rfl
  · exact .inl (by bv_omega)

theorem offer_lost_le (r : Report) (s : State) : s.queue.lost.toNat ≤ (offer r s).queue.lost.toNat := by
  rcases offer_cases s r with ⟨_, e⟩ | ⟨_, e⟩ <;> rw [e]
  exact satSucc_half_le _

theorem Effect.lost_le {sound posting : Prop} (h : Effect sound posting s t) : s.queue.lost.toNat ≤ t.queue.lost.toNat := by
  cases h with
  | offer r => exact offer_lost_le r s
  | post => rcases postOutcome_cases s with ⟨_, e⟩ | ⟨_, e⟩ | ⟨_, _, _, _, ⟨_, e⟩ | ⟨_, _, e⟩⟩ <;> rw [e]
  | amend slot f => simp
  | _ => exact le_rfl

theorem Effects.lost_le {sound posting : Prop} (h : Effects sound posting s t) : s.queue.lost.toNat ≤ t.queue.lost.toNat :=
  h.keeps (P := fun s t => s.queue.lost.toNat ≤ t.queue.lost.toNat) (fun _ => le_rfl) (fun _ _ _ => le_trans)
    fun _ _ => Effect.lost_le

/-- A record that has been offered has been offered after every further effect too: records leave only at the head, by POP. -/
theorem Offered.after {sound posting : Prop} {u : State} {r : Report} (h : Offered r s t) (h' : Effects sound posting t u) :
    Offered r s u := by
  obtain ⟨more, hmore⟩ := h'.recordsJoin
  rcases h with hin | ⟨hdepth, hflag, hlost⟩
  · left
    rw [hmore]
    rw [List.drop_append]
    exact List.mem_append_left _ hin
  · refine .inr ⟨by rw [hmore, List.length_append]; omega, h'.stickySet .lost hflag, ?_⟩
    have hle := h'.lost_le
    rcases hlost with hlt | heq
    · exact .inl (by omega)
    · refine .inr (BitVec.eq_of_toNat_eq ?_)
      rw [heq] at hle
      have := u.queue.lost.isLt
      simp at hle ⊢
      omega

/-- A record that is offered later has been offered since the beginning. -/
theorem Offered.before {sound posting : Prop} {u : State} {r : Report} (h : Effects sound posting s t) (h' : Offered r t u) :
    Offered r s u := by
  obtain ⟨more, hmore⟩ := h.recordsJoin
  rcases h' with hin | ⟨hdepth, hflag, hlost⟩
  · left
    rw [hmore, List.length_append, ← List.drop_drop] at hin
    exact List.mem_of_mem_drop hin
  · have hle := h.lost_le
    exact .inr ⟨hdepth, hflag, hlost.imp (by omega) id⟩

/-- A DETECT, EXCEPTION or COMMIT record that a producer offers. -/
theorem offer_offered {r : Report} (hplaces : placesNeeded r = 9) (s : State) : Offered r s (offer r s) := by
  rcases offer_cases s r with ⟨_, e⟩ | ⟨hfull, e⟩ <;> rw [e]
  · exact .inl (by simp)
  · rw [hplaces] at hfull
    refine .inr ⟨?_, by simp [stickySet], satSucc_half_counts _⟩
    change 56 ≤ s.queue.records.length
    simp only [depth] at hfull
    omega

/-! ### Entries that gain flags and fired channels (R42, R43) -/

/-- From s to t entries have gained flags and fired channels, and nothing else of the table has changed. -/
structure Amends (s t : State) : Prop where
  table : t.table = { s.table with entries := t.table.entries }
  absent : ∀ k, entryAt k s = none → entryAt k t = none
  present : ∀ k e, entryAt k s = some e → ∃ f fired, entryAt k t = some { e with flags := f, fired := fired } ∧
    Gains e.flags f e.fired fired

theorem Amends.of_table (h : t.table = s.table) : Amends s t where
  table := by rw [h]
  absent k hk := by rwa [entryAt, h]
  present k e he := ⟨e.flags, e.fired, by rwa [entryAt, h], Gains.refl _ _⟩

theorem Gains.trans {f g k : EntryFlags} {x y z : BitVec 16} (h : Gains f g x y) (h' : Gains g k y z) : Gains f k x z := by
  obtain ⟨hf, hx⟩ := h
  obtain ⟨hg, hy⟩ := h'
  exact ⟨by rw [← hf, BitVec.and_assoc, hg], by rw [← hx, BitVec.and_assoc, hy]⟩

theorem Amends.trans {u : State} (h : Amends s t) (h' : Amends t u) : Amends s u where
  table := by rw [h'.table, h.table]
  absent k hk := h'.absent k (h.absent k hk)
  present k e he := by
    obtain ⟨f, x, hf, hgains⟩ := h.present k e he
    obtain ⟨g, y, hg, hgains'⟩ := h'.present k _ hf
    exact ⟨g, y, hg, hgains.trans hgains'⟩

theorem modifyEntry_amends (slot : Slot) (f : Entry → Entry)
    (hf : ∀ e, f e = { e with flags := (f e).flags, fired := (f e).fired } ∧ Gains e.flags (f e).flags e.fired (f e).fired)
    (s : State) : Amends s (modifyEntry slot f s) where
  table := modifyEntry_table s slot f
  absent k hk := by rw [entryAt_modifyEntry]; split <;> simp [hk]
  present k e he := by
    rw [entryAt_modifyEntry]
    split
    · exact ⟨(f e).flags, (f e).fired, by rw [he, Option.map_some, ← (hf e).1], (hf e).2⟩
    · exact ⟨e.flags, e.fired, he, Gains.refl _ _⟩

theorem addFlags_amends (slot : Slot) {f : EntryFlags → EntryFlags} (hf : SetsFlags f) (s : State) :
    Amends s (addFlags slot f s) :=
  modifyEntry_amends slot (fun e => { e with flags := f e.flags }) (fun e => ⟨rfl, hf e.flags, BitVec.and_self⟩) s

theorem addFired_amends (slot : Slot) (n : Channel) (s : State) : Amends s (addFired slot n s) :=
  modifyEntry_amends slot (fun e => { e with fired := e.fired ||| (1#16 <<< n.val) })
    (fun _ => ⟨rfl, BitVec.and_self, and_or_self_right _ _⟩) s

theorem onItem_amends (item : Option Slot) {f : Slot → State → State} (hf : ∀ slot s, Amends s (f slot s)) (s : State) :
    Amends s (onItem item f s) := by
  cases item with
  | none => exact .of_table rfl
  | some slot => exact hf slot s

theorem EntryFlags.bits_getLsbD (f : EntryFlags) : f.bits.getLsbD 3 = f.collision ∧ f.bits.getLsbD 4 = f.deferred ∧
    f.bits.getLsbD 5 = f.joined ∧ f.bits.getLsbD 7 = f.missed := by
  have hbit (b : Bool) (v : Half) (i : Nat) : (if b then v else 0).getLsbD i = (b && v.getLsbD i) := by cases b <;> simp
  simp only [EntryFlags.bits, BitVec.getLsbD_or, hbit]
  simp

end Sys2Proof.Machine
end

section
set_option Elab.async false
/-! PROOFS. The newcomers that a channel is handed, one after another in schedule order (R117, Table 7-4): the pulse that they join
or the recovery that they wait for, and what their entries gain. Then the channels' own events (R136, R137). -/

namespace Sys2Proof.Machine

variable {s t u : State} {n : Channel} {q : Action → Bool}

/-! ### What the entry of a newcomer gains -/

/-- An entry holds a fired channel or a flag that it has gained through all that amends it. -/
theorem Amends.keeps (h : Amends s t) {slot : Slot} {e : Entry} (he : entryAt slot s = some e) :
    ∃ e', entryAt slot t = some e' ∧ e' = { e with flags := e'.flags, fired := e'.fired } ∧
      (∀ i, e.fired.getLsbD i = true → e'.fired.getLsbD i = true) ∧
      (e.flags.collision = true → e'.flags.collision = true) ∧ (e.flags.deferred = true → e'.flags.deferred = true) ∧
      (e.flags.joined = true → e'.flags.joined = true) ∧ (e.flags.missed = true → e'.flags.missed = true) := by
  obtain ⟨f, fired, hentry, hbits, hfired⟩ := h.present slot e he
  have hsub (i : Nat) (hi : e.flags.bits.getLsbD i = true) : f.bits.getLsbD i = true := by
    rw [← hbits, BitVec.getLsbD_and, Bool.and_eq_true] at hi
    exact hi.2
  obtain ⟨hcollision, hdeferred, hjoined, hmissed⟩ := e.flags.bits_getLsbD
  obtain ⟨hcollision', hdeferred', hjoined', hmissed'⟩ := f.bits_getLsbD
  refine ⟨_, hentry, rfl, fun i hi => ?_, ?_, ?_, ?_, ?_⟩
  · rw [← hfired, BitVec.getLsbD_and, Bool.and_eq_true] at hi
    exact hi.2
  · rw [← hcollision, ← hcollision']; exact hsub 3
  · rw [← hdeferred, ← hdeferred']; exact hsub 4
  · rw [← hjoined, ← hjoined']; exact hsub 5
  · rw [← hmissed, ← hmissed']; exact hsub 7

/-- The entry of an action has the channel among its fired set (R43). -/
def FiredIn (n : Channel) (a : Action) (t : State) : Prop :=
  ∀ slot ∈ a.item, ∃ e', entryAt slot t = some e' ∧ e'.fired.getLsbD n.val = true

/-- The entry of an action that was joined has the channel in its fired set and JOINED (R132). -/
def JoinedIn (n : Channel) (a : Action) (t : State) : Prop :=
  ∀ slot ∈ a.item, ∃ e', entryAt slot t = some e' ∧ e'.fired.getLsbD n.val = true ∧ e'.flags.joined = true

/-- The entry of a deferred action has DEFERRED (R134). -/
def DeferredIn (a : Action) (t : State) : Prop :=
  ∀ slot ∈ a.item, ∃ e', entryAt slot t = some e' ∧ e'.flags.deferred = true

/-- A refused action gives its entry COLLISION, or without an entry raises PITCH_COLLISION (R133). -/
def RefusedIn (h : Word) (a : Action) (s t : State) : Prop :=
  (∀ slot ∈ a.item, ∃ e', entryAt slot t = some e' ∧ e'.flags.collision = true) ∧
  (a.item = none → stickySet .exception t = true ∧ Offered (.exception .pitchCollision none none h) s t)

theorem FiredIn.amends {a : Action} (h : FiredIn n a t) (h' : Amends t u) : FiredIn n a u := fun slot hslot => by
  obtain ⟨e, he, hfired⟩ := h slot hslot
  obtain ⟨e', he', _, hf, _⟩ := h'.keeps he
  exact ⟨e', he', hf _ hfired⟩

theorem JoinedIn.amends {a : Action} (h : JoinedIn n a t) (h' : Amends t u) : JoinedIn n a u := fun slot hslot => by
  obtain ⟨e, he, hfired, hjoined⟩ := h slot hslot
  obtain ⟨e', he', _, hf, _, _, hj, _⟩ := h'.keeps he
  exact ⟨e', he', hf _ hfired, hj hjoined⟩

theorem DeferredIn.amends {a : Action} (h : DeferredIn a t) (h' : Amends t u) : DeferredIn a u := fun slot hslot => by
  obtain ⟨e, he, hdeferred⟩ := h slot hslot
  obtain ⟨e', he', _, _, _, hd, _⟩ := h'.keeps he
  exact ⟨e', he', hd hdeferred⟩

theorem RefusedIn.amends {sound posting : Prop} {h : Word} {a : Action} (hr : RefusedIn h a s t) (h' : Amends t u)
    (heffects : Effects sound posting t u) : RefusedIn h a s u := by
  refine ⟨fun slot hslot => ?_, fun hnone => ?_⟩
  · obtain ⟨e, he, hcollision⟩ := hr.1 slot hslot
    obtain ⟨e', he', _, _, hc, _⟩ := h'.keeps he
    exact ⟨e', he', hc hcollision⟩
  · obtain ⟨hflag, hoffered⟩ := hr.2 hnone
    exact ⟨heffects.stickySet .exception hflag, hoffered.after heffects⟩

theorem RefusedIn.before {sound posting : Prop} {h : Word} {a : Action} (heffects : Effects sound posting s t)
    (hr : RefusedIn h a t u) : RefusedIn h a s u :=
  ⟨hr.1, fun hnone => ⟨(hr.2 hnone).1, (hr.2 hnone).2.before heffects⟩⟩

/-! ### One newcomer (R131 to R134) -/

theorem raise_amends (code : ExceptionCode) (l : Option Lane) (tag : Option Half) (s : State) : Amends s (raise code l tag s) :=
  .of_table (by simp)

theorem fire_amends (q : Action → Bool) (a : Action) (s : State) : Amends s (fire q a s) :=
  (Amends.of_table (s := s) (t := setChannelState a.channel .active
    { s with schedule := modifyFirst q (fun x => { x with state := .active (pulseEndNow a s) }) s.schedule }) rfl).trans
    (onItem_amends a.item (fun slot s => addFired_amends slot a.channel s) _)

theorem joinPulse_amends (q : Action → Bool) (a : Action) (s : State) : Amends s (joinPulse q a s) := by
  have hschedule (l : List Action) : Amends s { s with schedule := l } := .of_table rfl
  exact (hschedule _).trans (onItem_amends a.item
    (fun slot s => (addFlags_amends slot setsFlags_joined s).trans (addFired_amends slot a.channel _)) _)

theorem deferNewcomer_amends (q : Action → Bool) (a : Action) (s : State) : Amends s (deferNewcomer q a s) :=
  (Amends.of_table (s := s) (t := { s with schedule := modifyFirst q (fun x => { x with state := .pending true }) s.schedule }) rfl).trans
    (onItem_amends a.item (fun slot s => addFlags_amends slot setsFlags_deferred s) _)

theorem refuseNewcomer_amends (q : Action → Bool) (a : Action) (s : State) : Amends s (refuseNewcomer q a s) := by
  have herase : Amends s { s with schedule := s.schedule.eraseP q } := .of_table rfl
  unfold refuseNewcomer
  split
  · exact herase.trans (raise_amends _ _ _ _)
  · exact herase.trans (addFlags_amends _ setsFlags_collision _)

theorem settleFirst_amends (q : Action → Bool) (s : State) : Amends s (settleFirst q s) := by
  rcases settleFirst_cases s q with ⟨_, e⟩ | ⟨a, _, ⟨_, e⟩ | ⟨_, _, e⟩ | ⟨_, _, e⟩ | ⟨_, _, e⟩⟩ <;> rw [e]
  · exact .of_table rfl
  · exact fire_amends q a s
  · exact joinPulse_amends q a s
  · exact refuseNewcomer_amends q a s
  · exact deferNewcomer_amends q a s

theorem settleAll_amends (q : Action → Bool) (fuel : Nat) (s : State) : Amends s (settleAll q fuel s) := by
  induction fuel generalizing s with
  | zero => exact .of_table rfl
  | succ fuel ih => exact (settleFirst_amends q s).trans (ih _)

/-- The entries that the actions are linked to are there (R116). -/
def Linked (l : List Action) (s : State) : Prop := ∀ a ∈ l, ∀ slot ∈ a.item, ∃ e, entryAt slot s = some e

theorem Linked.amends {l : List Action} (h : Linked l s) (h' : Amends s t) : Linked l t := fun a ha slot hslot => by
  obtain ⟨e, he⟩ := h a ha slot hslot
  obtain ⟨e', he', _⟩ := h'.keeps he
  exact ⟨e', he'⟩

theorem fire_fired {a : Action} (hlinked : Linked [a] s) : FiredIn a.channel a (fire q a s) := by
  intro slot hslot
  obtain ⟨e, he⟩ := hlinked a List.mem_cons_self slot hslot
  rw [fire, hslot, onItem, entryAt_addFired, if_pos rfl]
  have he' : entryAt slot (setChannelState a.channel .active
    { s with schedule := modifyFirst q (fun x => { x with state := .active (pulseEndNow a s) }) s.schedule }) = some e := he
  rw [he']
  exact ⟨_, rfl, by simp⟩

theorem joinPulse_joined {a : Action} (hlinked : Linked [a] s) : JoinedIn a.channel a (joinPulse q a s) := by
  intro slot hslot
  obtain ⟨e, he⟩ := hlinked a List.mem_cons_self slot hslot
  rw [joinPulse, hslot, onItem, entryAt_addFired, if_pos rfl, entryAt_addFlags, if_pos rfl]
  have he' (l : List Action) : entryAt slot { s with schedule := l } = some e := he
  rw [he']
  exact ⟨_, rfl, by simp, rfl⟩

theorem deferNewcomer_deferred {a : Action} (hlinked : Linked [a] s) : DeferredIn a (deferNewcomer q a s) := by
  intro slot hslot
  obtain ⟨e, he⟩ := hlinked a List.mem_cons_self slot hslot
  rw [deferNewcomer, hslot, onItem, entryAt_addFlags, if_pos rfl]
  have he' : entryAt slot { s with schedule := modifyFirst q (fun x => { x with state := .pending true }) s.schedule } = some e := he
  rw [he']
  exact ⟨_, rfl, rfl⟩

theorem raise_offered (code : ExceptionCode) (l : Option Lane) (tag : Option Half) (s : State) :
    stickySet .exception (raise code l tag s) = true ∧ Offered (.exception code l tag s.motion.h) s (raise code l tag s) := by
  have hflag : stickySet .exception (setFlag .exception s) = true := by simp [stickySet]
  exact ⟨stickySet_offer _ _ hflag, offer_offered rfl (setFlag .exception s)⟩

theorem refuseNewcomer_refused {a : Action} (hlinked : Linked [a] s) : RefusedIn s.motion.h a s (refuseNewcomer q a s) := by
  refine ⟨fun slot hslot => ?_, fun hnone => ?_⟩
  · obtain ⟨e, he⟩ := hlinked a List.mem_cons_self slot hslot
    rw [refuseNewcomer, hslot]
    dsimp only
    rw [entryAt_addFlags, if_pos rfl, show entryAt slot { s with schedule := s.schedule.eraseP q } = some e from he]
    exact ⟨_, rfl, rfl⟩
  · rw [refuseNewcomer, hnone]
    exact raise_offered .pitchCollision none none { s with schedule := s.schedule.eraseP q }

/-! ### Newcomers on an ACTIVE channel (R132, R133) -/

/-- The newcomers are PENDING actions of one channel. -/
def Newcomers (n : Channel) (q : Action → Bool) : Prop := ∀ a, q a = true → a.channel = n ∧ a.isActive = false

theorem newcomers_dueOn (n : Channel) (h : Word) : Newcomers n (dueOn n h) := fun a ha => by
  simp only [dueOn, Bool.and_eq_true, decide_eq_true_eq] at ha
  obtain ⟨⟨hchannel, hstate⟩, _⟩ := ha
  exact ⟨hchannel, by simp [Action.isActive, hstate]⟩

theorem newcomers_deferredOn (n : Channel) : Newcomers n (deferredOn n) := fun a ha => by
  simp only [deferredOn, Action.isDeferred, Bool.and_eq_true, decide_eq_true_eq] at ha
  obtain ⟨hchannel, hstate⟩ := ha
  exact ⟨hchannel, by simp [Action.isActive, hstate]⟩

theorem Newcomers.not_activeOn (hq : Newcomers n q) {a : Action} (ha : q a = true) : activeOn n a = false := by
  simp [activeOn, (hq a ha).2]

theorem Newcomers.not_of_activeOn (hq : Newcomers n q) {a : Action} (ha : activeOn n a = true) : q a = false := by
  cases h : q a with
  | false => rfl
  | true => simp [hq.not_activeOn h] at ha

/-- The end of a pulse that begins now (R131). -/
def pulseFinish (m : Motion) (a : Action) : PulseEnd :=
  match a.unit with
  | .counts => .position (m.h + a.width.setWidth 32)
  | .microseconds => .time (m.tick + a.width.toNat)

theorem pulseEndNow_eq (a : Action) (s : State) : pulseEndNow a s = pulseFinish s.motion a := rfl

/-- The end of a pulse once the JOIN newcomers of a list have joined it (R132). -/
def joinedEnd (m : Motion) (l : List Action) (f : PulseEnd) : PulseEnd :=
  (l.filter fun a => a.policy = .join).foldl (fun f a => laterEnd m.h f (pulseFinish m a)) f

/-- An ACTIVE action takes an end. -/
def withEnd (f : PulseEnd) (a : Action) : Action := { a with state := .active f }

theorem extendEnd_activeOn {h : Word} {f : PulseEnd} {a : Action} (ha : activeOn n a = true) :
    activeOn n (extendEnd h f a) = true ∧ ∀ g, withEnd g (extendEnd h f a) = withEnd g a := by
  unfold extendEnd
  split
  · rename_i state hstate
    exact ⟨by simpa [activeOn, Action.isActive, hstate] using ha, fun _ => rfl⟩
  · exact ⟨ha, fun _ => rfl⟩

/-- A JOIN newcomer on the channel's ACTIVE action: it leaves the schedule, and the pulse takes the later end (R132). -/
theorem joinPulse_schedule (q : Action → Bool) (a : Action) (s : State) : (joinPulse q a s).schedule =
    modifyFirst (activeOn a.channel) (extendEnd s.motion.h (pulseFinish s.motion a)) (s.schedule.eraseP q) := by
  unfold joinPulse onItem
  split <;> simp [pulseEndNow_eq]

theorem refuseNewcomer_schedule (q : Action → Bool) (a : Action) (s : State) :
    (refuseNewcomer q a s).schedule = s.schedule.eraseP q := by
  unfold refuseNewcomer
  split <;> simp

/-- With no newcomer the pulse keeps its end. -/
theorem modifyFirst_withEnd_of_none {b : Action} {f : PulseEnd} (hb : activeAction n s = some b) (hf : b.state = .active f)
    (hnone : s.schedule.filter q = []) :
    modifyFirst (activeOn n) (withEnd (joinedEnd s.motion (s.schedule.filter q) f)) (s.schedule.filter (!q ·)) = s.schedule := by
  have hall : s.schedule.filter (!q ·) = s.schedule := List.filter_eq_self.2 fun a ha => by
    simpa using List.filter_eq_nil_iff.1 hnone a ha
  rw [hall, hnone]
  refine modifyFirst_of_fixed fun x hx => ?_
  obtain rfl : x = b := Option.some.inj (hx.symm.trans hb)
  simp [withEnd, joinedEnd, ← hf]

/-- Newcomers that find a pulse on their channel leave the schedule one after another: the JOIN actions extend the pulse, the REFUSE
actions are refused, and nothing else of the schedule changes (R132, R133). -/
theorem settleAll_active (hq : Newcomers n q) (fuel : Nat) (s : State) (b : Action) (f : PulseEnd)
    (hchannel : s.channels[n].state = .active) (hb : activeAction n s = some b) (hf : b.state = .active f)
    (hfuel : (s.schedule.filter q).length ≤ fuel) (hlinked : Linked (s.schedule.filter q) s) :
    (settleAll q fuel s).schedule = modifyFirst (activeOn n) (withEnd (joinedEnd s.motion (s.schedule.filter q) f))
      (s.schedule.filter (!q ·)) ∧
    (settleAll q fuel s).channels = s.channels ∧
    ∀ a ∈ s.schedule.filter q, (a.policy = .join → JoinedIn n a (settleAll q fuel s)) ∧
      (a.policy = .refuse → RefusedIn s.motion.h a s (settleAll q fuel s)) := by
  have hexclusive : ∀ x, activeOn n x = true → q x = false := fun x => hq.not_of_activeOn
  induction fuel generalizing s b f with
  | zero =>
    have hnone : s.schedule.filter q = [] := List.length_eq_zero_iff.1 (Nat.le_zero.1 hfuel)
    exact ⟨(modifyFirst_withEnd_of_none hb hf hnone).symm, rfl, by simp [hnone]⟩
  | succ fuel ih =>
    rcases settleFirst_cases s q with ⟨hfind, _⟩ | ⟨a, hfind, hcases⟩
    · have hnone := filter_eq_nil_of_find?_none hfind
      rw [settleAll_of_none hfind]
      exact ⟨(modifyFirst_withEnd_of_none hb hf hnone).symm, rfl, by simp [hnone]⟩
    obtain ⟨rest, hdue⟩ : ∃ rest, s.schedule.filter q = a :: rest := ⟨_, filter_eq_cons_of_find? hfind⟩
    have hqa : q a = true := List.find?_some hfind
    have hchannel' : a.channel = n := (hq a hqa).1
    subst hchannel'
    have hlinked' : Linked [a] s := fun x hx => hlinked x (hdue ▸ List.mem_cons.2 (.inl (List.mem_singleton.1 hx)))
    have hrest : ∀ s₁, s₁.schedule.filter q = rest →
        Amends s s₁ → (s₁.schedule.filter q).length ≤ fuel ∧ Linked (s₁.schedule.filter q) s₁ := fun s₁ h₁ hamends => by
      rw [hdue, List.length_cons] at hfuel
      rw [h₁]
      exact ⟨by omega, fun x hx => hlinked.amends hamends x (hdue ▸ List.mem_cons_of_mem a hx)⟩
    rcases hcases with ⟨hidle, _⟩ | ⟨_, hpolicy, e⟩ | ⟨_, hpolicy, e⟩ | ⟨⟨_, hrecovery⟩, _⟩
    · exact absurd (hchannel.symm.trans hidle) (by simp)
    · -- the newcomer joins the pulse
      have hkeeps : ∀ x, activeOn a.channel x = true →
          activeOn a.channel (extendEnd s.motion.h (pulseFinish s.motion a) x) = true := fun x hx => (extendEnd_activeOn hx).1
      have hext : ∀ x, activeOn a.channel x = true →
          q x = false ∧ q (extendEnd s.motion.h (pulseFinish s.motion a) x) = false := fun x hx =>
        ⟨hexclusive x hx, hexclusive _ (hkeeps x hx)⟩
      have hfilter : (joinPulse q a s).schedule.filter q = rest := by
        rw [joinPulse_schedule, filter_modifyFirst hext, filter_eraseP, hdue, List.tail_cons]
      have hactive : activeAction a.channel (joinPulse q a s) = some (extendEnd s.motion.h (pulseFinish s.motion a) b) := by
        rw [activeAction, joinPulse_schedule, find?_modifyFirst hkeeps, find?_eraseP hexclusive]
        simp [show s.schedule.find? (activeOn a.channel) = some b from hb]
      have hend : (extendEnd s.motion.h (pulseFinish s.motion a) b).state =
          .active (laterEnd s.motion.h f (pulseFinish s.motion a)) := by simp [extendEnd, hf]
      have hamends := joinPulse_amends q a s
      obtain ⟨hfuel', hlinked₁⟩ := hrest _ hfilter hamends
      obtain ⟨hschedule, hchannels, hitems⟩ := ih (joinPulse q a s) _ _ (by simpa using hchannel) hactive hend hfuel' hlinked₁
      have hstep : settleAll q (fuel + 1) s = settleAll q fuel (joinPulse q a s) := congrArg (settleAll q fuel) e
      rw [hstep]
      refine ⟨?_, hchannels.trans (by simp), fun x hx => ?_⟩
      · rw [hschedule, hfilter, joinPulse_schedule, filter_not_modifyFirst hext, filter_not_eraseP,
          modifyFirst_modifyFirst hkeeps, hdue]
        have hjoined : joinedEnd s.motion (a :: rest) f =
            joinedEnd s.motion rest (laterEnd s.motion.h f (pulseFinish s.motion a)) := by
          simp [joinedEnd, hpolicy]
        rw [hjoined, joinPulse_motion]
        exact modifyFirst_congr fun x hx => (extendEnd_activeOn hx).2 _
      · rw [hdue] at hx
        rcases List.mem_cons.1 hx with rfl | hx
        · exact ⟨fun _ => (joinPulse_joined hlinked').amends (settleAll_amends _ _ _), by simp [hpolicy]⟩
        · obtain ⟨hjoin, hrefuse⟩ := hitems x (hfilter ▸ hx)
          refine ⟨hjoin, fun hx => ?_⟩
          have heffects : Effects False False s (joinPulse q a s) := e ▸ settleFirst_effects q s
          simpa using (hrefuse hx).before heffects
    · -- the newcomer is refused
      have hfilter : (refuseNewcomer q a s).schedule.filter q = rest := by
        rw [refuseNewcomer_schedule, filter_eraseP, hdue, List.tail_cons]
      have hactive : activeAction a.channel (refuseNewcomer q a s) = some b := by
        rw [activeAction, refuseNewcomer_schedule, find?_eraseP hexclusive]
        exact hb
      have hamends := refuseNewcomer_amends q a s
      obtain ⟨hfuel', hlinked₁⟩ := hrest _ hfilter hamends
      obtain ⟨hschedule, hchannels, hitems⟩ := ih (refuseNewcomer q a s) _ _ (by simpa using hchannel) hactive hf hfuel' hlinked₁
      have hstep : settleAll q (fuel + 1) s = settleAll q fuel (refuseNewcomer q a s) := congrArg (settleAll q fuel) e
      have heffects : Effects False False s (refuseNewcomer q a s) := e ▸ settleFirst_effects q s
      rw [hstep]
      refine ⟨?_, hchannels.trans (by simp), fun x hx => ?_⟩
      · rw [hschedule, hfilter, refuseNewcomer_schedule, filter_not_eraseP, hdue]
        have hjoined : joinedEnd s.motion (a :: rest) f = joinedEnd s.motion rest f := by
          simp [joinedEnd, hpolicy]
        rw [hjoined, refuseNewcomer_motion]
      · rw [hdue] at hx
        rcases List.mem_cons.1 hx with rfl | hx
        · exact ⟨by simp [hpolicy], fun _ => (refuseNewcomer_refused hlinked').amends (settleAll_amends _ _ _)
            (settleAll_effects (sound := False) (posting := False) _ _ _)⟩
        · obtain ⟨hjoin, hrefuse⟩ := hitems x (hfilter ▸ hx)
          exact ⟨hjoin, fun hx => by simpa using (hrefuse hx).before heffects⟩
    · exact absurd (hchannel.symm.trans hrecovery) (by simp)

end Sys2Proof.Machine
end

section
set_option Elab.async false
/-! PROOFS. The channels' own events (R136, R137): the end of a MICROSECONDS pulse, and the end of a recovery with the deferred actions
that the channel takes back. -/

namespace Sys2Proof.Machine

variable {s t u : State} {n : Channel} {q : Action → Bool}

/-! ### Newcomers on an IDLE channel (R131) -/

section Lists

variable {α : Type} {p q : α → Bool} {f : α → α} {l : List α}

theorem filter_modifyFirst_self (hf : ∀ x, q x = true → q (f x) = false) :
    (modifyFirst q f l).filter q = (l.filter q).tail := by
  induction l with
  | nil => rfl
  | cons x l ih =>
    cases hx : q x with
    | true => simp [modifyFirst, hx, hf x hx]
    | false => simp [modifyFirst, hx, ih]

theorem find?_modifyFirst_of_none {a : α} (hnone : l.find? p = none) (ha : l.find? q = some a) (hpa : p (f a) = true) :
    (modifyFirst q f l).find? p = some (f a) := by
  induction l with
  | nil => simp at ha
  | cons x l ih =>
    have hx : p x = false := by simpa using List.find?_eq_none.1 hnone x List.mem_cons_self
    cases hq : q x with
    | true =>
      obtain rfl : x = a := by simpa [hq] using ha
      simp [modifyFirst, hq, hpa]
    | false =>
      simp only [modifyFirst, hq, Bool.false_eq_true, if_false, List.find?_cons, hx]
      exact ih (by simpa [hx] using hnone) (by simpa [hq] using ha)

theorem find?_filter_not (hpq : ∀ x, p x = true → q x = false) : (l.filter (!q ·)).find? p = l.find? p := by
  induction l with
  | nil => rfl
  | cons x l ih =>
    cases hp : p x with
    | true => simp [hpq x hp, hp]
    | false => cases hq : q x <;> simp [hq, hp, ih]

end Lists

theorem fire_schedule (q : Action → Bool) (a : Action) (s : State) :
    (fire q a s).schedule = modifyFirst q (withEnd (pulseFinish s.motion a)) s.schedule := by
  unfold fire
  cases a.item with
  | none => rfl
  | some slot => exact addFired_schedule _ slot a.channel

theorem fire_channels (q : Action → Bool) (a : Action) (s : State) :
    (fire q a s).channels = s.channels.set a.channel { s.channels[a.channel] with state := .active } := by
  unfold fire
  cases a.item with
  | none => rfl
  | some slot => exact addFired_channels _ slot a.channel

/-- The first newcomer on an IDLE channel fires, and the rest meet its pulse (R131, R132, R133). -/
theorem settleAll_idle (hq : Newcomers n q) (hqend : ∀ f x, q (withEnd f x) = false) {fuel : Nat} {a : Action}
    {rest : List Action} (hidle : s.channels[n].state = .idle) (hnone : activeAction n s = none)
    (hdue : s.schedule.filter q = a :: rest) (hfuel : rest.length < fuel) (hlinked : Linked (a :: rest) s) :
    activeAction n (settleAll q fuel s) = some (withEnd (joinedEnd s.motion rest (pulseFinish s.motion a)) a) ∧
    (settleAll q fuel s).schedule = modifyFirst (activeOn n) (withEnd (joinedEnd s.motion rest (pulseFinish s.motion a)))
      ((modifyFirst q (withEnd (pulseFinish s.motion a)) s.schedule).filter (!q ·)) ∧
    (settleAll q fuel s).channels = s.channels.set n { s.channels[n] with state := .active } ∧
    FiredIn n a (settleAll q fuel s) ∧
    ∀ x ∈ rest, (x.policy = .join → JoinedIn n x (settleAll q fuel s)) ∧
      (x.policy = .refuse → RefusedIn s.motion.h x s (settleAll q fuel s)) := by
  obtain ⟨k, rfl⟩ : ∃ k, fuel = k + 1 := ⟨fuel - 1, by omega⟩
  have hfind : s.schedule.find? q = some a := by rw [← List.head?_filter, hdue, List.head?_cons]
  obtain rfl : a.channel = n := (hq a (List.find?_some hfind)).1
  have hfirst : settleFirst q s = fire q a s := by simp [settleFirst, hfind, show s.channels[a.channel.val].state = .idle from hidle]
  have hstep : settleAll q (k + 1) s = settleAll q k (fire q a s) := congrArg (settleAll q k) hfirst
  have hfilter : (fire q a s).schedule.filter q = rest := by
    rw [fire_schedule, filter_modifyFirst_self fun x _ => hqend _ x, hdue, List.tail_cons]
  have hactive : activeAction a.channel (fire q a s) = some (withEnd (pulseFinish s.motion a) a) := by
    rw [activeAction, fire_schedule]
    exact find?_modifyFirst_of_none hnone hfind (by simp [activeOn, withEnd, Action.isActive])
  have hlinked₁ : Linked ((fire q a s).schedule.filter q) (fire q a s) := fun x hx =>
    hlinked.amends (fire_amends q a s) x (List.mem_cons_of_mem a (hfilter ▸ hx))
  have hchannel : (fire q a s).channels[a.channel].state = .active := by simp [fire_channels]
  obtain ⟨hschedule, hchannels, hitems⟩ := settleAll_active hq k (fire q a s) _ _ hchannel hactive rfl
    (by rw [hfilter]; omega) hlinked₁
  rw [hfilter, fire_motion] at hschedule
  have heffects : Effects False False s (fire q a s) := hfirst ▸ settleFirst_effects q s
  rw [hstep]
  refine ⟨?_, by rw [hschedule, fire_schedule], hchannels.trans (fire_channels q a s),
    (fire_fired fun x hx => hlinked x (List.mem_cons.2 (.inl (List.mem_singleton.1 hx)))).amends (settleAll_amends _ _ _), fun x hx => ?_⟩
  · have hkeeps (f : PulseEnd) : ∀ x, activeOn a.channel x = true → activeOn a.channel (withEnd f x) = true := fun x hx => by
      simp only [activeOn, Bool.and_eq_true, decide_eq_true_eq] at hx
      simp [activeOn, withEnd, Action.isActive, hx.1]
    rw [activeAction, hschedule, find?_modifyFirst (hkeeps _), find?_filter_not fun x => hq.not_of_activeOn]
    exact congrArg (Option.map _) hactive
  · obtain ⟨hjoin, hrefuse⟩ := hitems x (hfilter.symm ▸ hx)
    exact ⟨hjoin, fun hx => by simpa using (hrefuse hx).before heffects⟩

/-- The end of a pulse of a width in a unit. -/
def finishAfter (m : Motion) (unit : WidthUnit) (width : Nat) : PulseEnd :=
  match unit with
  | .counts => .position (m.h + BitVec.ofNat 32 width)
  | .microseconds => .time (m.tick + width)

theorem pulseFinish_eq (m : Motion) (a : Action) : pulseFinish m a = finishAfter m a.unit a.width.toNat := by
  have hwidth : a.width.setWidth 32 = BitVec.ofNat 32 a.width.toNat := (BitVec.ofNat_toNat 32 a.width).symm
  unfold pulseFinish finishAfter
  cases a.unit with
  | counts => exact congrArg (fun v => PulseEnd.position (m.h + v)) hwidth
  | microseconds => rfl

theorem laterEnd_finishAfter (m : Motion) (unit : WidthUnit) {v w : Nat} (hv : v < 2 ^ 32) (hw : w < 2 ^ 32) :
    laterEnd m.h (finishAfter m unit v) (finishAfter m unit w) = finishAfter m unit (max v w) := by
  cases unit with
  | counts =>
    have hsub (k : Nat) (hk : k < 2 ^ 32) : (m.h + BitVec.ofNat 32 k - m.h).toNat = k := by bv_omega
    simp only [laterEnd, finishAfter, hsub v hv, hsub w hw]
    split
    · rw [Nat.max_eq_right (by omega)]
    · rw [Nat.max_eq_left (by omega)]
  | microseconds => simp [laterEnd, finishAfter, Nat.add_max_add_left]

/-- Pulses that begin together and are joined end as the widest of them (R132, R137). -/
theorem joinedEnd_widest (m : Motion) (a : Action) (rest : List Action)
    (hrest : ∀ x ∈ rest, x.policy = .join ∧ x.unit = a.unit) :
    joinedEnd m rest (pulseFinish m a) = finishAfter m a.unit ((rest.map fun x => x.width.toNat).foldl max a.width.toNat) := by
  have hall : rest.filter (fun x => x.policy = .join) = rest := List.filter_eq_self.2 fun x hx => by simp [(hrest x hx).1]
  rw [joinedEnd, hall, pulseFinish_eq]
  have key : ∀ (l : List Action) (w : Nat), (∀ x ∈ l, x.unit = a.unit) → w < 2 ^ 32 →
      l.foldl (fun f x => laterEnd m.h f (pulseFinish m x)) (finishAfter m a.unit w) =
        finishAfter m a.unit ((l.map fun x => x.width.toNat).foldl max w) := by
    intro l
    induction l with
    | nil => exact fun _ _ _ => rfl
    | cons x l ih =>
      intro w hl hw
      have hx : x.width.toNat < 2 ^ 32 := by have := x.width.isLt; omega
      rw [List.foldl_cons, List.map_cons, List.foldl_cons, pulseFinish_eq, hl x List.mem_cons_self, laterEnd_finishAfter m _ hw hx]
      exact ih _ (fun y hy => hl y (List.mem_cons_of_mem x hy)) (by omega)
  exact key rest _ (fun x hx => (hrest x hx).2) (by have := a.width.isLt; omega)

/-! ### The channels' own events -/

/-- The ACTIVE action of a channel is in the schedule, on the channel, and ACTIVE. -/
theorem activeAction_spec {a : Action} (h : activeAction n s = some a) :
    a ∈ s.schedule ∧ a.channel = n ∧ ∃ f, a.state = .active f := by
  have hactive := List.find?_some h
  simp only [activeOn, Bool.and_eq_true, decide_eq_true_eq] at hactive
  refine ⟨List.mem_of_find?_eq_some h, hactive.1, ?_⟩
  cases hstate : a.state with
  | pending d => simp [Action.isActive, hstate] at hactive
  | active f => exact ⟨f, rfl⟩

/-- Settles O24: a channel with no MICROSECONDS pulse, and the end of one. -/
theorem microsecondsPulseEndsAtItsTime : Obligations.MicrosecondsPulseEndsAtItsTime := by
  intro n s
  refine ⟨fun hnone => ?_, ?_⟩
  · show Host.Outcome.next _ = _
    cases hactive : activeAction n s with
    | none => rfl
    | some a =>
      obtain ⟨hmem, hchannel, _⟩ := activeAction_spec hactive
      have htime := hnone a hmem hchannel
      dsimp only
      split
      · rename_i time hstate
        exact absurd hstate (htime time)
      · rfl
  · intro a time hactive hstate tick u
    have hend : endPulse n (elapseTo time s) = u := by
      rcases endPulse_cases (elapseTo time s) n with ⟨hnone, _⟩ | ⟨b, hb, e⟩
      · exact absurd (hnone.symm.trans hactive) (by simp)
      · obtain rfl : b = a := Option.some.inj (hb.symm.trans hactive)
        exact e
    show Host.Outcome.next _ = _
    rw [hactive]
    simp only [hstate]
    rw [hend, settleDrain_eq]

/-- R137: the end of a recovery. -/
theorem exec_recoveryExpiry {d : Nat} (h : s.channels[n].state = .recovery d) :
    exec (.recoveryExpiry n) s = .next (expireRecovery n (elapseTo d s)) := by
  show Host.Outcome.next _ = _
  rw [h]

/-- The entries of the actions of a sound line are in their slots (R116). -/
theorem LineSound.linked (h : LineSound s) {l : List Action} (hl : ∀ a ∈ l, a ∈ s.schedule) : Linked l s := fun a ha slot hslot => by
  obtain ⟨⟨k, e⟩, hmem, rfl, _⟩ := h.links.1 a (hl a ha) slot hslot
  exact ⟨e, entryAt_of_mem h.table.1 hmem⟩

/-- A channel that is not ACTIVE has no ACTIVE action (R128). -/
theorem activeAction_eq_none (h : ChannelsSound s) (hstate : s.channels[n].state ≠ .active) : activeAction n s = none := by
  have hcount := h.1 n
  rw [if_neg hstate, activeCount, List.countP_eq_zero] at hcount
  exact List.find?_eq_none.2 fun a ha => hcount a ha

/-- Settles O25: the recovery ends, and the deferred actions, all of them JOIN actions of the channel's width unit, fire as one pulse. -/
theorem recoveryExpiryTakesBackDeferredActions : Obligations.RecoveryExpiryTakesBackDeferredActions := by
  intro n s
  refine ⟨?_, fun hstate => ?_⟩
  · intro d hrecovery u
    refine ⟨fun hidle => ?_, ?_⟩
    · rw [exec_recoveryExpiry hrecovery, expireRecovery]
      by_cases htracking : tracking s = true
      · have hnone : s.schedule.filter (deferredOn n) = [] := hidle.resolve_left fun hidle => by
          simp [tracking, hidle] at htracking
        have hfind : (setChannelState n .idle (elapseTo d s)).schedule.find? (deferredOn n) = none := by
          simpa [List.find?_eq_none, List.filter_eq_nil_iff] using hnone
        have htracking' : tracking (setChannelState n .idle (elapseTo d s)) = true := htracking
        rw [htracking', if_pos rfl, takeDeferred, settleAll_of_none hfind]
        rfl
      · exact congrArg Host.Outcome.next (if_neg htracking)
    · intro a rest hsound hstate hdue width finish
      have hmem : ∀ x ∈ a :: rest, x ∈ s.schedule ∧ deferredOn n x = true := fun x hx => List.mem_filter.1 (hdue ▸ hx)
      have hkind : ∀ x ∈ a :: rest, x.policy = .join ∧ x.unit = s.channels[n].config.unit := fun x hx => by
        obtain ⟨hin, hdeferred⟩ := hmem x hx
        simp only [deferredOn, Action.isDeferred, Bool.and_eq_true, decide_eq_true_eq] at hdeferred
        obtain ⟨rfl, hpending⟩ := hdeferred
        obtain ⟨_, hunit, hjoin, _⟩ := hsound.channels
        exact ⟨hjoin x hin hpending, (hunit x hin).2.1⟩
      have htracking : tracking u = true := by simpa [tracking, u] using hstate
      have hidle : u.channels[n].state = .idle := by simp [u]
      have hnone : activeAction n u = none :=
        activeAction_eq_none (s := s) hsound.channels (by rw [hrecovery]; simp)
      have hfuel : rest.length < u.schedule.length := by
        have := List.length_filter_le (deferredOn n) s.schedule
        rw [hdue, List.length_cons] at this
        exact this
      obtain ⟨hactive, hschedule, hchannels, hfired, hitems⟩ := settleAll_idle (newcomers_deferredOn n) (s := u)
        (fun f x => by simp [deferredOn, withEnd, Action.isDeferred]) hidle hnone hdue hfuel
        (hsound.linked (l := a :: rest) fun x hx => (hmem x hx).1)
      have hexec : exec (.recoveryExpiry n) s = .next (takeDeferred n u) := by
        rw [exec_recoveryExpiry hrecovery]
        exact congrArg Host.Outcome.next (if_pos htracking)
      have hend : joinedEnd u.motion rest (pulseFinish u.motion a) = finish := by
        rw [joinedEnd_widest _ _ _ fun x hx => ?_]
        · rfl
        · obtain ⟨hpolicy, hunit⟩ := hkind x (List.mem_cons_of_mem a hx)
          exact ⟨hpolicy, hunit.trans (hkind a List.mem_cons_self).2.symm⟩
      have hexclusive (f : PulseEnd) : ∀ x, activeOn n x = true → deferredOn n x = false ∧ deferredOn n (withEnd f x) = false :=
        fun x hx => ⟨(newcomers_deferredOn n).not_of_activeOn hx, by simp [deferredOn, withEnd, Action.isDeferred]⟩
      have hjoined : ∀ x ∈ rest, JoinedIn n x (takeDeferred n u) := fun x hx =>
        (hitems x hx).1 (hkind x (List.mem_cons_of_mem a hx)).1
      rw [hend] at hactive
      refine ⟨_, hexec, settleAll_motion _ _ _, settleAll_engine _ _ _, hchannels.trans (by simp [u]), ?_, (activeAction_spec hactive).1,
        ?_, fun x hx slot hslot => ?_, fun x hx slot hslot => ?_⟩
      · rw [takeDeferred, hschedule, filter_modifyFirst (hexclusive _), List.filter_filter]
        simp
      · have hsplit := List.length_eq_length_filter_add (l := modifyFirst (deferredOn n) (withEnd (pulseFinish u.motion a)) u.schedule)
          (deferredOn n)
        rw [filter_modifyFirst_self fun x _ => by simp [deferredOn, withEnd, Action.isDeferred], modifyFirst_length, hdue,
          List.tail_cons] at hsplit
        rw [takeDeferred, hschedule, modifyFirst_length]
        change s.schedule.length = _ at hsplit
        omega
      · rcases List.mem_cons.1 hx with rfl | hx
        · exact hfired slot hslot
        · obtain ⟨e, he, hfired, _⟩ := hjoined x hx slot hslot
          exact ⟨e, he, hfired⟩
      · obtain ⟨e, he, _, hflag⟩ := hjoined x hx slot hslot
        exact ⟨e, he, hflag⟩
  · show Host.Outcome.next _ = _
    rcases hstate with h | h <;> rw [h]

end Sys2Proof.Machine
end

section
set_option Elab.async false
/-! PROOFS. The commands STOP, COMMIT_NOW and START, the completion of a drain, and the validation of Table 5-6 (R91, R101, R102,
R147, R148, R149). -/

namespace Sys2Proof.Machine

variable {s t : State}

/-! ### A data byte that the window takes -/

/-- A data byte that the window takes has its effect, and the window moves on (R171). -/
theorem hostWrite_effect {a : Addr} {effect : State → State} {u : State} (htaken : s.window.takesWrite a = true)
    (heffect : effect s = u) (hwindow : u.window = s.window) : hostWrite a effect s = { u with window := s.window.afterWrite } := by
  subst heffect
  rw [hostWrite_taken s a effect htaken (by rw [hwindow]), hwindow]

/-! ### STOP and the completion of a drain (R148, R149) -/

theorem drainDone_eq_false_iff (s : State) : drainDone s = false ↔
    s.engine.state ≠ .draining ∨ (∃ x ∈ s.table.entries, x.2.state ≠ .done) ∨ s.schedule ≠ [] := by
  rw [← Bool.not_eq_true, drainDone_iff, liveEntries_eq_zero_iff]
  simp only [not_and_or, not_forall, exists_prop, ne_eq]

/-- Settles O35: STOP outside RUNNING, with the line not empty, and with the line empty; and DRAIN_COMPLETE. -/
theorem stopAndDrainCompletionEndTheRun : Obligations.StopAndDrainCompletionEndTheRun := by
  refine ⟨?_, fun s => ⟨fun hdraining hdone hschedule => ?_, fun h => ?_⟩⟩
  · intro s htaken w
    have hexec {u : State} (h : commandStop s = u) (hwindow : u.window = s.window) : exec .stop s = .next { u with window := w } :=
      congrArg Host.Outcome.next (hostWrite_effect htaken h hwindow)
    refine ⟨fun hstate => ?_, fun hrunning hline => ?_, fun hrunning hdone hschedule => ?_⟩
    · exact hexec (u := finishCommand 2 .refusedState s) (if_neg hstate) rfl
    · have hopen : drainDone (setEngineState .draining s) = false := (drainDone_eq_false_iff _).2 (.inr hline)
      exact hexec (u := finishCommand 2 .accepted (setEngineState .draining s))
        (by rw [commandStop, if_pos hrunning, completeDrain, hopen]; rfl) rfl
    · have hover : drainDone (setEngineState .draining s) = true :=
        (drainDone_iff _).2 ⟨rfl, (liveEntries_eq_zero_iff s).2 hdone, hschedule⟩
      refine ⟨_, hexec (u := finishCommand 2 .accepted (enterStopped (setEngineState .draining s)))
        (by rw [commandStop, if_pos hrunning, completeDrain, hover, if_pos rfl]) rfl, fun l => ?_, rfl⟩
      exact detectorOf_discardEdges (setEngineState .draining s) l
  · have hover : drainDone s = true := (drainDone_iff s).2 ⟨hdraining, (liveEntries_eq_zero_iff s).2 hdone, hschedule⟩
    exact ⟨_, congrArg Host.Outcome.next (if_pos hover), detectorOf_discardEdges s, rfl⟩
  · exact congrArg Host.Outcome.next (if_neg (by rw [(drainDone_eq_false_iff s).2 h]; simp))

/-! ### COMMIT_NOW (R101) -/

/-- The command status and the window take no part in an offer. -/
theorem offer_engine_window (r : Report) (engine : Engine) (window : Window) (s : State) :
    { offer r s with engine := engine, window := window } = offer r { s with engine := engine, window := window } := by
  unfold offer
  split
  · rename_i h
    exact (if_pos h).symm
  · rename_i h
    exact (if_neg h).symm

/-- Settles O40: the checks in their order, and the commit. -/
theorem commitNowIsSettledInOrder : Obligations.CommitNowIsSettledInOrder := by
  intro s htaken engine refused
  have hexec {u : State} (h : commandCommit s = u) (hwindow : u.window = s.window) :
      exec .commitNow s = .next { u with window := s.window.afterWrite } :=
    congrArg Host.Outcome.next (hostWrite_effect htaken h hwindow)
  refine ⟨fun hstate => ?_, fun hstopped hhold => ?_, fun hstopped hhold hpending => ?_,
    fun code hstopped hhold hpending hinvalid => ?_, fun hstopped hhold hpending hvalid => ?_⟩
  · exact hexec (u := finishCommand 5 .refusedState s) (by simp [commandCommit, hstate]) rfl
  · exact hexec (u := finishCommand 5 .refusedHold s) (by simp [commandCommit, hstopped, hhold]) rfl
  · exact hexec (u := finishCommand 5 .refusedState s) (by simp [commandCommit, hstopped, hhold, hpending]) rfl
  · exact hexec (u := finishCommand 5 .refusedInvalid (rejectShadow code s))
      (by simp [commandCommit, hstopped, hhold, hpending, hinvalid]) rfl
  · rw [hexec (u := finishCommand 5 .accepted (commit s)) (by simp [commandCommit, hstopped, hhold, hpending, hvalid]) (by simp)]
    have hcommit : commit s = offer (.commit (s.epochUnit.epoch + 1) s.motion.h)
        (setFlag .commitDone { s with epochUnit := s.epochUnit.commit }) := by
      rw [commit, EpochUnit.commit_eq]
    have hfinish (u : State) : { finishCommand 5 .accepted u with window := s.window.afterWrite } =
        { u with engine := { u.engine with lastCommand := 5, lastResult := .accepted }, window := s.window.afterWrite } := rfl
    rw [hfinish, commit_engine, hcommit, offer_engine_window, EpochUnit.commit_eq]
    rfl

/-! ### Validation (R91) -/

/-- One failing check comes before another: a lower check number, or the same and a lower lane or channel (R91). -/
def CheckCode.Precedes (x y : CheckCode) : Prop := x.number < y.number ∨ x.number = y.number ∧ x.index < y.index

theorem mem_failingLanes {number : Nat} {ok : Lane → Bool} {x : CheckCode} : x ∈ failingLanes number ok s ↔
    x.number = number ∧ ∃ l : Lane, l.val = x.index ∧ laneEnabled l s = true ∧ ok l = false := by
  obtain ⟨k, i⟩ := x
  simp only [failingLanes, List.mem_map, List.mem_filter, CheckCode.mk.injEq, Bool.and_eq_true, Bool.not_eq_true']
  constructor
  · rintro ⟨l, ⟨_, henabled, hfails⟩, rfl, rfl⟩
    exact ⟨rfl, l, rfl, henabled, hfails⟩
  · rintro ⟨rfl, l, rfl, henabled, hfails⟩
    exact ⟨l, ⟨List.mem_finRange l, henabled, hfails⟩, rfl, rfl⟩

theorem mem_failingChannels {number : Nat} {applies : ChannelConfig → Bool} {ok : Channel → Bool} {x : CheckCode} :
    x ∈ failingChannels number applies ok s ↔
      x.number = number ∧ ∃ n : Channel, n.val = x.index ∧ applies s.channels[n].config = true ∧ ok n = false := by
  obtain ⟨k, i⟩ := x
  simp only [failingChannels, List.mem_map, List.mem_filter, CheckCode.mk.injEq, Bool.and_eq_true, Bool.not_eq_true']
  constructor
  · rintro ⟨n, ⟨_, happlies, hfails⟩, rfl, rfl⟩
    exact ⟨rfl, n, rfl, happlies, hfails⟩
  · rintro ⟨rfl, n, rfl, happlies, hfails⟩
    exact ⟨n, ⟨mem_allChannels n, happlies, hfails⟩, rfl, rfl⟩

theorem allLanes_sorted : allLanes.Pairwise (· < ·) := by decide

/-- The failing checks up to a number are in the order of R91. -/
def OrderedUpTo (number : Nat) (l : List CheckCode) : Prop := l.Pairwise CheckCode.Precedes ∧ ∀ x ∈ l, x.number ≤ number

theorem OrderedUpTo.append {number : Nat} {l l' : List CheckCode} (h : OrderedUpTo number l)
    (h' : l'.Pairwise CheckCode.Precedes) (hnumber : ∀ x ∈ l', x.number = number + 1) : OrderedUpTo (number + 1) (l ++ l') := by
  obtain ⟨hordered, hle⟩ := h
  refine ⟨List.pairwise_append.2 ⟨hordered, h', fun x hx y hy => .inl ?_⟩, fun x hx => ?_⟩
  · rw [hnumber y hy]
    exact Nat.lt_succ_of_le (hle x hx)
  · rcases List.mem_append.1 hx with hx | hx
    · exact (hle x hx).trans (Nat.le_succ number)
    · exact (hnumber x hx).le

theorem OrderedUpTo.lanes {number : Nat} {l : List CheckCode} (h : OrderedUpTo number l) (ok : Lane → Bool) (s : State) :
    OrderedUpTo (number + 1) (l ++ failingLanes (number + 1) ok s) :=
  h.append (List.pairwise_map.2 (List.Pairwise.imp (fun hlt => .inr ⟨rfl, hlt⟩) (allLanes_sorted.filter _)))
    fun _ hx => (mem_failingLanes.1 hx).1

theorem OrderedUpTo.channels {number : Nat} {l : List CheckCode} (h : OrderedUpTo number l) (applies : ChannelConfig → Bool)
    (ok : Channel → Bool) (s : State) : OrderedUpTo (number + 1) (l ++ failingChannels (number + 1) applies ok s) :=
  h.append (List.pairwise_map.2 (List.Pairwise.imp (fun hlt => .inr ⟨rfl, hlt⟩) (allChannels_sorted.filter _)))
    fun _ hx => (mem_failingChannels.1 hx).1

/-- R91: the failing conditions are listed in the order of the checks, and of the lanes or channels of each. -/
theorem validationFailures_ordered (p : ProfileSet) (s : State) : (validationFailures p s).Pairwise CheckCode.Precedes := by
  have hpitch : OrderedUpTo 1 (if checkPitch p then [] else [{ number := 1, index := 0 }]) := by
    split <;> simp [OrderedUpTo]
  exact ((((((((hpitch.lanes _ s).lanes _ s).lanes _ s).channels _ _ s).channels _ _ s).channels _ _ s).channels _ _ s).channels
    _ _ s).1

/-- Validation answers the first failing condition in the order of R91. -/
theorem validate_spec {p : ProfileSet} {fails : Nat → Nat → Prop}
    (hmem : ∀ x, x ∈ validationFailures p s ↔ fails x.number x.index) :
    (validate p s = none ↔ ∀ number index, ¬ fails number index) ∧
    ∀ code, validate p s = some code ↔ fails code.number code.index ∧
      ∀ number index, fails number index → code.number < number ∨ code.number = number ∧ code.index ≤ index := by
  have hordered := validationFailures_ordered p s
  unfold validate
  cases hlist : validationFailures p s with
  | nil =>
    rw [hlist] at hmem
    have hnone : ∀ number index, ¬ fails number index := fun number index h => by
      simpa using (hmem ⟨number, index⟩).2 h
    simp [hnone]
  | cons first rest =>
    rw [hlist] at hmem hordered
    obtain ⟨hleast, _⟩ := List.pairwise_cons.1 hordered
    have hfirst : fails first.number first.index := (hmem first).1 List.mem_cons_self
    have hbefore : ∀ number index, fails number index →
        first.number < number ∨ first.number = number ∧ first.index ≤ index := fun number index h => by
      rcases List.mem_cons.1 ((hmem ⟨number, index⟩).2 h) with rfl | hin
      · exact .inr ⟨rfl, le_rfl⟩
      · exact (hleast _ hin).imp id fun ⟨hnumber, hindex⟩ => ⟨hnumber, hindex.le⟩
    refine ⟨by simpa using ⟨_, _, hfirst⟩, fun code => ⟨fun h => ?_, fun ⟨hfails, hmin⟩ => ?_⟩⟩
    · obtain rfl : first = code := Option.some.inj h
      exact ⟨hfirst, hbefore⟩
    · obtain ⟨k, i⟩ := code
      obtain ⟨k', i'⟩ := first
      have h₁ := hmin _ _ hfirst
      have h₂ := hbefore _ _ hfails
      simp only [List.head?_cons, Option.some.injEq, CheckCode.mk.injEq] at h₁ h₂ ⊢
      omega

end Sys2Proof.Machine
end

section
set_option Elab.async false
/-! PROOFS. START and the refusals of START and RESUME (R102, R147, R152), and the fault report (R150, R151). -/

namespace Sys2Proof.Machine

variable {s t : State}

/-! ### The refusals -/

theorem checkBeforeExit_eq (c : ChannelConfig) (p : ChannelProfile) (l : LaneProfile) : checkBeforeExit c p l =
    decide (p.offset.toNat + (if c.unit = .counts then p.width.toNat else 0) < l.exitOffset.toNat) := by
  cases h : c.unit <;> simp [checkBeforeExit, h]

/-- Settles O36: the conditions of Table 5-6 one by one, and each refusal. -/
theorem startAndResumeAreRefused : Obligations.StartAndResumeAreRefused := by
  refine ⟨?_, ?_, ?_⟩
  · intro p s enabled cfg itsLane names fails
    refine validate_spec fun x => ?_
    obtain ⟨number, index⟩ := x
    have hpitch : (⟨number, index⟩ : CheckCode) ∈ (if checkPitch p then [] else [{ number := 1, index := 0 }] : List CheckCode) ↔
        number = 1 ∧ index = 0 ∧ ¬ (16 ≤ p.pitch.toNat ∧ p.pitch.toNat ≤ 1048575) := by
      cases h : checkPitch p <;> simp_all [checkPitch]
    have hnames (n : Channel) : namesLane s.channels[n].config = true ↔ names n := by
      simp [namesLane, names, cfg]
    have henabled (l : Lane) : laneEnabled l s = true ↔ enabled l := Iff.rfl
    simp only [validationFailures, List.mem_append, hpitch, mem_failingLanes, mem_failingChannels, hnames, henabled,
      checkBeforeExit_eq, checkLengths, checkDecision, checkExit, checkAfterDecision, checkWithinPitch, checkWidth,
      decide_eq_true_eq, Bool.eq_false_iff, ne_eq]
    match number with
    | 0 | 1 | 2 | 3 | 4 | 5 | 6 | 7 | 8 | 9 => simp [fails, cfg, itsLane]
    | k + 10 => simp [fails]
  · intro s htaken w due invalid
    have hexec {u : State} (h : commandStart s = u) (hwindow : u.window = s.window) : exec .start s = .next { u with window := w } :=
      congrArg Host.Outcome.next (hostWrite_effect htaken h hwindow)
    refine ⟨fun hstate => ?_, fun code hstopped hdue hinvalid => ?_, fun code hstopped hdue hinvalid => ?_⟩
    · exact hexec (u := finishCommand 1 .refusedState s) (if_pos hstate) rfl
    · have hdue' : attemptDue s = true := hdue
      exact hexec (u := finishCommand 1 .refusedInvalid (rejectShadow code s)) (by simp [commandStart, hstopped, hdue', hinvalid]) rfl
    · have hdue' : attemptDue s = false := hdue
      exact hexec (u := finishCommand 1 .refusedInvalid
          { s with epochUnit := { s.epochUnit with lastResult := .currentInvalid, check := code } })
        (by simp [commandStart, hstopped, hdue', hinvalid]) rfl
  · intro first s htaken refused
    have hexec {u : State} (h : commandResume first s = u) (hwindow : u.window = s.window) :
        exec (.resume first) s = .next { u with window := s.window.afterWrite } :=
      congrArg Host.Outcome.next (hostWrite_effect htaken h hwindow)
    refine ⟨fun hstate => ?_, fun hfrozen hahead hbehind => ?_⟩
    · exact hexec (u := finishCommand 3 .refusedState s) (if_pos hstate) rfl
    · have hfar : withinAllowance s.motion = false := by simpa [withinAllowance] using ⟨hahead, hbehind⟩
      exact hexec (u := finishCommand 3 .refusedPosition s) (by simp [commandResume, hfrozen, hfar]) rfl

/-! ### A record offered, field by field (R159, R160) -/

/-- The queue admits a record (R159). -/
def admits (r : Report) (q : ReportQueue) : Bool := decide (placesNeeded r ≤ 64 - q.records.length)

theorem offer_queue (r : Report) (s : State) : (offer r s).queue = { s.queue with
    records := if admits r s.queue then s.queue.records ++ [r] else s.queue.records,
    lost := if admits r s.queue then s.queue.lost else satSucc s.queue.lost } := by
  rcases offer_cases s r with ⟨h, e⟩ | ⟨h, e⟩
  · have hadmits : admits r s.queue = true := decide_eq_true h
    simp [e, hadmits]
  · have hadmits : admits r s.queue = false := decide_eq_false (Nat.not_le.2 h)
    simp [e, hadmits]

theorem offer_stickySet (r : Report) (s : State) (f : Flag) :
    stickySet f (offer r s) = (stickySet f s || (decide (f = .lost) && !admits r s.queue)) := by
  rcases offer_cases s r with ⟨h, e⟩ | ⟨h, e⟩
  · have hadmits : admits r s.queue = true := decide_eq_true h
    simp [e, hadmits, stickySet]
  · have hadmits : admits r s.queue = false := decide_eq_false (Nat.not_le.2 h)
    rw [e, hadmits, Bool.not_false, Bool.and_true]
    exact (stickySet_setFlag { s with queue := { s.queue with lost := satSucc s.queue.lost } } f .lost).trans (by
      simp [eq_comm, stickySet])

/-! ### An accepted START (R147) -/

/-- The state of a detector taken from its input (R35). -/
def inputState (l : Lane) (s : State) : DetectorState := if laneEnabled l s && activeInput l s then .blocked else .clear

theorem foldl_takeFromInput (l : Lane) {lanes : List Lane} (hnodup : lanes.Nodup) (s : State) :
    detectorOf l (lanes.foldl takeFromInput s) =
      if l ∈ lanes then { detectorOf l s with state := inputState l s, edge := none, gap := none } else detectorOf l s := by
  induction lanes generalizing s with
  | nil => rfl
  | cons k lanes ih =>
    obtain ⟨hk, hnodup⟩ := List.nodup_cons.1 hnodup
    have hstep : detectorOf l (takeFromInput s k) =
        if k = l then { detectorOf k s with state := inputState k s, edge := none, gap := none } else detectorOf l s :=
      detectorOf_modifyDetector s k l _
    rw [List.foldl_cons, ih hnodup, hstep]
    by_cases hl : k = l
    · subst hl
      simp [hk]
    · simp only [if_neg hl, List.mem_cons, Ne.symm hl, false_or]
      rfl

/-- R35: every detector takes its state from its input. -/
theorem detectorOf_detectorsFromInputs (l : Lane) (s : State) : detectorOf l (detectorsFromInputs s) =
    { detectorOf l s with state := inputState l s, edge := none, gap := none } :=
  (foldl_takeFromInput l (by decide) s).trans (if_pos (List.mem_finRange l))

theorem detectorsFromInputs_eq (l : Lane) {p : ProfileSet} (hdetectors : t.detectors = s.detectors) (hdet : t.det = s.det)
    (hbank : currentBank t = p) : detectorOf l (detectorsFromInputs t) = {
      state := if s.detectors.enabled.getLsbD l.val ∧ s.det[l] = p.lanes[l].activeHigh then .blocked else .clear,
      edge := none, gap := none, nextTag := (detectorOf l s).nextTag } := by
  rw [detectorOf_detectorsFromInputs]
  simp [inputState, laneEnabled, inMask, activeInput, detectorOf, hdetectors, hdet, hbank]

/-- The line of an accepted START with its profile set chosen: H is at P, and the shadow set is committed where it is due. -/
def loadedRun (committing : Bool) (s : State) : State :=
  if committing then commit { s with motion := { s.motion with h := s.motion.p } }
  else { s with motion := { s.motion with h := s.motion.p } }

theorem beginRun_eq (committing : Bool) (s : State) : beginRun committing s =
    let u := loadedRun committing s
    setEngineState .running (detectorsFromInputs { u with
      motion := { u.motion with m := u.motion.h + (currentBank u).pitch, phaseErrors := 0, reports := [] },
      epochUnit := { u.epochUnit with deferral := false } }) := rfl

theorem loadedRun_motion (committing : Bool) (s : State) :
    (loadedRun committing s).motion = { s.motion with h := s.motion.p } := by
  cases committing
  · rfl
  · exact commit_motion _

theorem loadedRun_epochUnit (committing : Bool) (s : State) :
    (loadedRun committing s).epochUnit = if committing then s.epochUnit.commit else s.epochUnit := by
  cases committing
  · rfl
  · exact offer_epochUnit _ _

theorem currentBank_commit (s : State) (h : t.epochUnit = s.epochUnit.commit) : currentBank t = s.epochUnit.shadow := by
  simp only [currentBank, bankOf, h, EpochUnit.commit_eq]
  cases hcurrent : s.epochUnit.current <;> simp [Bank.other]

theorem currentBank_loadedRun (committing : Bool) (s : State) :
    currentBank (loadedRun committing s) = if committing then s.epochUnit.shadow else currentBank s := by
  cases committing
  · rfl
  · exact currentBank_commit s (loadedRun_epochUnit true s)

/-- The COMMIT record of a START carries the new E and the new H (R104, R147). -/
theorem loadedRun_queue (committing : Bool) (s : State) :
    let room : Bool := decide (s.queue.records.length ≤ 55)
    (loadedRun committing s).queue = { s.queue with
      records := if committing && room then s.queue.records ++ [.commit (s.epochUnit.epoch + 1) s.motion.p] else s.queue.records,
      lost := if committing && !room then satSucc s.queue.lost else s.queue.lost } ∧
    ∀ f, stickySet f (loadedRun committing s) =
      (stickySet f s || (decide (f = .commitDone) && committing) || (decide (f = .lost) && committing && !room)) := by
  intro room
  cases committing with
  | false => simp [loadedRun, stickySet]
  | true =>
    obtain ⟨x, hcommit, hqueue, hflags⟩ : ∃ x, loadedRun true s = offer (.commit (s.epochUnit.epoch + 1) s.motion.p) x ∧
        x.queue = s.queue ∧ ∀ f, stickySet f x = (stickySet f s || decide (f = .commitDone)) := by
      refine ⟨setFlag .commitDone { s with motion := { s.motion with h := s.motion.p }, epochUnit := s.epochUnit.commit }, ?_, rfl,
        fun f => (stickySet_setFlag _ f .commitDone).trans (by simp [stickySet, eq_comm])⟩
      rw [loadedRun, if_pos rfl, commit, EpochUnit.commit_eq]
    have hadmits : admits (.commit (s.epochUnit.epoch + 1) s.motion.p) x.queue = room := by
      rw [hqueue]
      exact decide_eq_decide.2 (by simp only [placesNeeded]; omega)
    rw [hcommit]
    refine ⟨?_, fun f => ?_⟩
    · rw [offer_queue, hadmits, hqueue]
      cases room <;> rfl
    · rw [offer_stickySet, hadmits, hflags]
      simp

theorem loadedRun_frame (committing : Bool) (s : State) :
    (loadedRun committing s).engine = s.engine ∧ (loadedRun committing s).detectors = s.detectors ∧
    (loadedRun committing s).det = s.det := by
  cases committing <;> simp [loadedRun]

/-- Settles O37: the commit where one is due, H at P, and the detectors from their inputs under the set of the run. -/
theorem startBeginsTheRun : Obligations.StartBeginsTheRun := by
  intro s htaken hstopped due hvalid committed set room
  have hstart : commandStart s = finishCommand 1 .accepted (beginRun due s) := by
    have hdue : attemptDue s = due := rfl
    cases h : due <;> rw [h] at hdue hvalid <;> simp_all [commandStart]
  have hexec : exec .start s = .next { finishCommand 1 .accepted (beginRun due s) with window := s.window.afterWrite } :=
    congrArg Host.Outcome.next (hostWrite_effect htaken hstart (by simp))
  obtain ⟨henabled, _, _, _, henables⟩ := (beginRun_effects (sound := False) (posting := False) due s).settingsKept
  obtain ⟨hengine, hdetectors, hdet⟩ := loadedRun_frame due s
  obtain ⟨hqueue, hflags⟩ := loadedRun_queue due s
  have hunit := loadedRun_epochUnit due s
  have hbank : currentBank (loadedRun due s) = set := currentBank_loadedRun due s
  refine ⟨_, hexec, ?engine, ?motion, ?epochUnit, henabled, fun l => ?detectors, ?queue, henables, ?flags, rfl, beginRun_det s due,
    beginRun_table s due, beginRun_verdicts s due, beginRun_schedule s due, beginRun_channels s due⟩
  case engine =>
    show ({ (beginRun due s).engine with lastCommand := 1, lastResult := .accepted } : Engine) = _
    rw [beginRun_eq]
    simp [hengine]
  case motion =>
    show (beginRun due s).motion = _
    rw [beginRun_eq]
    simp [loadedRun_motion, hbank]
  case epochUnit =>
    show (beginRun due s).epochUnit = _
    rw [beginRun_eq]
    simp only [setEngineState_epochUnit, detectorsFromInputs_epochUnit, hunit, EpochUnit.commit_eq]
    cases due <;> rfl
  case detectors =>
    show detectorOf l (beginRun due s) = _
    rw [beginRun_eq]
    exact detectorsFromInputs_eq l (p := set) hdetectors hdet hbank
  case queue =>
    show (beginRun due s).queue = _
    simp only [beginRun_eq, setEngineState_queue, detectorsFromInputs_queue]
    exact hqueue
  case flags =>
    intro f
    show stickySet f (beginRun due s) = _
    rw [beginRun_eq, ← hflags f]
    simp [stickySet]

end Sys2Proof.Machine
end

section
set_option Elab.async false
/-! PROOFS. The fault report (R150, R151): what a freeze does to the pulses, their channels and their entries. -/

namespace Sys2Proof.Machine

variable {s t : State}

/-! ### Pulses that stop together (R139, R141) -/

/-- The channel of a pulse that has stopped, or a channel with no pulse. -/
def stoppedChannel (tick : Nat) (pulse : Option Action) (ch : OutputChannel) : OutputChannel :=
  match pulse with
  | none => ch
  | some a => { ch with state := afterPulse tick a.recovery }

theorem foldl_stopPulse_channels {step : State → Action → State}
    (hstep : ∀ s a, (step s a).motion = s.motion ∧ (step s a).channels = (stopPulse a s).channels) (n : Channel)
    {l : List Action} (hone : l.countP (fun a => decide (a.channel = n)) ≤ 1) (s : State) :
    (l.foldl step s).channels[n] = stoppedChannel s.motion.tick (l.find? fun a => decide (a.channel = n)) s.channels[n] := by
  induction l generalizing s with
  | nil => rfl
  | cons a l ih =>
    obtain ⟨hmotion, hchannels⟩ := hstep s a
    have hstopped : (step s a).channels[n] =
        if a.channel = n then { s.channels[n] with state := afterPulse s.motion.tick a.recovery } else s.channels[n] := by
      rw [hchannels]
      refine (setChannelState_channel a.channel n _ s).trans ?_
      split
      · rename_i h
        rw [h]
      · rfl
    rw [List.countP_cons] at hone
    rw [List.foldl_cons, ih (by omega), hmotion, hstopped]
    by_cases ha : a.channel = n
    · have hnone : l.find? (fun a => decide (a.channel = n)) = none := by
        simp only [ha, decide_true, if_true] at hone
        exact List.find?_eq_none.2 (List.countP_eq_zero.1 (by omega))
      simp [ha, hnone, stoppedChannel]
    · simp [ha]

/-- The ACTIVE action of a channel among the ACTIVE actions. -/
theorem find?_isActive (n : Channel) (s : State) :
    (s.schedule.filter Action.isActive).find? (fun a => decide (a.channel = n)) = activeAction n s := by
  rw [List.find?_filter, activeAction]
  exact congrArg (fun p => s.schedule.find? p) (funext fun a => by simp [activeOn, Bool.and_comm])

theorem countP_isActive (n : Channel) (s : State) :
    (s.schedule.filter Action.isActive).countP (fun a => decide (a.channel = n)) = activeCount n s := by
  rw [List.countP_filter]
  rfl

theorem ChannelsSound.activeCount_le (h : ChannelsSound s) (n : Channel) : activeCount n s ≤ 1 := by
  rw [h.1 n]
  split <;> omega

/-! ### A freeze -/

/-- One ACTIVE action at a freeze: its pulse stops and its entry gains CUT (R122, R139). -/
def cutPulse (s : State) (a : Action) : State :=
  onItem a.item (fun slot => addFlags slot ({ · with cut := true })) (stopPulse a s)

theorem cutPulses_eq (s : State) : cutPulses s =
    { (s.schedule.filter Action.isActive).foldl cutPulse s with schedule := s.schedule.filter fun a => !a.isActive } := rfl

theorem cutPulse_frame (s : State) (a : Action) :
    (cutPulse s a).motion = s.motion ∧ (cutPulse s a).channels = (stopPulse a s).channels := by
  unfold cutPulse onItem
  split <;> simp

theorem cutPulse_amends (s : State) (a : Action) : Amends s (cutPulse s a) :=
  (Amends.of_table (s := s) (t := stopPulse a s) rfl).trans
    (onItem_amends a.item (fun slot s => addFlags_amends slot setsFlags_cut s) _)

theorem cutPulses_amends (s : State) : Amends s (cutPulses s) := by
  have key : ∀ (l : List Action) (s : State), Amends s (l.foldl cutPulse s) := by
    intro l
    induction l with
    | nil => exact fun s => .of_table rfl
    | cons a l ih => exact fun s => (cutPulse_amends s a).trans (ih _)
  exact (key _ s).trans (.of_table rfl)

theorem cutPulses_channel {n : Channel} (hone : activeCount n s ≤ 1) :
    (cutPulses s).channels[n] = stoppedChannel s.motion.tick (activeAction n s) s.channels[n] := by
  rw [← find?_isActive]
  exact foldl_stopPulse_channels cutPulse_frame n ((countP_isActive n s).trans_le hone) s

theorem entryAt_cutPulse (slot : Slot) (s : State) (a : Action) : entryAt slot (cutPulse s a) =
    (entryAt slot s).map fun e => if a.item = some slot then { e with flags := { e.flags with cut := true } } else e := by
  unfold cutPulse onItem
  cases hitem : a.item with
  | none => simp [entryAt]
  | some k =>
    dsimp only
    rw [entryAt_addFlags]
    by_cases hk : slot = k
    · subst hk
      simp [entryAt]
    · simp [hk, Ne.symm hk, entryAt]

/-- The entries of the ACTIVE actions gain CUT (R122). -/
theorem entryAt_cutPulses (slot : Slot) (s : State) : entryAt slot (cutPulses s) = (entryAt slot s).map fun e =>
    if s.schedule.any (fun a => a.isActive && decide (a.item = some slot)) then { e with flags := { e.flags with cut := true } }
    else e := by
  have key : ∀ (l : List Action) (s : State), entryAt slot (l.foldl cutPulse s) = (entryAt slot s).map fun e =>
      if l.any (fun a => decide (a.item = some slot)) then { e with flags := { e.flags with cut := true } } else e := by
    intro l
    induction l with
    | nil => simp
    | cons a l ih =>
      intro s
      rw [List.foldl_cons, ih, entryAt_cutPulse, Option.map_map]
      refine congrArg (fun f => (entryAt slot s).map f) (funext fun e => ?_)
      by_cases ha : a.item = some slot <;> simp [ha]
  have hany : (s.schedule.filter Action.isActive).any (fun a => decide (a.item = some slot)) =
      s.schedule.any (fun a => a.isActive && decide (a.item = some slot)) := List.any_filter
  rw [← hany]
  exact key _ s

/-- Settles O34: the report in each engine state, and the freeze. -/
theorem faultReportIsTakenByTheEngine : Obligations.FaultReportIsTakenByTheEngine := by
  refine ⟨fun s => ⟨fun hnone => ?_, ?_⟩, ?_⟩
  · show Host.Outcome.next _ = _
    rw [hnone]
  · intro r rest hreports u
    have hexec : exec .faultReport s = .next (takeReport r u) := by
      show Host.Outcome.next _ = _
      rw [hreports]
    refine ⟨fun hstopped => ?_, fun hfrozen => ?_⟩
    · rw [hexec, takeReport, show u.engine.state = _ from hstopped]
    · rw [hexec, takeReport, show u.engine.state = _ from hfrozen, ← satSucc_byte]
  · intro s r rest hsound htracking hreports cut full
    let u : State := { s with motion := { s.motion with reports := rest } }
    let v : State := { u with engine := { s.engine with
      state := .frozen, frozenFrom := some s.engine.state,
      fault := { cause := r.cause, prior := s.engine.state, further := 0, p := r.p, h := r.h } } }
    let w : State := setFlag .fault (cutPulses (discardEdges v))
    have hexec : exec .faultReport s = .next (offer (.fault r.cause s.engine.state r.p r.h) w) := by
      show Host.Outcome.next _ = _
      rw [hreports]
      have hstate : s.engine.state = .running ∨ s.engine.state = .draining := by simpa [tracking] using htracking
      have hfreeze : takeReport r u = freeze r u := by
        unfold takeReport
        rcases hstate with h | h <;> rw [show u.engine.state = _ from h]
      exact congrArg Host.Outcome.next hfreeze
    have hadmits : admits (.fault r.cause s.engine.state r.p r.h) w.queue = !full := by
      rw [show w.queue = s.queue by simp [w, v, u], admits, ← decide_not]
      exact decide_eq_decide.2 (by simp only [placesNeeded]; omega)
    have hone (n : Channel) : activeCount n (discardEdges v) ≤ 1 := hsound.activeCount_le n
    refine ⟨_, hexec, by simp [w, v], by simp [w, v, u], by simp [w, v, u], fun l => ?detectors, ?schedule, fun n => ?channels,
      fun slot => ?entries, ?table, ?queue, ?enables, fun f => ?flags, by simp [w, v, u], by simp [w, v, u], by simp [w, v, u],
      by simp [w, v, u]⟩
    case detectors =>
      have hdetectors : (offer (.fault r.cause s.engine.state r.p r.h) w).detectors = (discardEdges s).detectors := by
        simp [w, v, u]
      rw [detectorOf, hdetectors]
      exact detectorOf_discardEdges s l
    case schedule => simp [w, v, u, cutPulses_eq]
    case channels =>
      have hchannel := cutPulses_channel (hone n)
      rw [offer_channels]
      refine hchannel.trans ?_
      show stoppedChannel s.motion.tick (activeAction n s) s.channels[n] = _
      cases activeAction n s <;> rfl
    case entries =>
      rw [entryAt, offer_table]
      exact entryAt_cutPulses slot (discardEdges v)
    case table =>
      rw [offer_table]
      exact (cutPulses_amends (discardEdges v)).table
    case queue =>
      rw [offer_queue, hadmits, show w.queue = s.queue by simp [w, v, u]]
      cases full <;> rfl
    case enables =>
      rw [offer_enables]
      simp [w, v, u]
    case flags =>
      have hflags : stickySet f w = (stickySet f s || decide (f = .fault)) := by
        refine (stickySet_setFlag _ f .fault).trans ?_
        simp [stickySet, v, u, eq_comm]
      rw [offer_stickySet, hadmits, hflags, Bool.not_not]

end Sys2Proof.Machine
end

section
set_option Elab.async false
/-! PROOFS. The postings (R56, R164): POP and OUTCOME_POST, and the take of a verdict record that they follow (R66 to R74). -/

namespace Sys2Proof.Machine

variable {s t : State}

/-! ### The DONE list served -/

/-- The entries that wait in the DONE list, in its order (R56). -/
def Waiting (waiting : List (Slot × Entry)) (s : State) : Prop :=
  List.Forall₂ (fun (slot : Slot) (x : Slot × Entry) => x.1 = slot ∧ entryAt slot s = some x.2) s.table.doneList waiting

/-- The counters of the lanes once OUTCOME records have been posted (R56). -/
def Counted (out : List (Slot × Entry)) (before after : Vector LaneCounters 4) : Prop :=
  ∀ l : Lane, after[l] = { before[l] with outcomes := before[l].outcomes + BitVec.ofNat 32 (out.countP fun x => x.2.lane = l) }

/-- The line once the entries of the DONE list have been posted while there are places (R56). -/
def postedLine (places : Nat) (waiting : List (Slot × Entry)) (counters : Vector LaneCounters 4) (s : State) : State :=
  { s with
    queue := { s.queue with records := s.queue.records ++ (waiting.take places).map fun x => outcomeRecord x.2 },
    table := { s.table with
      entries := s.table.entries.filter fun x => !((waiting.take places).map (·.1)).contains x.1,
      doneList := s.table.doneList.drop places, counters := counters } }

theorem Counted.step {x : Slot × Entry} {out : List (Slot × Entry)} {before after : Vector LaneCounters 4}
    (h : Counted out (updateAt before x.2.lane fun c => { c with outcomes := c.outcomes + 1 }) after) :
    Counted (x :: out) before after := fun l => by
  rw [h l, updateAt_get, List.countP_cons]
  by_cases hl : x.2.lane = l
  · subst hl
    simp only [if_true, decide_true, Nat.add_comm _ 1, BitVec.ofNat_add, BitVec.add_assoc]
    rfl
  · simp [hl]

theorem postedLine_of_idle {places : Nat} {waiting : List (Slot × Entry)}
    (h : s.table.doneList = [] ∧ waiting = [] ∨ places = 0) : postedLine places waiting s.table.counters s = s := by
  obtain ⟨motion, det, detectors, ⟨entries, laneList, doneList, counters, inspection⟩, verdicts, epochUnit, schedule, channels, engine,
    ⟨records, threshold, lost⟩, interrupts, window, pending, freeCount⟩ := s
  rcases h with ⟨hnone, rfl⟩ | rfl
  · obtain rfl : doneList = [] := hnone
    simp [postedLine]
  · simp [postedLine]

/-- R56: OUTCOME_POST posts the entries of the DONE list in its order while there are places. -/
theorem serveDone_eq {waiting : List (Slot × Entry)} (hnodup : s.table.doneList.Nodup) (hwaiting : Waiting waiting s) :
    ∃ counters, Counted (waiting.take (64 - s.queue.records.length)) s.table.counters counters ∧
      serveDone s = postedLine (64 - s.queue.records.length) waiting counters s := by
  induction waiting generalizing s with
  | nil =>
    have hnone : s.table.doneList = [] := List.forall₂_nil_right_iff.1 hwaiting
    exact ⟨s.table.counters, fun l => by simp,
      (serveDone_of_idle s (.inl hnone)).trans (postedLine_of_idle (.inl ⟨hnone, rfl⟩)).symm⟩
  | cons x waiting ih =>
    by_cases hfull : 64 ≤ s.queue.records.length
    · exact ⟨s.table.counters, fun l => by simp [Nat.sub_eq_zero_of_le hfull],
        (serveDone_of_idle s (.inr hfull)).trans (postedLine_of_idle (.inr (Nat.sub_eq_zero_of_le hfull))).symm⟩
    obtain ⟨slot, rest, ⟨rfl, hentry⟩, hrest, hdone⟩ := List.forall₂_cons_right_iff.1 hwaiting
    rcases postOutcome_cases s with ⟨hnone, _⟩ | ⟨hdepth, _⟩ | ⟨k, rest', hdone', _, ⟨hfree, _⟩ | ⟨e, he, hpost⟩⟩
    · simp [hdone] at hnone
    · exact absurd hdepth hfull
    · obtain ⟨rfl, rfl⟩ := List.cons.inj (hdone.symm.trans hdone')
      simp [hentry] at hfree
    obtain ⟨rfl, rfl⟩ := List.cons.inj (hdone.symm.trans hdone')
    obtain rfl : x.2 = e := Option.some.inj (hentry.symm.trans he)
    rw [hdone] at hnodup
    obtain ⟨hslot, hnodup⟩ := List.nodup_cons.1 hnodup
    have hserve : serveDone s = serveDone (postOutcome s) := by
      rw [serveDone, hdone, List.length_cons, postOutcomes, serveDone, hpost]
    have hwaiting' : Waiting waiting (postOutcome s) := by
      have hkept : List.Forall₂ (fun (k : Slot) (y : Slot × Entry) => k ≠ x.1 ∧ y.1 = k ∧ entryAt k s = some y.2) rest waiting :=
        (List.forall₂_and_left _ _).2 ⟨fun k hk h => hslot (h ▸ hk), hrest⟩
      rw [hpost]
      refine hkept.imp fun k y ⟨hne, hk, hy⟩ => ⟨hk, ?_⟩
      rw [entryAt, findEntry_dropEntry, if_neg hne]
      exact hy
    obtain ⟨counters, hcounted, hserved⟩ := ih (s := postOutcome s) (by rw [hpost]; exact hnodup) hwaiting'
    have hplaces : 64 - s.queue.records.length = (64 - (postOutcome s).queue.records.length) + 1 := by
      rw [hpost, List.length_append, List.length_singleton]
      omega
    rw [hplaces, List.take_succ_cons]
    refine ⟨counters, ?_, ?_⟩
    · rw [hpost] at hcounted ⊢
      exact hcounted.step
    · rw [hserve, hserved]
      unfold postedLine
      rw [hdone, hpost]
      simp [dropEntry, List.filter_filter, Bool.and_comm]

/-- The posting that follows an exit or a FLUSH: at once with an empty FIFO, and left to OUTCOME_POST otherwise (assumption 13). -/
theorem settlePosts_eq {waiting : List (Slot × Entry)} (hnodup : s.table.doneList.Nodup) (hwaiting : Waiting waiting s) :
    let places := if s.verdicts.fifo = [] then 64 - s.queue.records.length else 0
    ∃ counters, Counted (waiting.take places) s.table.counters counters ∧ settlePosts s = postedLine places waiting counters s := by
  intro places
  rcases settlePosts_cases s with ⟨hfifo, e⟩ | ⟨hfifo, e⟩ <;> rw [e]
  · rw [show places = 64 - s.queue.records.length from if_pos hfifo]
    exact serveDone_eq hnodup hwaiting
  · rw [show places = 0 from if_neg hfifo]
    exact ⟨s.table.counters, fun l => by simp, (postedLine_of_idle (.inr rfl)).symm⟩

/-- Settles O44: the refusals, POP as OUTCOME_POST with the place it frees, and the postings. -/
theorem popAndOutcomePostServeTheQueue : Obligations.PopAndOutcomePostServeTheQueue := by
  intro s engine record
  have hpop (r : Report) (rest : List Report) (htaken : s.window.takesWrite 0x0004 = true) (hrecords : s.queue.records = r :: rest) :
      let v : State := serveDone { s with queue := { s.queue with records := rest } }
      exec .pop s = .next { v with engine := engine .accepted, window := s.window.afterWrite } := by
    intro v
    have hcommand : commandPop s = finishCommand 7 .accepted v := by
      unfold commandPop
      rw [hrecords]
    refine congrArg Host.Outcome.next ((hostWrite_effect htaken hcommand (by simp [v])).trans ?_)
    have hengine : v.engine = s.engine := by simp [v]
    rw [finishCommand_eq, hengine]
    rfl
  refine ⟨fun htaken hempty => ?_, fun r rest htaken hrecords hnone => ?_,
    fun r rest htaken hrecords => ⟨_, rfl, hpop r rest htaken hrecords⟩,
    fun hidle => congrArg Host.Outcome.next (serveDone_of_idle s hidle), fun waiting hnodup hwaiting => ?_⟩
  · have hcommand : commandPop s = finishCommand 7 .refusedEmpty s := by
      unfold commandPop
      rw [hempty]
    exact congrArg Host.Outcome.next (hostWrite_effect htaken hcommand rfl)
  · let u : State := { s with queue := { s.queue with records := rest } }
    have hserve : serveDone u = u := serveDone_of_idle u (.inl hnone)
    refine (hpop r rest htaken hrecords).trans (congrArg Host.Outcome.next ?_)
    show { serveDone u with engine := engine .accepted, window := s.window.afterWrite } = _
    rw [hserve]
  · obtain ⟨counters, hcounted, hserved⟩ := serveDone_eq hnodup hwaiting
    exact ⟨counters, hcounted, congrArg Host.Outcome.next hserved⟩

end Sys2Proof.Machine
end

section
set_option Elab.async false
/-! PROOFS. The take of a verdict record (R66 to R74, Table 4-2). -/

namespace Sys2Proof.Machine

variable {s t : State}

/-- R40: of one lane no two entries carry the same tag, so that a record names at most one. -/
theorem namedEntry_eq (hsound : EntriesSound s) {r : VerdictRecord} {slot : Slot} {e : Entry} (hmem : (slot, e) ∈ s.table.entries)
    (hlane : e.lane.val = r.lane.toNat) (htag : e.tag = some r.tag) :
    laneOf r.lane = some e.lane ∧ namedEntry r s = some (slot, e) := by
  have hlaneOf : laneOf r.lane = some e.lane := by
    unfold laneOf
    rw [dif_pos (hlane ▸ e.lane.isLt)]
    exact congrArg some (Fin.ext hlane.symm)
  have hsymm : Std.Symm fun x y : Slot × Entry => x.2.lane = y.2.lane → x.2.tag ≠ none → x.2.tag ≠ y.2.tag :=
    ⟨fun x y h hl hne heq => h hl.symm (heq ▸ hne) heq.symm⟩
  obtain ⟨_, hdistinct, _⟩ := hsound
  refine ⟨hlaneOf, ?_⟩
  unfold namedEntry
  rw [hlaneOf]
  dsimp only
  cases hfound : taggedEntry e.lane r.tag s with
  | none => exact absurd (List.find?_eq_none.1 hfound _ hmem) (by simp [htag])
  | some x =>
    obtain ⟨k, d⟩ := x
    obtain ⟨hmem', hlane', htag'⟩ := taggedEntry_spec hfound
    by_contra hne
    have hother : (slot, e) ≠ (k, d) := fun h => hne (congrArg some h.symm)
    exact hdistinct.forall hmem hmem' hother hlane'.symm (by simp [htag]) (htag.trans htag'.symm)

theorem namedEntry_eq_none {r : VerdictRecord}
    (h : ∀ x ∈ s.table.entries, x.2.lane.val = r.lane.toNat → x.2.tag ≠ some r.tag) : namedEntry r s = none := by
  cases hnamed : namedEntry r s with
  | none => rfl
  | some x =>
    obtain ⟨hmem, hlane, htag⟩ := namedEntry_spec (slot := x.1) (e := x.2) hnamed
    refine absurd htag (h x hmem ?_)
    unfold laneOf at hlane
    split at hlane
    · exact congrArg Fin.val (Option.some.inj hlane).symm
    · cases hlane

/-- A present entry takes a new value: no slot joins or leaves, and the other entries stay (R47, R69). -/
theorem putEntry_present (hwf : s.table.wf = true) {slot : Slot} {d : Entry} (hd : entryAt slot s = some d) (e : Entry) :
    (putEntry slot e s.table.entries).length = s.table.entries.length ∧
    ∀ k, findEntry k (putEntry slot e s.table.entries) = if k = slot then some e else entryAt k s := by
  refine ⟨?_, fun k => findEntry_putEntry slot k e _⟩
  rw [putEntry_of_present hwf hd, List.length_map]

theorem addFlags_of_present {slot : Slot} {e : Entry} (h : entryAt slot s = some e) (f : EntryFlags → EntryFlags) :
    addFlags slot f s = setEntry slot { e with flags := f e.flags } s := by
  rw [addFlags, modifyEntry, h]

/-- The posting that follows a take (R77, assumption 13). -/
theorem exec_verdictTake {r : VerdictRecord} {rest : List VerdictRecord} (hfifo : s.verdicts.fifo = r :: rest) {u : State}
    (hsettle : settleVerdict r { s with verdicts := { s.verdicts with fifo := rest } } = u) (hrest : u.verdicts.fifo = rest) :
    exec .verdictTake s = if rest = [] then exec .outcomePost u else .next u := by
  have htake : takeVerdict s = settlePosts u := by
    rw [takeVerdict, hfifo]
    exact congrArg settlePosts hsettle
  show Host.Outcome.next (takeVerdict s) = _
  rw [htake, settlePosts, hrest]
  cases rest <;> rfl

/-- Table 4-2: the result by the verdict of the entry that the record names. -/
theorem settleVerdict_eq {r : VerdictRecord} {slot : Slot} {e : Entry} (hnamed : namedEntry r s = some (slot, e)) :
    (e.verdict = none → settleVerdict r s =
      if e.state = .tracked then setEntry slot (appliedEntry e r.cls) s else answerLate slot r s) ∧
    ∀ cls, (e.verdict = some { cls := cls, source := .host } → settleVerdict r s = verdictError .verdictDuplicate r s) ∧
      (e.verdict = some { cls := cls, source := .forced } → settleVerdict r s = verdictError .verdictLocked r s) ∧
      (e.verdict = some { cls := cls, source := .laneDefault } → settleVerdict r s = answerLate slot r s) := by
  unfold settleVerdict
  rw [hnamed]
  dsimp only
  refine ⟨fun h => ?_, fun cls => ⟨fun h => ?_, fun h => ?_, fun h => ?_⟩⟩ <;> rw [h]

/-- Settles O42: the lookup, and the results of Table 4-2. -/
theorem verdictRecordIsSettledByItsEntry : Obligations.VerdictRecordIsSettledByItsEntry := by
  intro s htable hentries
  refine ⟨fun hempty => ?_, ?_⟩
  · show Host.Outcome.next (takeVerdict s) = _
    rw [takeVerdict, hempty]
  · intro r rest hfifo taken settled failed
    refine ⟨fun hunknown => ?_, ?_⟩
    · have hnamed : namedEntry r taken = none := namedEntry_eq_none (s := taken) hunknown
      exact exec_verdictTake hfifo (by rw [settleVerdict, hnamed]; rfl) (by simp [failed])
    · intro slot e hmem hlane htag becomes
      obtain ⟨hlaneOf, hnamed⟩ := namedEntry_eq (s := taken) hentries hmem hlane htag
      have hat : entryAt slot taken = some e := entryAt_of_mem (s := s) htable.1 hmem
      have hpresent (e' : Entry) : becomes e' (putEntry slot e' s.table.entries) := putEntry_present (s := s) htable.1 hat e'
      have herror (code : ExceptionCode) (u : State) (hu : u.verdicts = taken.verdicts) (hflags : u.interrupts = s.interrupts)
          (hmotion : u.motion = s.motion) : verdictError code r u = failed code (some e.lane) u := by
        cases u
        cases hu
        cases hflags
        cases hmotion
        rw [verdictError, hlaneOf]
        rfl
      have hlate : answerLate slot r taken = failed .verdictLate (some e.lane) { s with table := { s.table with
          entries := putEntry slot { e with flags := { e.flags with lateVerdict := true } } s.table.entries } } := by
        rw [answerLate, addFlags_of_present hat]
        exact herror .verdictLate (setEntry slot _ taken) rfl rfl rfl
      obtain ⟨hnone, hsome⟩ := settleVerdict_eq hnamed
      refine ⟨fun hv htracked => ⟨_, hpresent _, ?_⟩, fun h => ⟨_, hpresent _, ?_⟩, fun cls hv => ?_, fun cls hv => ?_⟩
      · exact exec_verdictTake hfifo ((hnone hv).trans (if_pos htracked)) rfl
      · refine exec_verdictTake hfifo (Eq.trans ?_ hlate) (by simp [failed])
        rcases h with ⟨hv, hstate⟩ | ⟨cls, hv⟩
        · exact (hnone hv).trans (if_neg hstate)
        · exact (hsome cls).2.2 hv
      · exact exec_verdictTake hfifo (((hsome cls).1 hv).trans (herror _ taken rfl rfl rfl)) (by simp [failed])
      · exact exec_verdictTake hfifo (((hsome cls).2.1 hv).trans (herror _ taken rfl rfl rfl)) (by simp [failed])

end Sys2Proof.Machine
end

section
set_option Elab.async false
/-! PROOFS. FLUSH (R153): every pulse stops, the confirmed live entries retire in belt order behind those in DONE, and the DONE list
is posted. -/

namespace Sys2Proof.Machine

variable {s t : State}

/-! ### The DONE list of a sound table (R56) -/

theorem mem_doneList (htable : TableSound s) {slot : Slot} :
    slot ∈ s.table.doneList ↔ ∃ e, (slot, e) ∈ s.table.entries ∧ e.state = .done := by
  obtain ⟨_, _, hdone, _⟩ := htable
  rw [hdone.mem_iff]
  simp [isLive]

theorem doneList_nodup (htable : TableSound s) : s.table.doneList.Nodup := by
  obtain ⟨hwf, _, hdone, _⟩ := htable
  exact hdone.nodup_iff.2 ((wf_slots_nodup hwf).sublist (List.filter_sublist.map _))

/-- The entries of the DONE list. -/
def waitingOf (s : State) : List (Slot × Entry) := s.table.doneList.filterMap fun slot => (entryAt slot s).map fun e => (slot, e)

theorem waiting_waitingOf (htable : TableSound s) : Waiting (waitingOf s) s := by
  have key : ∀ l : List Slot, (∀ slot ∈ l, ∃ e, entryAt slot s = some e) →
      List.Forall₂ (fun (slot : Slot) (x : Slot × Entry) => x.1 = slot ∧ entryAt slot s = some x.2) l
        (l.filterMap fun slot => (entryAt slot s).map fun e => (slot, e)) := by
    intro l
    induction l with
    | nil => exact fun _ => .nil
    | cons slot l ih =>
      intro h
      obtain ⟨e, he⟩ := h slot List.mem_cons_self
      rw [List.filterMap_cons, he]
      exact .cons ⟨rfl, he⟩ (ih fun k hk => h k (List.mem_cons_of_mem slot hk))
  refine key _ fun slot hslot => ?_
  obtain ⟨e, hmem, _⟩ := (mem_doneList htable).1 hslot
  exact ⟨e, entryAt_of_mem htable.1 hmem⟩

/-! ### The line of a FLUSH before its postings -/

/-- The confirmed live entries in belt order (R53, R58). -/
def abandonedEntries (s : State) : List (Slot × Entry) :=
  sortBy (beltOrder s.motion.h) ((s.table.entries.filter fun x => x.2.state ≠ .opening).filter fun x => isLive x.2)

/-- The table of a FLUSH before its postings (R58). -/
def flushedLine (s : State) : State := { s with table := { s.table with
  entries := (s.table.entries.filter fun x => x.2.state ≠ .opening).map fun x => (x.1, flushedEntry x.2),
  laneList := Vector.replicate 4 [],
  doneList := s.table.doneList ++ (abandonedEntries s).map (·.1) } }

theorem mem_abandonedEntries {x : Slot × Entry} : x ∈ abandonedEntries s ↔
    x ∈ s.table.entries ∧ x.2.state ≠ .opening ∧ isLive x.2 = true := by
  rw [abandonedEntries, (sortBy_perm _ _).mem_iff]
  simp [and_comm]

theorem entryAt_flushedLine (hwf : s.table.wf = true) {slot : Slot} {e : Entry} : entryAt slot (flushedLine s) = some e ↔
    ∃ d, (slot, d) ∈ s.table.entries ∧ d.state ≠ .opening ∧ e = flushedEntry d := by
  refine (findEntry_eq_some_iff (flushedEntries_rising hwf) slot e).trans ⟨fun h => ?_, ?_⟩
  · obtain ⟨⟨k, d⟩, hx, heq⟩ := List.mem_map.1 h
    obtain ⟨rfl, rfl⟩ := Prod.mk.inj heq
    obtain ⟨hmem, hstate⟩ := List.mem_filter.1 hx
    exact ⟨d, hmem, of_decide_eq_true hstate, rfl⟩
  · rintro ⟨d, hmem, hstate, rfl⟩
    exact List.mem_map.2 ⟨(slot, d), List.mem_filter.2 ⟨hmem, decide_eq_true hstate⟩, rfl⟩

/-- The entries that wait in the DONE list once a FLUSH has retired the confirmed live entries behind them. -/
def flushWaiting (s : State) : List (Slot × Entry) :=
  waitingOf s ++ (abandonedEntries s).map fun x => (x.1, flushedEntry x.2)

theorem flushedEntry_of_done {e : Entry} (h : e.state = .done) : flushedEntry e = e := by
  simp [flushedEntry, isLive, h]

theorem waiting_flushedLine (htable : TableSound s) : Waiting (flushWaiting s) (flushedLine s) := by
  have hwf : s.table.wf = true := htable.1
  refine List.rel_append ?_ ?_
  · have hdone : List.Forall₂ (fun (slot : Slot) (x : Slot × Entry) => slot ∈ s.table.doneList ∧ x.1 = slot ∧ entryAt slot s = some x.2)
        s.table.doneList (waitingOf s) := (List.forall₂_and_left _ _).2 ⟨fun _ h => h, waiting_waitingOf htable⟩
    refine hdone.imp fun slot x ⟨hslot, hx, he⟩ => ⟨hx, ?_⟩
    obtain ⟨e, hmem, hstate⟩ := (mem_doneList htable).1 hslot
    obtain rfl : e = x.2 := Option.some.inj ((entryAt_of_mem hwf hmem).symm.trans he)
    exact (entryAt_flushedLine hwf).2 ⟨x.2, hmem, by simp [hstate], (flushedEntry_of_done hstate).symm⟩
  · rw [List.forall₂_map_left_iff, List.forall₂_map_right_iff, List.forall₂_same]
    intro x hx
    obtain ⟨hmem, hstate, _⟩ := mem_abandonedEntries.1 hx
    exact ⟨rfl, (entryAt_flushedLine hwf).2 ⟨x.2, hmem, hstate, rfl⟩⟩

theorem flushedLine_doneList_nodup (htable : TableSound s) : (flushedLine s).table.doneList.Nodup := by
  refine List.nodup_append'.2 ⟨doneList_nodup htable, ?_, ?_⟩
  · refine ((sortBy_perm _ _).map Prod.fst).nodup_iff.2 ?_
    rw [List.filter_filter]
    exact (wf_slots_nodup htable.1).sublist (List.filter_sublist.map _)
  · intro slot hdone hlive
    obtain ⟨e, hmem, hstate⟩ := (mem_doneList htable).1 hdone
    obtain ⟨⟨k, d⟩, hx, rfl⟩ := List.mem_map.1 hlive
    obtain ⟨hmem', _, hisLive⟩ := mem_abandonedEntries.1 hx
    obtain rfl : e = d := Option.some.inj ((entryAt_of_mem htable.1 hmem).symm.trans (entryAt_of_mem htable.1 hmem'))
    simp [isLive, hstate] at hisLive

theorem Waiting.slots {w : List (Slot × Entry)} (h : Waiting w s) : w.map (·.1) = s.table.doneList := by
  have hslots : List.Forall₂ (fun (slot : Slot) (x : Slot × Entry) => slot = x.1) s.table.doneList w :=
    h.imp fun _ _ hx => hx.1.symm
  exact (List.forall₂_eq_eq_eq ▸ List.forall₂_map_right_iff.2 hslots : s.table.doneList = w.map (·.1)).symm

theorem Waiting.entryAt {w : List (Slot × Entry)} (h : Waiting w s) {x : Slot × Entry} (hx : x ∈ w) :
    entryAt x.1 s = some x.2 := by
  have hentries : List.Forall₂ (fun (x : Slot × Entry) (_ : Slot) => Machine.entryAt x.1 s = some x.2 ∧ True) w s.table.doneList :=
    List.Forall₂.flip (h.imp fun _ _ ⟨hslot, he⟩ => ⟨hslot ▸ he, trivial⟩)
  exact ((List.forall₂_and_left _ _).1 hentries).1 x hx

/-- Behind a FLUSH every entry that is left waits in the DONE list. -/
theorem mem_flushWaiting (htable : TableSound s) {slot : Slot} {e : Entry} :
    (slot, e) ∈ flushWaiting s ↔ entryAt slot (flushedLine s) = some e := by
  have hwaiting := waiting_flushedLine htable
  refine ⟨fun h => hwaiting.entryAt h, fun h => ?_⟩
  obtain ⟨d, hmem, hstate, _⟩ := (entryAt_flushedLine htable.1).1 h
  have hdone : slot ∈ (flushedLine s).table.doneList := by
    refine List.mem_append.2 ?_
    by_cases hlive : isLive d = true
    · exact .inr (List.mem_map_of_mem (f := Prod.fst) (mem_abandonedEntries.2 ⟨hmem, hstate, hlive⟩))
    · exact .inl ((mem_doneList htable).2 ⟨d, hmem, by simpa [isLive] using hlive⟩)
  rw [← hwaiting.slots] at hdone
  obtain ⟨x, hx, rfl⟩ := List.mem_map.1 hdone
  obtain rfl : x.2 = e := Option.some.inj ((hwaiting.entryAt hx).symm.trans h)
  exact hx

/-! ### Entries by their slots -/

theorem find?_slot_eq_some {l : List (Slot × Entry)} (hnodup : (l.map (·.1)).Nodup) {slot : Slot} {e : Entry} :
    (l.find? fun x => x.1 = slot).map (·.2) = some e ↔ (slot, e) ∈ l := by
  induction l with
  | nil => simp
  | cons x l ih =>
    obtain ⟨k, d⟩ := x
    obtain ⟨hk, hnodup⟩ := List.nodup_cons.1 hnodup
    by_cases hslot : k = slot
    · subst hslot
      have hout : (k, e) ∉ l := fun h => hk (List.mem_map.2 ⟨_, h, rfl⟩)
      simp [hout, eq_comm]
    · have hne : (slot, e) ≠ (k, d) := fun h => hslot (congrArg Prod.fst h).symm
      simp [hslot, hne, ← ih hnodup]

theorem findEntry_filter (p : Slot → Bool) (slot : Slot) (l : List (Slot × Entry)) :
    findEntry slot (l.filter fun x => p x.1) = if p slot then findEntry slot l else none := by
  induction l with
  | nil => simp [findEntry]
  | cons x l ih =>
    obtain ⟨k, d⟩ := x
    by_cases hk : k = slot
    · subst hk
      cases hp : p k <;> simp [hp, findEntry, ih]
    · cases hp : p k <;> simp [hp, findEntry, ih, hk]

/-- The entries that are left once the first of the entries that wait have been posted. -/
theorem entryAt_postedLine {waiting : List (Slot × Entry)} (hnodup : (waiting.map (·.1)).Nodup)
    (hall : ∀ slot e, (slot, e) ∈ waiting ↔ entryAt slot s = some e) (places : Nat) (counters : Vector LaneCounters 4) (slot : Slot) :
    entryAt slot (postedLine places waiting counters s) = ((waiting.drop places).find? fun x => x.1 = slot).map (·.2) := by
  have hentry : entryAt slot (postedLine places waiting counters s) =
      if slot ∈ (waiting.take places).map (·.1) then none else entryAt slot s := by
    refine (findEntry_filter (fun k => !((waiting.take places).map (·.1)).contains k) slot s.table.entries).trans ?_
    by_cases h : slot ∈ (waiting.take places).map (·.1)
    · rw [if_pos h, if_neg (by simpa using h)]
    · rw [if_neg h, if_pos (by simpa using h)]
      rfl
  have hsplit : (waiting.take places).map (·.1) ++ (waiting.drop places).map (·.1) = waiting.map (·.1) := by
    rw [← List.map_append, List.take_append_drop]
  rw [← hsplit] at hnodup
  obtain ⟨_, hdrop, hdisjoint⟩ := List.nodup_append'.1 hnodup
  refine Option.ext fun e => ?_
  rw [hentry, find?_slot_eq_some hdrop]
  have hmem : (slot, e) ∈ waiting ↔ (slot, e) ∈ waiting.take places ∨ (slot, e) ∈ waiting.drop places := by
    rw [← List.mem_append, List.take_append_drop]
  by_cases h : slot ∈ (waiting.take places).map (·.1)
  · have hout : (slot, e) ∉ waiting.drop places := fun hin => hdisjoint h (List.mem_map.2 ⟨_, hin, rfl⟩)
    rw [if_pos h, iff_false_right hout]
    simp
  · have hout : (slot, e) ∉ waiting.take places := fun hin => h (List.mem_map.2 ⟨_, hin, rfl⟩)
    rw [if_neg h, ← hall, hmem, or_iff_right hout]

/-! ### The obligation -/

theorem beltOrder_iff (h : Word) (x y : Slot × Entry) : beltOrder h x y = true ↔
    (h - y.2.leading).toNat < (h - x.2.leading).toNat ∨
      (h - x.2.leading).toNat = (h - y.2.leading).toNat ∧ x.2.lane ≤ y.2.lane := by
  simp only [beltOrder, Bool.or_eq_true, Bool.and_eq_true, decide_eq_true_eq, beq_iff_eq, BitVec.toNat_inj]

/-- R53: the entries of a FLUSH or of an advance are in belt order. -/
theorem sortBy_beltOrder (h : Word) (l : List (Slot × Entry)) :
    (sortBy (beltOrder h) l).Pairwise fun x y => beltOrder h x y = true :=
  sortBy_pairwise (fun x y => by simp only [beltOrder_iff, Fin.le_def]; omega)
    (fun x y z => by simp only [beltOrder_iff, Fin.le_def]; omega) l

theorem flushSchedule_channel (hsound : ChannelsSound s) (n : Channel) :
    (flushSchedule s).channels[n] = stoppedChannel s.motion.tick (activeAction n s) s.channels[n] := by
  rw [← find?_isActive]
  exact foldl_stopPulse_channels (step := fun s a => stopPulse a s) (fun _ _ => ⟨rfl, rfl⟩) n
    ((countP_isActive n s).trans_le (hsound.activeCount_le n)) s

/-- Settles O39: FLUSH in STOPPED, and block by block out of STOPPED. -/
theorem flushEmptiesTheLine : Obligations.FlushEmptiesTheLine := by
  refine ⟨fun s htaken hstopped => ?_, ?_⟩
  · exact congrArg Host.Outcome.next (hostWrite_effect (u := finishCommand 4 .accepted s) htaken (if_pos hstopped) rfl)
  · intro s hsound htaken hstate behind abandon
    let u : State := flushSchedule s
    have htable : TableSound u := by
      have htable := hsound.table
      simp only [TableSound, openingCount, detectorOf, u, flushSchedule_table, flushSchedule_detectors] at htable ⊢
      exact htable
    have hwaiting := waiting_flushedLine htable
    obtain ⟨counters, hcounted, hposted⟩ := settlePosts_eq (flushedLine_doneList_nodup htable) hwaiting
    let t : State := finishCommand 4 .accepted (flushLine s)
    have hexec : exec .flush s = .next { t with window := s.window.afterWrite } :=
      congrArg Host.Outcome.next (hostWrite_effect (u := t) htaken (if_neg hstate) (by simp [t, flushLine]))
    have hflush : flushLine s = enterStopped (detectorsFromInputs (settlePosts (flushedLine u))) := rfl
    have hout : waitingOf u ++ (abandonedEntries u).map (fun x => (x.1, abandon x.2)) = flushWaiting u := by
      refine congrArg (waitingOf u ++ ·) (List.map_congr_left fun x hx => ?_)
      rw [flushedEntry, if_pos (mem_abandonedEntries.1 hx).2.2]
    have hqueue : (flushedLine u).queue = s.queue := flushSchedule_queue s
    have hfifo : (flushedLine u).verdicts = s.verdicts := flushSchedule_verdicts s
    rw [hfifo, hqueue] at hcounted hposted
    have hu : u.table = s.table := flushSchedule_table s
    have htable' : t.table = (settlePosts (flushedLine u)).table := by
      simp only [t, hflush, finishCommand_table, enterStopped_table, detectorsFromInputs_table]
    refine ⟨_, abandonedEntries u, waitingOf u, hexec, ?perm, ?belt, ?waiting, ?posted, ?laneLists, ?inspection, ?schedule,
      fun n => ?channels, ?enabled, fun l => ?detectors, ?engine, ?interrupts, ?motion, ?det, ?verdicts, ?epochUnit, rfl⟩
    case perm =>
      refine (sortBy_perm _ _).trans ?_
      rw [List.filter_filter, flushSchedule_table]
      simp only [Bool.and_comm]
      exact .refl _
    case belt =>
      rw [abandonedEntries, show u.motion = s.motion from flushSchedule_motion s]
      exact (sortBy_beltOrder s.motion.h _).imp fun h => (beltOrder_iff _ _ _).1 h
    case waiting => simpa only [Waiting, entryAt, u, flushSchedule_table] using waiting_waitingOf htable
    case posted =>
      rw [hout]
      intro out places
      have hqueue' : t.queue = (postedLine places (flushWaiting u) counters (flushedLine u)).queue := by
        simp only [t, hflush, finishCommand_queue, enterStopped_queue, detectorsFromInputs_queue, hposted]
        rfl
      refine ⟨hqueue'.trans ?_, ?_, fun slot => ?_, fun l => ?_⟩
      · rw [postedLine, hqueue]
      · show t.table.doneList = _
        rw [htable', hposted, postedLine]
        exact (congrArg (List.drop places) hwaiting.slots.symm).trans (List.map_drop ..).symm
      · show findEntry slot t.table.entries = _
        rw [htable', hposted]
        exact entryAt_postedLine (hwaiting.slots ▸ flushedLine_doneList_nodup htable) (fun _ _ => mem_flushWaiting htable) places
          counters slot
      · show t.table.counters[l] = _
        rw [htable', hposted, ← hu]
        exact hcounted l
    case laneLists =>
      intro l
      show t.table.laneList[l] = _
      rw [htable', hposted]
      exact Vector.getElem_replicate l.isLt
    case inspection =>
      show t.table.inspection = _
      rw [htable', hposted, ← hu]
      rfl
    case channels =>
      have hchannels : t.channels = (flushSchedule s).channels := by simp [t, flushLine]
      show t.channels[n] = _
      rw [hchannels, flushSchedule_channel hsound.channels]
      cases activeAction n s <;> rfl
    case detectors =>
      have hfrom : detectorOf l t = { detectorOf l (detectorsFromInputs (settlePosts (flushedLine u))) with edge := none } :=
        detectorOf_discardEdges _ l
      refine hfrom.trans ?_
      have hunit : (settlePosts (flushedLine u)).epochUnit = s.epochUnit := by simp [flushedLine, u]
      rw [detectorsFromInputs_eq (s := s) l (by simp [flushedLine, u]) (by simp [flushedLine, u]) (currentBank_congr hunit)]
    case interrupts =>
      show t.interrupts = _
      simp [t, hflush, finishCommand_eq, settlePosts_interrupts, flushedLine, u]
    case enabled =>
      have henabled := (commandFlush_effects (sound := False) trivial s).settingsKept.1
      rw [show commandFlush s = t from if_neg hstate] at henabled
      exact henabled
    case schedule =>
      have hschedule : t.schedule = (flushSchedule s).schedule := by simp [t, flushLine]
      exact hschedule
    all_goals simp [t, flushLine, finishCommand_eq]

end Sys2Proof.Machine
end

section
set_option Elab.async false
/-! PROOFS. The data bytes written: every write command is a register write (R172), the access classes of the address map, the LIVE
settings, and the verdict port (R63, R64, R65, R88, R89, R165). -/

namespace Sys2Proof.Machine

variable {s t : State}

/-! ### Taken and refused bytes -/

/-- A byte that is refused sets ACCESS_ERR and the last refused address, and changes nothing else (R172, R173). -/
theorem hostWrite_refused {a : Addr} {effect : State → State} (htaken : s.window.takesWrite a = true)
    (heffect : effect s = refuseAccess a s) : hostWrite a effect s = { s with
      interrupts := { s.interrupts with sticky := s.interrupts.sticky ||| Flag.accessErr.bit },
      window := ({ s.window with lastRefused := a }).afterWrite } := by
  rw [hostWrite_taken s a effect htaken (by rw [heffect]; rfl), heffect]
  rfl

theorem writeAddress_unmapped {a : Addr} (v : Byte) (h : accessClass (target a) = .unmapped) : writeAddress a v s = refuseAccess a s := by
  unfold writeAddress
  cases htarget : target a <;> simp_all [accessClass]

theorem writeCommand_refused {v : Byte} (h : v = 0 ∨ 7 < v.toNat) : writeCommand v s = refuseAccess 0x0004 s := by
  have hcode (k : Byte) (hk : 1 ≤ k.toNat ∧ k.toNat ≤ 7) : v ≠ k := by
    rintro rfl
    rcases h with rfl | h
    · simp at hk
    · omega
  unfold writeCommand
  rw [if_neg (hcode 1 (by decide)), if_neg (hcode 2 (by decide)), if_neg (hcode 3 (by decide)), if_neg (hcode 4 (by decide)),
    if_neg (hcode 5 (by decide)), if_neg (hcode 6 (by decide)), if_neg (hcode 7 (by decide))]

/-! ### The access classes (Tables 10-4, 5-4, 7-2 and 9-2) -/

section Pages

variable (off : Nat)

theorem accessClass_page00 : ∀ off < 256, accessClass (page00 off) =
    if off ≤ 0x02 ∨ 0x05 ≤ off ∧ off ≤ 0x13 ∨ off = 0x18 ∨ off = 0x19 then .readOnly
    else if off = 0x04 ∨ 0x14 ≤ off ∧ off ≤ 0x17 then .live else .unmapped := by decide +kernel

theorem accessClass_page01 : accessClass (page01 off) =
    if off ≤ 0x0A then .readOnly else if 0x0C ≤ off ∧ off ≤ 0x10 then .stoppedOnly else .unmapped := by
  unfold page01
  split_ifs <;> simp only [accessClass, reduceCtorEq] <;> omega

theorem accessClass_page02 : ∀ off < 256, accessClass (page02 off) =
    if off ≤ 0x01 then .live else if off ≤ 0x09 then .readOnly
    else if 0x0C ≤ off ∧ off ≤ 0x0F ∨ 0x80 ≤ off ∧ off % 32 < 18 then .staged else .unmapped := by decide +kernel

theorem accessClass_page03 : accessClass (page03 off) = if off ≤ 0x3F then .stoppedOnly else .unmapped := by
  unfold page03
  split_ifs <;> simp only [accessClass, reduceCtorEq] <;> omega

theorem accessClass_page04 : accessClass (page04 off) = if off % 16 < 12 then .staged else .unmapped := by
  unfold page04
  split_ifs <;> rfl

theorem accessClass_page05 : accessClass (page05 off) =
    if off ≤ 0x03 then .live else if off = 0x04 ∨ off = 0x06 ∨ off = 0x07 then .readOnly else .unmapped := by
  unfold page05
  split_ifs <;> simp only [accessClass, reduceCtorEq] <;> omega

theorem accessClass_page06 : accessClass (page06 off) =
    if off = 0x11 then .live else if off ≤ 0x13 then .readOnly else .unmapped := by
  unfold page06
  split_ifs <;> simp only [accessClass, reduceCtorEq] <;> omega

theorem accessClass_page07 : accessClass (page07 off) = if off ≤ 0x2F then .readOnly else .unmapped := by
  unfold page07
  split_ifs <;> simp only [accessClass, reduceCtorEq] <;> omega

theorem accessClass_page08 : accessClass (page08 off) =
    if off = 0x00 then .live else if 0x10 ≤ off ∧ off ≤ 0x25 then .readOnly else .unmapped := by
  unfold page08
  split_ifs <;> simp only [accessClass, reduceCtorEq] <;> omega

end Pages

/-! ### The obligations -/

/-- Settles O46: the byte of a command's own row is the byte at its address, and RESUME's own row with no lane named is too. -/
theorem everyWriteIsADataByte : Obligations.EveryWriteIsADataByte := by
  intro c a v s hbyte
  rcases exec_of_byteWritten s hbyte with hexec | ⟨first, rfl, rfl, rfl⟩
  · exact ⟨fun _ => hexec, fun hnot => hexec.trans (congrArg Host.Outcome.next (hostWrite_not_taken s a _ hnot))⟩
  · refine ⟨fun hfirst => ?_, fun hnot => congrArg Host.Outcome.next (hostWrite_not_taken s _ _ hnot)⟩
    obtain rfl := hfirst first rfl
    rfl

/-- Settles O47: the refusals by class, and the class of every address page by page. -/
theorem refusedWriteChangesNothingElse : Obligations.RefusedWriteChangesNothingElse := by
  refine ⟨fun a v s htaken hclass => congrArg Host.Outcome.next (hostWrite_refused htaken ?_), ?_⟩
  · rcases hclass with h | h | ⟨rfl, h⟩
    · exact writeAddress_readOnly s v h
    · exact writeAddress_unmapped v h
    · exact writeCommand_refused h
  · intro a off
    have hoff : off < 256 := Nat.mod_lt _ (by decide)
    unfold target
    match hpage : a.toNat / 256 with
    | 0 => exact accessClass_page00 off hoff
    | 1 => exact accessClass_page01 off
    | 2 => exact accessClass_page02 off hoff
    | 3 => exact accessClass_page03 off
    | 4 => exact accessClass_page04 off
    | 5 => exact accessClass_page05 off
    | 6 => exact accessClass_page06 off
    | 7 => exact accessClass_page07 off
    | 8 => exact accessClass_page08 off
    | k + 9 => simp [accessClass]

/-- A bit written as a byte. -/
theorem byte_le_one {v : Byte} (h : v.toNat ≤ 1) : v = 0 ∨ v = 1 := by bv_omega

/-- Settles O49: each LIVE setting by the values it takes. -/
theorem liveSettingsTakeTheirValues : Obligations.LiveSettingsTakeTheirValues := by
  intro v s refused
  refine ⟨fun htaken => ⟨fun hv => ?_, fun hv => ?_⟩, fun htaken => ⟨fun hv => ?_, fun hv => ?_⟩,
    fun htaken => ⟨fun hv => ?_, fun hv => ?_⟩, fun htaken => ?_⟩
  · refine congrArg Host.Outcome.next (hostWrite_effect htaken
      (u := { s with epochUnit := { s.epochUnit with hold := v.getLsbD 0 } }) ((if_pos hv).trans ?_) rfl)
    rcases byte_le_one hv with rfl | rfl <;> rfl
  · exact congrArg Host.Outcome.next (hostWrite_refused htaken (if_neg (Nat.not_le.2 hv)))
  · refine congrArg Host.Outcome.next (hostWrite_effect htaken
      (u := { s with epochUnit := { s.epochUnit with view := if v = 0 then .shadow else .active } }) ((if_pos hv).trans ?_) rfl)
    rcases byte_le_one hv with rfl | rfl <;> rfl
  · exact congrArg Host.Outcome.next (hostWrite_refused htaken (if_neg (Nat.not_le.2 hv)))
  · exact congrArg Host.Outcome.next
      (hostWrite_effect htaken (u := { s with queue := { s.queue with threshold := v } }) (if_pos hv) rfl)
  · exact congrArg Host.Outcome.next (hostWrite_refused htaken (if_neg (by omega)))
  · have hslot : (⟨v.toNat, v.isLt⟩ : Slot) = Fin.ofNat 256 v.toNat := Fin.ext (Nat.mod_eq_of_lt v.isLt).symm
    refine congrArg Host.Outcome.next (hostWrite_effect htaken (u := inspect (Fin.ofNat 256 v.toNat) s) ?_ rfl |>.trans ?_)
    · rw [writeInspection, hslot]
    · simp only [inspect, pendingCount, List.countP_eq_length_filter]

/-- Settles O41: the class byte by its value and the room in the FIFO, and the three staging bytes. -/
theorem classBytePushesARecord : Obligations.ClassBytePushesARecord := by
  intro v s refused
  have hclass (hv : v.toNat ≤ 7) :
      writeClass v s = pushVerdict { s with verdicts := { s.verdicts with classByte := v.setWidth 3 } } := if_pos hv
  refine ⟨fun htaken hv hroom => ?_, fun htaken hv hfull => ?_, fun htaken hv => ?_, fun htaken => ?_, fun htaken => ?_, fun htaken => ?_⟩
  · refine congrArg Host.Outcome.next ((hostWrite_effect htaken (hclass hv) ?_).trans ?_) <;>
      rw [pushVerdict, if_pos (show s.verdicts.fifo.length < 16 from hroom)]
    rfl
  · refine congrArg Host.Outcome.next ((hostWrite_effect htaken (hclass hv) ?_).trans ?_) <;>
      rw [pushVerdict, if_neg (show ¬ s.verdicts.fifo.length < 16 from Nat.not_lt.2 hfull)] <;> rfl
  · exact congrArg Host.Outcome.next (hostWrite_refused htaken (if_neg (Nat.not_le.2 hv)))
  · exact congrArg Host.Outcome.next (hostWrite_effect htaken (u := { s with verdicts := { s.verdicts with laneByte := v } }) rfl rfl)
  · exact congrArg Host.Outcome.next (hostWrite_effect htaken (u := { s with verdicts := { s.verdicts with tagLow := v } }) rfl rfl)
  · exact congrArg Host.Outcome.next (hostWrite_effect htaken (u := { s with verdicts := { s.verdicts with tagHigh := v } }) rfl rfl)

end Sys2Proof.Machine
end

section
set_option Elab.async false
/-! PROOFS. The STOPPED-only settings (R4, R21, R127, R172): refused out of STOPPED, and taken in STOPPED. -/

namespace Sys2Proof.Machine

variable {s t : State}

/-- Table 10-4, Table 7-2: the STOPPED-only addresses. -/
theorem stoppedOnly_address {a : Addr} (h : accessClass (target a) = .stoppedOnly) :
    (a = 0x010C ∨ a = 0x010D ∨ a = 0x010E ∨ a = 0x010F ∨ a = 0x0110) ∨ ∃ n which, a = configAddress n which := by
  have hpage : a.toNat / 256 = 1 ∧ 0x0C ≤ a.toNat % 256 ∧ a.toNat % 256 ≤ 0x10 ∨ a.toNat / 256 = 3 ∧ a.toNat % 256 ≤ 0x3F := by
    have hclass := refusedWriteChangesNothingElse.2 a
    rw [h] at hclass
    dsimp only at hclass
    split at hclass <;> grind
  rcases hpage with ⟨hpage, hlow, hhigh⟩ | ⟨hpage, hoff⟩
  · left
    bv_omega
  · right
    refine ⟨Fin.ofNat 16 (a.toNat % 256 / 4), configByteOf (a.toNat % 4), BitVec.eq_of_toNat_eq ?_⟩
    have hlt := a.isLt
    have hbyte : configOffset (configByteOf (a.toNat % 4)) = a.toNat % 4 := by
      have key : ∀ k < 4, configOffset (configByteOf k) = k := by decide
      exact key _ (Nat.mod_lt _ (by decide))
    rw [configAddress, hbyte, BitVec.toNat_ofNat]
    simp only [Fin.ofNat_eq_cast, Fin.val_natCast]
    omega

/-- R172: out of STOPPED a write of a STOPPED-only setting is refused. -/
theorem writeAddress_not_stopped {a : Addr} (v : Byte) (hstate : s.engine.state ≠ .stopped)
    (hclass : accessClass (target a) = .stoppedOnly) : writeAddress a v s = refuseAccess a s := by
  rcases stoppedOnly_address hclass with (rfl | rfl | rfl | rfl | rfl) | ⟨n, which, rfl⟩
  · exact if_neg hstate
  · exact if_neg hstate
  · exact if_neg hstate
  · exact if_neg hstate
  · exact if_neg hstate
  · rw [writeAddress, target_configAddress]
    exact if_neg hstate

theorem byte_eq_ofNat {v : Byte} {k : Nat} (h : v.toNat = k) : v = BitVec.ofNat 8 k := by
  rw [← h, BitVec.ofNat_toNat, BitVec.setWidth_eq]

theorem channelModeOf_eq_none {v : Byte} (h : 4 ≤ v.toNat) : channelModeOf v = none := by
  have hcode (k : Byte) (hk : k.toNat < 4) : v ≠ k := fun heq => absurd (heq ▸ hk) (Nat.not_lt.2 h)
  rw [channelModeOf, if_neg (hcode 0 (by decide)), if_neg (hcode 1 (by decide)), if_neg (hcode 2 (by decide)),
    if_neg (hcode 3 (by decide))]

theorem decodeModeOf_eq_none {v : Byte} (h : 3 ≤ v.toNat) : decodeModeOf v = none := by
  have hcode (k : Byte) (hk : k.toNat < 3) : v ≠ k := fun heq => absurd (heq ▸ hk) (Nat.not_lt.2 h)
  rw [decodeModeOf, if_neg (hcode 0 (by decide)), if_neg (hcode 1 (by decide)), if_neg (hcode 2 (by decide))]

/-! ### The lane enable mask (R21) -/

/-- A lane that a mask disables goes to CLEAR with nothing held. -/
def maskLane (mask : BitVec 4) (s : State) (l : Lane) : State :=
  if inMask mask l.val then s else modifyDetector l (fun d => { d with state := .clear, edge := none, gap := none }) s

theorem detectorOf_maskLane (mask : BitVec 4) (s : State) (k l : Lane) : detectorOf l (maskLane mask s k) =
    if k = l ∧ mask.getLsbD l.val = false then { detectorOf l s with state := .clear, edge := none, gap := none }
    else detectorOf l s := by
  unfold maskLane inMask
  by_cases hk : k = l
  · subst hk
    cases hmask : mask.getLsbD k.val <;> simp [-BitVec.getLsbD_eq_getElem]
  · split <;> simp [hk]

theorem foldl_maskLane (mask : BitVec 4) (lanes : List Lane) (s : State) :
    (∀ l, detectorOf l (lanes.foldl (maskLane mask) s) =
      if l ∈ lanes ∧ mask.getLsbD l.val = false then { detectorOf l s with state := .clear, edge := none, gap := none }
      else detectorOf l s) ∧
    lanes.foldl (maskLane mask) s =
      { s with detectors := { s.detectors with lane := (lanes.foldl (maskLane mask) s).detectors.lane } } := by
  induction lanes generalizing s with
  | nil => exact ⟨fun l => by simp, rfl⟩
  | cons k lanes ih =>
    obtain ⟨hdetectors, hframe⟩ := ih (maskLane mask s k)
    refine ⟨fun l => ?_, ?_⟩
    · rw [List.foldl_cons, hdetectors l, detectorOf_maskLane]
      by_cases hk : k = l
      · subst hk
        cases hmask : mask.getLsbD k.val <;> simp [-BitVec.getLsbD_eq_getElem]
      · simp [hk, Ne.symm hk]
    · rw [List.foldl_cons, hframe]
      unfold maskLane
      split <;> rfl

/-- Settles O52: each setting out of STOPPED, and in STOPPED by the values it takes. -/
theorem stoppedOnlyWritesTakeEffectInStopped : Obligations.StoppedOnlyWritesTakeEffectInStopped := by
  refine ⟨?_, ?_⟩
  · intro v n which s refused cfg configured address
    have haddress : address = configAddress n which := by cases which <;> rfl
    refine ⟨fun a hstate hclass htaken => ?_, fun hstopped htaken => ?_, fun hstopped htaken => ?_⟩
    · have hrefused : exec (.registerWrite a v) s = .next (refused a) :=
        congrArg Host.Outcome.next (hostWrite_refused htaken (writeAddress_not_stopped v hstate hclass))
      refine ⟨hrefused, fun ha => ?_, fun ha => ?_⟩
      · subst ha
        exact hrefused
      · rw [haddress] at ha
        subst ha
        exact (everyWriteIsADataByte (.channelConfigurationWrite n which v) _ v s rfl).1 (by simp) |>.trans hrefused
    · obtain ⟨hdetectors, hframe⟩ := foldl_maskLane (v.setWidth 4) allLanes
        { s with detectors := { s.detectors with enabled := v.setWidth 4 } }
      refine ⟨_, congrArg Host.Outcome.next (hostWrite_effect htaken ((if_pos hstopped).trans hframe) rfl), fun l => ?_, rfl⟩
      refine (hdetectors l).trans ?_
      have hbit : (v.setWidth 4).getLsbD l.val = v.getLsbD l.val := by
        rw [BitVec.getLsbD_setWidth, decide_eq_true l.isLt, Bool.true_and]
      have hin : l ∈ allLanes := List.mem_finRange l
      rw [hbit]
      cases v.getLsbD l.val <;> simp [hin, detectorOf]
    · have hsome {c : ChannelConfig} (h : Machine.configured which v cfg = some c) :
          exec (.channelConfigurationWrite n which v) s = .next (configured c) := by
        refine congrArg Host.Outcome.next (hostWrite_effect (haddress ▸ htaken)
          (u := { s with channels := s.channels.set n { s.channels[n] with config := c } }) ((if_pos hstopped).trans ?_) rfl)
        rw [h]
        rfl
      have hnone (h : Machine.configured which v cfg = none) :
          exec (.channelConfigurationWrite n which v) s = .next (refused address) := by
        rw [haddress] at htaken ⊢
        refine congrArg Host.Outcome.next (hostWrite_refused htaken ((if_pos hstopped).trans ?_))
        rw [h]
      cases which with
      | mode =>
        match hv : v.toNat with
        | 0 | 1 | 2 | 3 =>
          obtain rfl := byte_eq_ofNat hv
          exact hsome rfl
        | k + 4 => exact hnone (by simp [Machine.configured, channelModeOf_eq_none (v := v) (by omega)])
      | lane =>
        dsimp only
        by_cases hv : v.toNat < 4
        · rw [dif_pos hv]
          exact hsome (by simp [Machine.configured, laneOf, hv])
        · rw [dif_neg hv]
          exact hnone (by simp [Machine.configured, laneOf, hv])
      | activeLevel => exact hsome rfl
      | widthUnit => exact hsome rfl
  · intro v s hstopped refused taken
    have hmode (htaken : s.window.takesWrite 0x010C = true) {m : DecodeMode} (h : decodeModeOf v = some m) :
        exec (.registerWrite 0x010C v) s = .next (taken { s.motion with decodeMode := m }) := by
      refine congrArg Host.Outcome.next (hostWrite_effect htaken (u := { s with motion := { s.motion with decodeMode := m } })
        ((if_pos hstopped).trans ?_) rfl)
      rw [h]
    refine ⟨fun htaken => ?_, fun htaken => ?_, fun htaken => ?_, fun htaken => ?_⟩
    · match hv : v.toNat with
      | 0 | 1 | 2 =>
        obtain rfl := byte_eq_ofNat hv
        exact hmode htaken rfl
      | k + 3 =>
        refine congrArg Host.Outcome.next (hostWrite_refused htaken ((if_pos hstopped).trans ?_))
        rw [decodeModeOf_eq_none (v := v) (by omega)]
    · exact congrArg Host.Outcome.next (hostWrite_effect htaken (u := { s with motion := { s.motion with invert := v.getLsbD 0 } })
        (if_pos hstopped) rfl)
    · exact congrArg Host.Outcome.next (hostWrite_effect htaken (u := { s with motion := { s.motion with backlash := v } })
        (if_pos hstopped) rfl)
    · by_cases hv : 15 < v.toNat
      · rw [if_pos hv]
        exact congrArg Host.Outcome.next (hostWrite_refused htaken ((if_pos hstopped).trans (if_neg (Nat.not_le.2 hv))))
      · rw [if_neg hv]
        exact congrArg Host.Outcome.next (hostWrite_effect htaken
          (u := { s with motion := { s.motion with phaseLimit := if v = 0 then 1 else v.setWidth 4 } })
          ((if_pos hstopped).trans (if_pos (Nat.le_of_not_lt hv))) rfl)

end Sys2Proof.Machine
end

section
set_option Elab.async false
/-! PROOFS. The frame of the register window (R170, R171), and the snapshot that a read takes (R174). -/

namespace Sys2Proof.Machine

variable {s t : State}

/-! ### The read of a byte (R171, R174) -/

/-- A fresh copy of one quantity leaves the snapshots of the others. -/
theorem snapshotByte_copyQuantity_of_ne {q r : Quantity} (h : r ≠ q) (j : Nat) (s : State) (x : Snapshots) :
    snapshotByte r j (copyQuantity q s x) = snapshotByte r j x := by
  cases q with
  | counter l name =>
    cases r with
    | counter l' name' =>
      simp only [snapshotByte, copyQuantity, updateAt_get]
      by_cases hl : l = l'
      · subst hl
        have hname : name' ≠ name := fun h' => h (by rw [h'])
        cases name <;> cases name' <;> simp_all [LaneCounters.get, LaneCounters.put]
      · rw [if_neg hl]
    | _ => rfl
  | _ => cases r <;> simp_all [snapshotByte, copyQuantity]

theorem takeSnapshot_eq (x : Target) (s : State) :
    ∃ snapshots, takeSnapshot x s = { s with window := { s.window with snapshots := snapshots } } := by
  unfold takeSnapshot
  split
  · exact ⟨_, rfl⟩
  · exact ⟨s.window.snapshots, rfl⟩

/-- What a read leaves in the snapshots and in the shift register. -/
theorem readsByte_of_takeSnapshot {a : Addr} (hsnapshots : t.window.snapshots = (takeSnapshot (target a) s).window.snapshots)
    (hshift : t.window.shiftOut = readTarget (target a) (takeSnapshot (target a) s)) : ReadsByte a s t := by
  refine ⟨fun hother => ?_, fun q k hquantity => ?_⟩
  · have hnone : takeSnapshot (target a) s = s := by
      unfold takeSnapshot
      split
      · rename_i q h
        exact absurd h (hother q 0)
      · rfl
    rw [hnone] at hsnapshots hshift
    exact ⟨hsnapshots, hshift⟩
  · rw [hquantity] at hsnapshots hshift
    refine ⟨by rw [hshift, hsnapshots]; rfl, fun r j hne => ?_, fun hk j => ?_⟩
    · rw [hsnapshots]
      cases k with
      | zero => exact snapshotByte_copyQuantity_of_ne (hne.resolve_right fun h => h rfl) j s _
      | succ k => rfl
    · subst hk
      rw [hsnapshots]
      show snapshotByte q j (copyQuantity q s s.window.snapshots) = _
      cases q with
      | counter l name => cases name <;> simp [snapshotByte, copyQuantity, LaneCounters.get, LaneCounters.put]
      | _ => rfl

/-! ### The frame -/

theorem and_mask_eq_zero_iff (v : Byte) : v &&& 0x3F = 0 ↔ v.toNat % 64 = 0 := by
  rw [← BitVec.toNat_inj, BitVec.toNat_and]
  exact Nat.and_two_pow_sub_one_eq_mod v.toNat 6 ▸ Iff.rfl

theorem append_eq_ofNat (high low : Byte) : high ++ low = BitVec.ofNat 16 (256 * high.toNat + low.toNat) := by
  apply BitVec.eq_of_toNat_eq
  rw [BitVec.toNat_append, BitVec.toNat_ofNat, ← Nat.shiftLeft_add_eq_or_of_lt low.isLt, Nat.shiftLeft_eq]
  have := high.isLt
  have := low.isLt
  omega

/-- The two lowest bits of a byte with only higher bits set. -/
theorem bitAt_and_three (b : Bool) : ∀ k ∈ [2, 3, 4, 5, 6, 7], bitAt k b &&& 3 = 0#8 := by
  cases b <;> decide

/-- Table 10-6: the two lowest bits of the summary byte are the engine state. -/
theorem summaryByte_state (s : State) : summaryByte s &&& 3 = s.engine.state.code := by
  have hstate : s.engine.state.code &&& 3 = s.engine.state.code := by cases s.engine.state <;> rfl
  have hbit (b : Bool) := bitAt_and_three b
  rw [summaryByte]
  simp only [BitVec.and_or_distrib_right, hstate, hbit _ 2 (by simp), hbit _ 3 (by simp), hbit _ 4 (by simp), hbit _ 5 (by simp),
    hbit _ 6 (by simp), hbit _ 7 (by simp), BitVec.or_zero]

/-- Table 10-6: the other bits of the summary byte. -/
theorem summaryByte_bits (s : State) :
    (summaryByte s).getLsbD 3 = decide (s.queue.records ≠ []) ∧
    (summaryByte s).getLsbD 4 = decide (s.verdicts.fifo.length = 16) ∧
    (summaryByte s).getLsbD 5 = s.epochUnit.pending ∧ (summaryByte s).getLsbD 6 = s.epochUnit.hold := by
  have hrecords : (!s.queue.records.isEmpty) = decide (s.queue.records ≠ []) := by cases s.queue.records <;> rfl
  simp [summaryByte, hrecords, bitAt_getLsbD, EngineState.code_getLsbD, -BitVec.getLsbD_eq_getElem]

/-- Settles O45: the frame state by state. -/
theorem frameWalksThroughItsStates : Obligations.FrameWalksThroughItsStates := by
  refine ⟨fun s hidle => ⟨summaryByte s, summaryByte_state s, summaryByte_irqActive s, ?_⟩, fun s hopen => ?_, fun s => rfl,
    fun v s hframe hv => ?_, fun v s hframe hv => ?_, fun v s hframe => ?_, fun v m s hframe => ?_, fun v high m s hframe hwrite => ?_,
    ?_, fun v s hhigh hlow => ?_⟩
  · obtain ⟨hrecords, hfifo, hpending, hhold⟩ := summaryByte_bits s
    refine ⟨hrecords, hfifo, hpending, hhold, ?_, congrArg Host.Outcome.next (if_pos hidle)⟩
    rw [summaryByte_powerOn, flagSet_eq_stickySet (by simp)]
  · exact congrArg Host.Outcome.next (if_neg (by simp [hopen]))
  · have hcontrol : takeControl v s = setShiftOut 0 (setFrame (.addressHigh { read := v.getLsbD 7, increment := v.getLsbD 6 }) s) := by
      unfold takeControl
      rw [hframe]
      exact if_pos ((and_mask_eq_zero_iff v).2 hv)
    exact congrArg Host.Outcome.next hcontrol
  · have hcontrol : takeControl v s = setShiftOut 0 (setFrame .ignored (setFlag .accessErr s)) := by
      unfold takeControl
      rw [hframe]
      exact if_neg fun h => hv ((and_mask_eq_zero_iff v).1 h)
    exact congrArg Host.Outcome.next hcontrol
  · refine congrArg Host.Outcome.next ?_
    unfold takeControl
    split
    · contradiction
    · rfl
  · refine congrArg Host.Outcome.next ?_
    unfold takeAddress
    rw [hframe]
    rfl
  · refine congrArg Host.Outcome.next ?_
    unfold takeAddress
    rw [hframe, ← append_eq_ofNat]
    exact if_neg (by simp [hwrite])
  · intro v high m s hframe hread a copied u
    have ha : high ++ v = a := append_eq_ofNat high v
    refine ⟨congrArg Host.Outcome.next ?_, readsByte_of_takeSnapshot rfl rfl⟩
    unfold takeAddress
    rw [hframe]
    simp only [hread, if_true, ha, readAddress, takeSnapshot_setFrame, readTarget_setFrame]
    obtain ⟨x, hx⟩ := takeSnapshot_eq (target a) s
    simp only [u, copied, hx]
    rfl
  · refine congrArg Host.Outcome.next ?_
    unfold takeAddress
    split
    · exact absurd ‹_› (hhigh _)
    · exact absurd ‹_› (hlow _ _)
    · rfl

end Sys2Proof.Machine
end

section
set_option Elab.async false
/-! PROOFS. The staged bytes (R83, R87): which bytes of the profile set the STAGED addresses name, and what a write of one of them
leaves in the others. -/

namespace Sys2Proof.Machine

variable {s t : State}

/-! ### Bytes of a quantity -/

/-- A byte of a quantity, bit by bit. -/
theorem byteOf_getLsbD {n : Nat} (v : BitVec n) (k i : Nat) : (byteOf v k).getLsbD i = (decide (i < 8) && v.getLsbD (8 * k + i)) := by
  simp [byteOf, -BitVec.getLsbD_eq_getElem]

theorem mask_getLsbD (n m : Nat) : (0xFF : BitVec n).getLsbD m = (decide (m < n) && decide (m < 8)) := by
  show (BitVec.ofNat n 255).getLsbD m = _
  rw [BitVec.getLsbD_ofNat]
  exact congrArg _ (Nat.testBit_two_pow_sub_one 8 m)

theorem setByte_getLsbD {n : Nat} (v : BitVec n) {k : Nat} (hk : 8 * k + 8 ≤ n) (b : Byte) (p : Nat) :
    (setByte v k b).getLsbD p = if 8 * k ≤ p ∧ p < 8 * k + 8 then b.getLsbD (p - 8 * k) else v.getLsbD p := by
  simp only [setByte, BitVec.getLsbD_or, BitVec.getLsbD_and, BitVec.getLsbD_not, BitVec.getLsbD_shiftLeft, BitVec.getLsbD_setWidth,
    mask_getLsbD]
  split
  · rename_i hin
    have hlow : ¬ p < 8 * k := by omega
    simp [hlow, show p < n by omega, show p - 8 * k < n by omega, show p - 8 * k < 8 by omega, -BitVec.getLsbD_eq_getElem]
  · rename_i hout
    by_cases hn : p < n
    · by_cases hlow : p < 8 * k
      · simp [hlow, hn, -BitVec.getLsbD_eq_getElem]
      · have hhigh : 8 ≤ p - 8 * k := by omega
        simp [hlow, hn, show ¬ p - 8 * k < 8 by omega, BitVec.getLsbD_of_ge b _ hhigh, -BitVec.getLsbD_eq_getElem]
    · simp [hn, BitVec.getLsbD_of_ge v p (by omega), -BitVec.getLsbD_eq_getElem]

/-- R87: one byte of a quantity is replaced and the others are kept. -/
theorem byteOf_setByte {n : Nat} (v : BitVec n) {k : Nat} (j : Nat) (hk : 8 * k + 8 ≤ n) (b : Byte) :
    byteOf (setByte v k b) j = if j = k then b else byteOf v j := by
  refine BitVec.eq_of_getLsbD_eq fun i hi => ?_
  rw [byteOf_getLsbD, decide_eq_true hi, Bool.true_and, setByte_getLsbD v hk]
  by_cases hj : j = k
  · subst hj
    rw [if_pos (by omega), if_pos rfl, Nat.add_sub_cancel_left]
  · rw [if_neg (by omega), if_neg hj, byteOf_getLsbD, decide_eq_true hi, Bool.true_and]

/-! ### Bytes of narrow fields (R83) -/

theorem bitAt_bit0 (v : Byte) : bitAt 0 (v.getLsbD 0) = v &&& 1 := by
  refine BitVec.eq_of_getLsbD_eq fun i hi => ?_
  have hone : ∀ i < 8, (1 : Byte).getLsbD i = decide (0 = i) := by decide
  rw [bitAt_getLsbD _ (by decide) hi, BitVec.getLsbD_and, hone i hi]
  by_cases h : 0 = i
  · simp [h]
  · simp [h]

theorem class_byte (v : Byte) : ((v.setWidth 3 : Class).setWidth 8 : Byte) = v &&& 7 := by
  refine BitVec.eq_of_getLsbD_eq fun i hi => ?_
  have hseven : ∀ i < 8, (7 : Byte).getLsbD i = decide (i < 3) := by decide
  rw [BitVec.getLsbD_setWidth, BitVec.getLsbD_setWidth, BitVec.getLsbD_and, hseven i hi]
  simp [hi, Bool.and_comm, -BitVec.getLsbD_eq_getElem]

theorem policy_byte (v : Byte) : (if v.getLsbD 0 then Policy.join else .refuse).code = v &&& 1 := by
  rw [← bitAt_bit0]
  cases v.getLsbD 0 <;> rfl

/-! ### Blocks of the profile set (Tables 5-2 and 5-3) -/

/-- A byte of a lane block as it is stored. -/
def storedLaneByte (k : Nat) (v : Byte) : Byte := if k = 15 then v &&& 1 else if k = 16 ∨ k = 17 then v &&& 7 else v

/-- A byte of a channel block as it is stored. -/
def storedChannelByte (k : Nat) (v : Byte) : Byte := if k = 10 then v &&& 1 else v

theorem laneBlockByte_written {k : Nat} (hk : k < 18) (v : Byte) (p : LaneProfile) :
    laneBlockByte k (writeLaneBlock k v p) = storedLaneByte k v := by
  interval_cases k <;> simp [laneBlockByte, writeLaneBlock, storedLaneByte, byteOf_setByte, bitAt_bit0, class_byte,
    -BitVec.getLsbD_eq_getElem]

/-- The bytes of a block's quantity, which begins at byte `base`: one of them is replaced and the others are kept. -/
theorem byteOf_setByte_of_ne {n k j : Nat} (base : Nat) (x : BitVec n) (v : Byte) (hne : j ≠ k) (hk : base ≤ k) (hj : base ≤ j)
    (hn : 8 * (k - base) + 8 ≤ n) : byteOf (setByte x (k - base) v) (j - base) = byteOf x (j - base) := by
  rw [byteOf_setByte _ _ hn, if_neg (by omega)]

theorem laneBlockByte_other {k j : Nat} (hk : k < 18) (hj : j < 18) (hne : j ≠ k) (v : Byte) (p : LaneProfile) :
    laneBlockByte j (writeLaneBlock k v p) = laneBlockByte j p := by
  rw [writeLaneBlock]
  split
  · exact ite_congr rfl (fun _ => byteOf_setByte_of_ne 0 _ v hne (by omega) (by omega) (by omega)) fun _ => rfl
  split
  · exact ite_congr rfl (fun _ => rfl) fun _ => ite_congr rfl
      (fun _ => byteOf_setByte_of_ne 4 _ v hne (by omega) (by omega) (by omega)) fun _ => rfl
  split
  · exact ite_congr rfl (fun _ => rfl) fun _ => ite_congr rfl (fun _ => rfl) fun _ => ite_congr rfl
      (fun _ => byteOf_setByte_of_ne 8 _ v hne (by omega) (by omega) (by omega)) fun _ => rfl
  split
  · exact ite_congr rfl (fun _ => rfl) fun _ => ite_congr rfl (fun _ => rfl) fun _ => ite_congr rfl (fun _ => rfl) fun _ =>
      ite_congr rfl (fun _ => byteOf_setByte_of_ne 10 _ v hne (by omega) (by omega) (by omega)) fun _ => rfl
  split
  · exact ite_congr rfl (fun _ => rfl) fun _ => ite_congr rfl (fun _ => rfl) fun _ => ite_congr rfl (fun _ => rfl) fun _ =>
      ite_congr rfl (fun _ => rfl) fun _ =>
      ite_congr rfl (fun _ => byteOf_setByte_of_ne 12 _ v hne (by omega) (by omega) (by omega)) fun _ => rfl
  split
  · subst k
    simp [laneBlockByte, hne]
  split
  · subst k
    simp [laneBlockByte, hne]
  split
  · subst k
    simp [laneBlockByte, hne]
  · exact ite_congr rfl (fun _ => rfl) fun _ => ite_congr rfl (fun _ => rfl) fun _ => ite_congr rfl (fun _ => rfl) fun _ =>
      ite_congr rfl (fun _ => rfl) fun _ => ite_congr rfl (fun _ => rfl) fun _ => ite_congr rfl (fun _ => rfl) fun _ =>
      ite_congr rfl (fun _ => rfl) fun _ => ite_congr rfl (fun _ => rfl) fun _ => by omega

theorem channelBlockByte_written {k : Nat} (hk : k < 12) (v : Byte) (p : ChannelProfile) :
    channelBlockByte k (writeChannelBlock k v p) = storedChannelByte k v := by
  interval_cases k <;> simp [channelBlockByte, writeChannelBlock, storedChannelByte, byteOf_setByte, policy_byte,
    -BitVec.getLsbD_eq_getElem]

theorem channelBlockByte_other {k j : Nat} (hk : k < 12) (hj : j < 12) (hne : j ≠ k) (v : Byte) (p : ChannelProfile) :
    channelBlockByte j (writeChannelBlock k v p) = channelBlockByte j p := by
  rw [writeChannelBlock]
  split
  · exact ite_congr rfl (fun _ => byteOf_setByte_of_ne 0 _ v hne (by omega) (by omega) (by omega)) fun _ => rfl
  split
  · exact ite_congr rfl (fun _ => rfl) fun _ => ite_congr rfl
      (fun _ => byteOf_setByte_of_ne 4 _ v hne (by omega) (by omega) (by omega)) fun _ => rfl
  split
  · exact ite_congr rfl (fun _ => rfl) fun _ => ite_congr rfl (fun _ => rfl) fun _ => ite_congr rfl
      (fun _ => byteOf_setByte_of_ne 6 _ v hne (by omega) (by omega) (by omega)) fun _ => rfl
  split
  · exact ite_congr rfl (fun _ => rfl) fun _ => ite_congr rfl (fun _ => rfl) fun _ => ite_congr rfl (fun _ => rfl) fun _ =>
      ite_congr rfl (fun _ => byteOf_setByte_of_ne 8 _ v hne (by omega) (by omega) (by omega)) fun _ => rfl
  split
  · subst k
    simp [channelBlockByte, hne]
  · exact ite_congr rfl (fun _ => rfl) fun _ => ite_congr rfl (fun _ => rfl) fun _ => ite_congr rfl (fun _ => rfl) fun _ =>
      ite_congr rfl (fun _ => rfl) fun _ => ite_congr rfl (fun _ => rfl) fun _ => by omega

/-! ### The STAGED addresses (Table 5-4) -/

theorem page02_pitch : ∀ off < 256, 0x0C ≤ off ∧ off ≤ 0x0F → page02 off = .pitch (off - 0x0C) := by decide +kernel

theorem page02_laneBlock : ∀ off < 256, 0x80 ≤ off ∧ off % 32 < 18 →
    page02 off = .laneBlock (Fin.ofNat 4 ((off - 0x80) / 32)) (off % 32) := by decide +kernel

/-- What a STAGED address names, with the address. -/
theorem target_staged {a : Addr} (h : accessClass (target a) = .staged) :
    (∃ k < 4, target a = .pitch k ∧ a.toNat = 0x020C + k) ∨
    (∃ l, ∃ k < 18, target a = .laneBlock l k ∧ a.toNat = 0x0280 + 32 * l.val + k) ∨
    ∃ n, ∃ k < 12, target a = .channelBlock n k ∧ a.toNat = 0x0400 + 16 * n.val + k := by
  revert h
  unfold target
  dsimp only
  split
  · rw [accessClass_page00 _ (Nat.mod_lt _ (by decide))]
    split_ifs <;> simp
  split
  · rw [accessClass_page01]
    split_ifs <;> simp
  split
  · have hoff : a.toNat % 256 < 256 := Nat.mod_lt _ (by decide)
    rw [accessClass_page02 _ hoff]
    by_cases hpitch : 0x0C ≤ a.toNat % 256 ∧ a.toNat % 256 ≤ 0x0F
    · exact fun _ => .inl ⟨_, by omega, page02_pitch _ hoff hpitch, by omega⟩
    by_cases hlane : 0x80 ≤ a.toNat % 256 ∧ a.toNat % 256 % 32 < 18
    · exact fun _ => .inr (.inl ⟨_, _, hlane.2, page02_laneBlock _ hoff hlane, by simp only [Fin.val_ofNat]; omega⟩)
    · rw [if_neg (not_or.mpr ⟨hpitch, hlane⟩)]
      split_ifs <;> simp
  split
  · rw [accessClass_page03]
    split_ifs <;> simp
  split
  · rw [page04]
    split_ifs <;> simp only [accessClass, reduceCtorEq, IsEmpty.forall_iff, forall_const]
    exact .inr (.inr ⟨_, _, by omega, rfl, by simp only [Fin.val_ofNat]; omega⟩)
  split
  · rw [accessClass_page05]
    split_ifs <;> simp
  split
  · rw [accessClass_page06]
    split_ifs <;> simp
  split
  · rw [accessClass_page07]
    split_ifs <;> simp
  split
  · rw [accessClass_page08]
    split_ifs <;> simp
  · simp [accessClass]

/-- A byte of a profile set by its STAGED target. -/
def profileByte (p : ProfileSet) : Target → Byte
  | .pitch k => byteOf p.pitch k
  | .laneBlock l k => laneBlockByte k p.lanes[l]
  | .channelBlock n k => channelBlockByte k p.channels[n]
  | _ => 0

theorem readTarget_shadow {a : Addr} (h : accessClass (target a) = .staged) (u : State) :
    readTarget (target a) { u with epochUnit := { u.epochUnit with view := .shadow } } = profileByte u.epochUnit.shadow (target a) := by
  obtain ⟨k, _, ht, _⟩ | ⟨l, k, _, ht, _⟩ | ⟨n, k, _, ht, _⟩ := target_staged h <;> rw [ht] <;> rfl

/-- A staged byte as it is stored (R83). -/
def storedByte (v : Byte) : Target → Byte
  | .laneBlock _ k => storedLaneByte k v
  | .channelBlock _ k => storedChannelByte k v
  | _ => v

/-- The shadow set after a staged write: the byte at its address is the one stored, and every other byte is kept. -/
theorem writeProfile_spec {a : Addr} (ha : accessClass (target a) = .staged) (v : Byte) (p : ProfileSet) :
    ∃ q, writeProfile (target a) v p = some q ∧ ∀ b : Addr, accessClass (target b) = .staged →
      profileByte q (target b) = if b = a then storedByte v (target a) else profileByte p (target b) := by
  obtain ⟨k, hk, ht, hak⟩ | ⟨l, k, hk, ht, hak⟩ | ⟨n, k, hk, ht, hak⟩ := target_staged ha <;> rw [ht] <;>
    refine ⟨_, rfl, fun b hb => ?_⟩ <;>
    obtain ⟨j, hj, hu, hbj⟩ | ⟨m, j, hj, hu, hbj⟩ | ⟨m, j, hj, hu, hbj⟩ := target_staged hb <;> rw [hu]
  case inl.inl =>
    simp only [profileByte, storedByte, byteOf_setByte _ _ (show 8 * k + 8 ≤ 32 by omega)]
    exact if_congr (by bv_omega) rfl rfl
  case inr.inl.inr.inl =>
    simp only [profileByte, storedByte, updateAt_get]
    by_cases hml : l = m
    · subst hml
      by_cases hjk : j = k
      · rw [if_pos rfl, if_pos (by bv_omega), hjk, laneBlockByte_written hk]
      · rw [if_pos rfl, if_neg (by bv_omega), laneBlockByte_other hk hj hjk]
    · have hval := Fin.val_ne_of_ne hml
      rw [if_neg hml, if_neg (by bv_omega)]
  case inr.inr.inr.inr =>
    simp only [profileByte, storedByte, updateAt_get]
    by_cases hml : n = m
    · subst hml
      by_cases hjk : j = k
      · rw [if_pos rfl, if_pos (by bv_omega), hjk, channelBlockByte_written hk]
      · rw [if_pos rfl, if_neg (by bv_omega), channelBlockByte_other hk hj hjk]
    · have hval := Fin.val_ne_of_ne hml
      rw [if_neg hml, if_neg (by bv_omega)]
  all_goals exact (if_neg (by bv_omega)).symm

/-- Settles O48, from the bytes of the blocks and the window's own rule of a completed write. -/
theorem stagedWriteLandsInTheShadowSet : Obligations.StagedWriteLandsInTheShadowSet := by
  unfold Obligations.StagedWriteLandsInTheShadowSet
  intro a v s htaken hclass
  obtain ⟨q, hq, hbytes⟩ := writeProfile_spec hclass v s.epochUnit.shadow
  have hframe : inData s.window.frame = inWriteData s.window.frame := by
    unfold Window.takesWrite at htaken
    cases hdata : s.window.frame with
    | data m c =>
      rw [hdata] at htaken
      exact (Bool.and_eq_true_iff.mp htaken).1.symm
    | _ => rfl
  have heffect : writeAddress a v s = storeStaged q s := by
    have hstaged : writeAddress a v s = writeStaged a v s := by
      obtain ⟨k, _, ht, _⟩ | ⟨l, k, _, ht, _⟩ | ⟨n, k, _, ht, _⟩ := target_staged hclass <;> rw [writeAddress, ht]
    rw [hstaged, writeStaged, hq]
  have hwritten : hostWrite a (writeAddress a v) s = { storeStaged q s with window := (storeStaged q s).window.afterWrite } := by
    rw [hostWrite_taken s a _ htaken (by rw [heffect]; rfl), heffect]
  refine ⟨_, congrArg Host.Outcome.next hwritten, fun b hb => ?_, ?_⟩
  · refine (readTarget_shadow hb _).trans ((hbytes b hb).trans (if_congr Iff.rfl ?_ (readTarget_shadow hb s).symm))
    cases target a <;> rfl
  · rw [← hframe]
    rfl

end Sys2Proof.Machine
end

section
set_option Elab.async false
/-! PROOFS. The bytes of the window as sections 10.4 and 10.5 lay them out (R88, R163, R173): a layout is a list of the numbers
that its bytes hold. -/

namespace Sys2Proof.Machine

variable {s : State}

/-! ### Layouts -/

/-- The bytes hold the numbers, in order. -/
def Lays (bytes : List Byte) (numbers : List Nat) : Prop := bytes = numbers.map (BitVec.ofNat 8)

theorem Lays.getD {bytes : List Byte} {numbers : List Nat} (h : Lays bytes numbers) (k : Nat) :
    bytes.getD k 0 = BitVec.ofNat 8 (numbers.getD k 0) := by
  rw [h]
  exact List.getD_map numbers 0 (BitVec.ofNat 8)

theorem Lays.nil : Lays [] [] := rfl

theorem Lays.cons {b : Byte} {n : Nat} {bytes : List Byte} {numbers : List Nat} (hb : b = BitVec.ofNat 8 n)
    (h : Lays bytes numbers) : Lays (b :: bytes) (n :: numbers) := congrArg₂ _ hb h

theorem Lays.append {xs ys : List Byte} {ms ns : List Nat} (hx : Lays xs ms) (hy : Lays ys ns) : Lays (xs ++ ys) (ms ++ ns) := by
  rw [Lays, List.map_append, ← hx, ← hy]

theorem byte_toNat (v : Byte) : v = BitVec.ofNat 8 v.toNat := byte_eq_ofNat rfl

theorem byteOf_eq_ofNat {n : Nat} (v : BitVec n) (k : Nat) : byteOf v k = BitVec.ofNat 8 (v.toNat / 2 ^ (8 * k)) := by
  apply BitVec.eq_of_toNat_eq
  rw [byteOf, BitVec.toNat_setWidth, BitVec.toNat_ushiftRight, Nat.shiftRight_eq_div_pow, BitVec.toNat_ofNat]

theorem ofNat_mod_256 (n : Nat) : BitVec.ofNat 8 (n % 256) = BitVec.ofNat 8 n :=
  BitVec.eq_of_toNat_eq (by simp only [BitVec.toNat_ofNat]; omega)

/-- The numbers in the bytes of a 16-bit quantity, least significant first. -/
abbrev twoNumbers (v : Nat) : List Nat := [v % 256, v / 256]

/-- The numbers in the bytes of a 32-bit quantity, least significant first. -/
abbrev fourNumbers (v : Word) : List Nat := [v.toNat % 256, v.toNat / 256 % 256, v.toNat / 65536 % 256, v.toNat / 16777216]

theorem lays_two (v : Half) : Lays (bytes2 v) (twoNumbers v.toNat) := by
  refine .cons ?_ (.cons (byteOf_eq_ofNat v 1) .nil)
  rw [byteOf_eq_ofNat, ofNat_mod_256]
  exact congrArg _ (Nat.div_one _)

theorem lays_four (v : Word) : Lays (bytes4 v) (fourNumbers v) := by
  refine .cons ?_ (.cons ?_ (.cons ?_ (.cons (byteOf_eq_ofNat v 3) .nil)))
  · rw [byteOf_eq_ofNat, ofNat_mod_256]
    exact congrArg _ (Nat.div_one _)
  · exact (byteOf_eq_ofNat v 1).trans (ofNat_mod_256 _).symm
  · exact (byteOf_eq_ofNat v 2).trans (ofNat_mod_256 _).symm

/-- A narrow field in a byte of its own. -/
theorem setWidth_eq_ofNat {n : Nat} (v : BitVec n) : (v.setWidth 8 : Byte) = BitVec.ofNat 8 v.toNat := (BitVec.ofNat_toNat 8 v).symm

/-! ### Coded fields -/

/-- Table 3-2: the flag bits of an entry. -/
theorem entryFlags_bits (f : EntryFlags) :
    let bit (b : Bool) : Nat := if b then 1 else 0
    f.bits.toNat = bit f.overlength + 2 * bit f.lateVerdict + 4 * bit f.lateStart + 8 * bit f.collision + 16 * bit f.deferred +
      32 * bit f.joined + 64 * bit f.cut + 128 * bit f.missed + 256 * bit f.scheduleFull + 512 * bit f.abandoned := by
  have key : ∀ a b c d e f g h i j : Bool, (EntryFlags.mk a b c d e f g h i j).bits.toNat =
      a.toNat + 2 * b.toNat + 4 * c.toNat + 8 * d.toNat + 16 * e.toNat + 32 * f.toNat + 64 * g.toNat + 128 * h.toNat +
        256 * i.toNat + 512 * j.toNat := by decide +kernel
  have hbit (b : Bool) : b.toNat = if b then 1 else 0 := by cases b <;> rfl
  simp only [← hbit]
  exact key _ _ _ _ _ _ _ _ _ _

/-- Table 10-13: the number of a verdict's source, 0 where there is none. -/
def sourceNumber : Option Verdict → Nat
  | none => 0
  | some x => match x.source with
    | .host => 1 | .laneDefault => 2 | .forced => 3

/-- The number of a verdict's class, 0 where there is none. -/
def classNumber : Option Verdict → Nat
  | none => 0
  | some x => x.cls.toNat

theorem sourceCode_eq (v : Option Verdict) : sourceCode v = BitVec.ofNat 8 (sourceNumber v) := by
  obtain _ | ⟨_, _ | _ | _⟩ := v <;> rfl

theorem classCode_eq (v : Option Verdict) : classCode v = BitVec.ofNat 8 (classNumber v) := by
  cases v with
  | none => rfl
  | some x => exact setWidth_eq_ofNat x.cls

/-- The class and source byte of an OUTCOME record (Table 10-11). -/
theorem verdictByte (v : Option Verdict) :
    classCode v ||| (sourceCode v <<< 4) = BitVec.ofNat 8 (classNumber v + 16 * sourceNumber v) := by
  have key : ∀ cls : Class, ∀ source < 4, (cls.setWidth 8 : Byte) ||| (BitVec.ofNat 8 source <<< 4) =
      BitVec.ofNat 8 (cls.toNat + 16 * source) := by decide
  cases v with
  | none => rfl
  | some x =>
    rw [sourceCode_eq]
    refine key x.cls _ ?_
    obtain ⟨_, _ | _ | _⟩ := x <;> simp [sourceNumber]

/-- The presence bits and the lane of an EXCEPTION record (Table 10-11). -/
theorem presenceByte (lane : Option Lane) (tag : Option Half) :
    let bit (b : Bool) : Nat := if b then 1 else 0
    bitAt 0 lane.isSome ||| bitAt 1 tag.isSome ||| (laneCode lane <<< 4) =
      BitVec.ofNat 8 (bit lane.isSome + 2 * bit tag.isSome + 16 * (lane.getD 0).val) := by
  have key : ∀ (lane : Option Lane) (b : Bool), bitAt 0 lane.isSome ||| bitAt 1 b ||| (laneCode lane <<< 4) =
      BitVec.ofNat 8 ((if lane.isSome then 1 else 0) + 2 * (if b then 1 else 0) + 16 * (lane.getD 0).val) := by decide
  exact key lane tag.isSome

/-- The presence bits of the inspection snapshot (Table 10-14). -/
theorem entryBits : ∀ a b c : Bool, bitAt 0 a ||| bitAt 1 b ||| bitAt 2 c =
    BitVec.ofNat 8 ((if a then 1 else 0) + 2 * (if b then 1 else 0) + 4 * (if c then 1 else 0)) := by decide

theorem bitAt_zero (b : Bool) : bitAt 0 b = BitVec.ofNat 8 (if b then 1 else 0) := by cases b <;> rfl

/-! ### Blocks of the profile set (Tables 5-2 and 5-3) -/

theorem laneBlockByte_eq_getD (p : LaneProfile) : ∀ k < 18, laneBlockByte k p =
    (bytes4 p.decisionOffset ++ bytes4 p.exitOffset ++ bytes2 p.minLength ++ bytes2 p.maxLength ++ bytes2 p.minGap ++
      [p.debounce, bitAt 0 p.activeHigh, p.defaultClass.setWidth 8, p.overlengthClass.setWidth 8]).getD k 0 := by
  intro k hk
  interval_cases k <;> rfl

theorem channelBlockByte_eq_getD (p : ChannelProfile) : ∀ k < 12, channelBlockByte k p =
    (bytes4 p.offset ++ bytes2 p.width ++ bytes2 p.lead ++ bytes2 p.recovery ++ [p.policy.code, p.classMask]).getD k 0 := by
  intro k hk
  interval_cases k <;> rfl

/-- The bytes of a channel's configuration, in address order (Table 7-2). -/
def configBytes (c : ChannelConfig) : List Byte := [c.mode.code, byteNat c.lane.val, bitAt 0 c.activeHigh, c.unit.code]

theorem channelConfigByte_eq_getD (c : ChannelConfig) : ∀ k < 4,
    channelConfigByte (configByteOf k) c = (configBytes c).getD k 0 := by
  intro k hk
  interval_cases k <;> rfl

/-! ### The flag and enable registers (Table 10-9) -/

theorem halfByte_getLsbD (half : RegisterHalf) (bits : BitVec 13) {i : Nat} (hi : i < 8) :
    (halfByte half bits).getLsbD i = bits.getLsbD (halfShift half + i) := by
  rw [halfByte, BitVec.getLsbD_setWidth, BitVec.getLsbD_ushiftRight, decide_eq_true hi, Bool.true_and]

theorem halfByte_high_lt (bits : BitVec 13) : (halfByte .byte1 bits).toNat < 32 := by
  rw [halfByte, BitVec.toNat_setWidth, BitVec.toNat_ushiftRight, Nat.shiftRight_eq_div_pow]
  have := bits.isLt
  simp only [halfShift]
  omega

/-! ### The records and the inspection snapshot (Tables 10-11, 10-12 and 10-14) -/

theorem engineState_code (x : EngineState) : x.code = BitVec.ofNat 8 (match x with
    | .stopped => 0 | .running => 1 | .draining => 2 | .frozen => 3) := by
  cases x <;> rfl

theorem faultCause_code (x : FaultCause) : x.code = BitVec.ofNat 8 (match x with
    | .none => 0 | .reversal => 1 | .encoderPhase => 2) := by
  cases x <;> rfl

theorem commitResult_code (x : CommitResult) : x.code = BitVec.ofNat 8 (match x with
    | .none => 0 | .committed => 1 | .deferredFrame => 2 | .deferredReferenced => 3 | .rejected => 4 | .currentInvalid => 5) := by
  cases x <;> rfl

theorem commandResult_code (x : CommandResult) : x.code = BitVec.ofNat 8 (match x with
    | .none => 0 | .accepted => 1 | .refusedState => 2 | .refusedInvalid => 3 | .refusedPosition => 4 | .refusedHold => 5
    | .refusedEmpty => 6) := by
  cases x <;> rfl

theorem decodeMode_code (x : DecodeMode) : x.code = BitVec.ofNat 8 (match x with | .x1 => 0 | .x2 => 1 | .x4 => 2) := by
  cases x <;> rfl

theorem channelMode_code (x : ChannelMode) : x.code = BitVec.ofNat 8 (match x with
    | .off => 0 | .perItem => 1 | .perPitch => 2 | .verdict => 3) := by
  cases x <;> rfl

theorem widthUnit_code (x : WidthUnit) : x.code = BitVec.ofNat 8 (match x with | .counts => 0 | .microseconds => 1) := by
  cases x <;> rfl

theorem policy_code (x : Policy) : x.code = BitVec.ofNat 8 (match x with | .refuse => 0 | .join => 1) := by cases x <;> rfl

theorem viewSelect_code (x : View) : bitAt 0 (x = .active) = BitVec.ofNat 8 (match x with | .shadow => 0 | .active => 1) := by
  cases x <;> rfl

/-- The numbers in the bytes of a record (Table 10-11). -/
def recordNumbers : Report → List Nat
  | .detect lane tag epoch leading length overlength =>
    [1, 14, lane.val, if overlength then 1 else 0] ++ twoNumbers tag.toNat ++ twoNumbers epoch.toNat ++ fourNumbers leading ++
      twoNumbers length.toNat
  | .outcome lane tag epoch leading verdict fired f =>
    [2, 16, lane.val, classNumber verdict + 16 * sourceNumber verdict] ++ twoNumbers tag.toNat ++ twoNumbers epoch.toNat ++
      fourNumbers leading ++ twoNumbers fired.toNat ++ twoNumbers f.bits.toNat
  | .exception code lane tag position =>
    [3, 10, code.code.toNat, (if lane.isSome then 1 else 0) + 2 * (if tag.isSome then 1 else 0) + 16 * (lane.getD 0).val] ++
      twoNumbers (tag.getD 0).toNat ++ fourNumbers position
  | .fault x prior p h => [4, 12, x.code.toNat, prior.code.toNat] ++ fourNumbers p ++ fourNumbers h
  | .commit epoch h => [5, 8] ++ twoNumbers epoch.toNat ++ fourNumbers h

theorem lays_record (r : Report) : Lays r.bytes (recordNumbers r) := by
  cases r with
  | detect lane tag epoch leading length overlength =>
    exact .append (.append (.append (.append (.cons rfl (.cons rfl (.cons rfl (.cons (bitAt_zero _) .nil)))) (lays_two _)) (lays_two _))
      (lays_four _)) (lays_two _)
  | outcome lane tag epoch leading verdict fired flags =>
    exact .append (.append (.append (.append (.append (.cons rfl (.cons rfl (.cons rfl (.cons (verdictByte _) .nil)))) (lays_two _))
      (lays_two _)) (lays_four _)) (lays_two _)) (lays_two _)
  | exception code lane tag position =>
    exact .append (.append (.cons rfl (.cons rfl (.cons (byte_toNat _) (.cons (presenceByte lane tag) .nil)))) (lays_two _)) (lays_four _)
  | fault cause prior p h =>
    exact .append (.append (.cons rfl (.cons rfl (.cons (byte_toNat _) (.cons (byte_toNat _) .nil)))) (lays_four _)) (lays_four _)
  | commit epoch h => exact .append (.append (.cons rfl (.cons rfl .nil)) (lays_two _)) (lays_four _)

/-- The numbers in the bytes of the inspection snapshot of a slot with an entry (Table 10-14). -/
def inspectionNumbers (x : Inspection) (e : Entry) : List Nat :=
  [x.slot.val, e.state.code.toNat, e.lane.val,
    (if e.tag.isSome then 1 else 0) + 2 * (if e.length.isSome then 1 else 0) + 4 * (if e.verdict.isSome then 1 else 0)] ++
  twoNumbers (e.tag.getD 0).toNat ++ twoNumbers (e.length.getD 0).toNat ++ twoNumbers e.epoch.toNat ++
  [e.bank.code.toNat, classNumber e.verdict, sourceNumber e.verdict, x.pendingCount] ++ twoNumbers e.fired.toNat ++
  fourNumbers e.leading ++ twoNumbers e.flags.bits.toNat

theorem lays_inspection {x : Inspection} {e : Entry} (h : x.entry = some e) : Lays (inspectionBytes x) (inspectionNumbers x e) := by
  rw [inspectionBytes, h]
  exact .append (.append (.append (.append (.append (.append (.append
    (.cons rfl (.cons (byte_toNat _) (.cons rfl (.cons (entryBits _ _ _) .nil)))) (lays_two _)) (lays_two _)) (lays_two _))
    (.cons (byte_toNat _) (.cons (classCode_eq _) (.cons (sourceCode_eq _) (.cons rfl .nil))))) (lays_two _)) (lays_four _)) (lays_two _)

/-- Settles O53: the addresses of Table 10-3, the snapshot that a read takes, and the layouts byte by byte. -/
theorem readsTakeWholeSnapshots : Obligations.ReadsTakeWholeSnapshots := by
  refine ⟨by decide +kernel, by decide +kernel, fun a s => ⟨fun h => congrArg Host.Outcome.next (hostRead_not_taken s a h), fun h => ?_⟩,
    ?_⟩
  · obtain ⟨snapshots, hsnapshots⟩ := takeSnapshot_eq (target a) s
    refine ⟨_, exec_snapshotRead h, ?_, readsByte_of_takeSnapshot ?_ ?_⟩
    · rw [hsnapshots]
      simp only [Window.afterRead]
      cases s.window.frame <;> rfl
    · simp only [Window.afterRead]
      split <;> rfl
    · simp only [Window.afterRead]
      split <;> rfl
  · intro s value shows two four bit state result commitResult cause exception source cls flags record set
    have hflags (f : EntryFlags) : flags f = f.bits.toNat := (entryFlags_bits f).symm
    have hcls (v : Option Verdict) : cls v = classNumber v := by cases v <;> rfl
    have hsource (v : Option Verdict) : source v = sourceNumber v := by
      obtain _ | ⟨_, _ | _ | _⟩ := v <;> rfl
    have hrecord (r : Report) : record r = recordNumbers r := by
      cases r with
      | outcome lane tag epoch leading verdict fired f =>
        show [2, 16, lane.val, cls verdict + 16 * source verdict] ++ two tag.toNat ++ two epoch.toNat ++ four leading ++
          two fired.toNat ++ two (flags f) = _
        rw [hflags, hcls, hsource]
        rfl
      | exception code lane tag position => cases code <;> rfl
      | fault cause prior p h => cases cause <;> cases prior <;> rfl
      | _ => rfl
    refine ⟨?_, ?_, ?_, ?_, ?_, ?_, ?_, ?_, ?_, ?_, ?_, ?_⟩
    · simp only [List.forall_mem_cons]
      refine ⟨rfl, rfl, rfl, rfl, byte_toNat _, commandResult_code _, engineState_code _, byte_toNat _, decodeMode_code _, bitAt_zero _,
        byte_toNat _, setWidth_eq_ofNat _, setWidth_eq_ofNat _, bitAt_zero _, viewSelect_code _, bitAt_zero _, bitAt_zero _,
        bitAt_zero _, commitResult_code _, rfl, rfl, byte_toNat _, byte_toNat _, byte_toNat _, setWidth_eq_ofNat _, rfl, rfl,
        byte_toNat _, rfl, fun _ h => absurd h List.not_mem_nil⟩
    · have hbits (f : Flag) (half : RegisterHalf) (i : Nat) (hi : i < 8) (hp : halfShift half + i = f.position) :
          (halfByte half (flagBits s)).getLsbD i = flagSet f s ∧
          (halfByte half s.interrupts.enables).getLsbD i = s.interrupts.enables.getLsbD f.position := by
        rw [halfByte_getLsbD _ _ hi, halfByte_getLsbD _ _ hi, hp]
        exact ⟨rfl, rfl⟩
      simp only [List.forall_mem_cons]
      refine ⟨hbits _ .byte0 0 ?_ rfl, hbits _ .byte0 1 ?_ rfl, hbits _ .byte0 2 ?_ rfl, hbits _ .byte0 3 ?_ rfl, hbits _ .byte0 4 ?_ rfl,
        hbits _ .byte0 5 ?_ rfl, hbits _ .byte0 6 ?_ rfl, hbits _ .byte0 7 ?_ rfl, hbits _ .byte1 0 ?_ rfl, hbits _ .byte1 1 ?_ rfl,
        hbits _ .byte1 2 ?_ rfl, hbits _ .byte1 3 ?_ rfl, hbits _ .byte1 4 ?_ rfl, fun _ h => absurd h List.not_mem_nil⟩ <;> decide
    · exact halfByte_high_lt _
    · exact halfByte_high_lt _
    · intro k hk
      have ht : ∀ k < 12, target (BitVec.ofNat 16 (0x0008 + k)) = .quantity .fault k := by decide +kernel
      show readTarget (target (BitVec.ofNat 16 (0x0008 + k))) s = _
      rw [ht k hk]
      exact Lays.getD (.append (.append (.cons (faultCause_code _) (.cons (engineState_code _) (.cons (byte_toNat _) (.cons rfl .nil))))
        (lays_four _)) (lays_four _)) k
    · intro k hk
      have ht : ∀ k < 4, target (BitVec.ofNat 16 (0x020C + k)) = .pitch k := by decide +kernel
      have hbyte : ∀ k < 4, byteOf (viewedSet s).pitch k = (bytes4 (viewedSet s).pitch).getD k 0 := by
        intro k hk
        interval_cases k <;> rfl
      show readTarget (target (BitVec.ofNat 16 (0x020C + k))) s = _
      rw [ht k hk]
      exact (hbyte k hk).trans (Lays.getD (lays_four _) k)
    · intro l k hk
      have ht : ∀ l : Lane, ∀ k < 18, target (BitVec.ofNat 16 (0x0280 + 32 * l.val + k)) = .laneBlock l k := by decide +kernel
      show readTarget (target (BitVec.ofNat 16 (0x0280 + 32 * l.val + k))) s = _
      rw [ht l k hk]
      exact (laneBlockByte_eq_getD _ k hk).trans (Lays.getD (.append (.append (.append (.append (.append (lays_four _) (lays_four _))
        (lays_two _)) (lays_two _)) (lays_two _)) (.cons (byte_toNat _) (.cons (bitAt_zero _) (.cons (setWidth_eq_ofNat _)
        (.cons (setWidth_eq_ofNat _) .nil))))) k)
    · intro n k hk
      have ht : ∀ n : Channel, ∀ k < 12, target (BitVec.ofNat 16 (0x0400 + 16 * n.val + k)) = .channelBlock n k := by decide +kernel
      show readTarget (target (BitVec.ofNat 16 (0x0400 + 16 * n.val + k))) s = _
      rw [ht n k hk]
      exact (channelBlockByte_eq_getD _ k hk).trans (Lays.getD (.append (.append (.append (.append (lays_four _)
        (lays_two _)) (lays_two _)) (lays_two _)) (.cons (policy_code _) (.cons (byte_toNat _) .nil))) k)
    · intro n k hk
      have ht : ∀ n : Channel, ∀ k < 4, target (BitVec.ofNat 16 (0x0300 + 4 * n.val + k)) = .channelConfig n (configByteOf k) := by
        decide +kernel
      show readTarget (target (BitVec.ofNat 16 (0x0300 + 4 * n.val + k))) s = _
      rw [ht n k hk]
      exact Lays.getD (bytes := configBytes s.channels[n].config) (.cons (channelMode_code _) (.cons rfl (.cons (bitAt_zero _)
        (.cons (widthUnit_code _) .nil)))) k ▸ channelConfigByte_eq_getD _ k hk
    · intro k hk
      have ht : ∀ k < 16, target (BitVec.ofNat 16 (0x0600 + k)) = .headWindow k := by decide +kernel
      show readTarget (target (BitVec.ofNat 16 (0x0600 + k))) s = _
      rw [ht k hk]
      cases hrecords : s.queue.records with
      | nil =>
        show headByte k s = _
        rw [headByte, hrecords]
        rfl
      | cons r rest =>
        show headByte k s = _
        rw [headByte, hrecords]
        show r.bytes.getD k 0 = BitVec.ofNat 8 ((record r).getD k 0)
        rw [hrecord]
        exact Lays.getD (lays_record r) k
    · intro k hk
      have ht : ∀ k < 22, target (BitVec.ofNat 16 (0x0810 + k)) = .inspection k := by decide +kernel
      show readTarget (target (BitVec.ofNat 16 (0x0810 + k))) s = _
      rw [ht k hk]
      cases hentry : s.table.inspection.entry with
      | none =>
        show (inspectionBytes s.table.inspection).getD k 0 = _
        dsimp only
        rw [inspectionBytes, hentry]
        exact Lays.getD (.cons rfl .nil) k
      | some e =>
        refine (Lays.getD (lays_inspection hentry) k).trans (congrArg (fun l => BitVec.ofNat 8 (List.getD l k 0)) ?_)
        dsimp only
        rw [hentry]
        show _ = [s.table.inspection.slot.val, _, e.lane.val, _] ++ two (e.tag.getD 0).toNat ++ two (e.length.getD 0).toNat ++
          two e.epoch.toNat ++ [_, cls e.verdict, source e.verdict, s.table.inspection.pendingCount] ++ two e.fired.toNat ++
          four e.leading ++ two (flags e.flags)
        rw [hflags, hcls, hsource]
        unfold inspectionNumbers
        cases e.state <;> cases e.bank <;> rfl
    · intro a ha
      have ht : target a = .unmapped := by
        cases htarget : target a <;> simp_all [accessClass]
      show readTarget (target (BitVec.ofNat 16 a.toNat)) s = 0
      rw [BitVec.ofNat_toNat, BitVec.setWidth_eq, ht]
      rfl

end Sys2Proof.Machine
end

section
set_option Elab.async false
/-! PROOFS. What a data byte of the window can be, and the engine states that the events and the commands lead to (Table 8-4). -/

namespace Sys2Proof.Machine

variable {s t : State} {c : Instr}

/-! ### A data byte -/

theorem hostWrite_cases (a : Addr) (effect : State → State) (s : State) :
    hostWrite a effect s = s ∨ s.window.takesWrite a = true ∧ ∃ w, hostWrite a effect s = { effect s with window := w } := by
  cases htaken : s.window.takesWrite a with
  | false => exact .inl (hostWrite_not_taken s a effect htaken)
  | true =>
    refine .inr ⟨rfl, ?_⟩
    unfold hostWrite
    split
    · split
      · unfold stepAddress
        split
        · exact ⟨_, rfl⟩
        · exact ⟨_, rfl⟩
      · simp_all [Window.takesWrite]
    · split
      · exact ⟨_, rfl⟩
      · simp_all [Window.takesWrite]
    · simp_all [Window.takesWrite]

/-- A command of a data byte changes nothing, or moves the window on after the effect of an address outside the command register, of
a RESUME, or of another code of the command register. -/
theorem exec_write_cases {a : Addr} {v : Byte} (hbyte : c.byteWritten = some (a, v)) (h : exec c s = .next t) :
    t = s ∨ ∃ u w, t = { u with window := w } ∧
      (a ≠ 0x0004 ∧ s.window.takesWrite a = true ∧ u = writeAddress a v s ∨
        (∃ first, issues c 3 s = true ∧ u = commandResume first s) ∨
        v ≠ 3 ∧ issues c v s = true ∧ u = writeCommand v s) := by
  rcases exec_of_byteWritten s hbyte with hexec | ⟨first, rfl, rfl, rfl⟩
  · obtain rfl : hostWrite a (writeAddress a v) s = t := by simpa [hexec] using h
    rcases hostWrite_cases a (writeAddress a v) s with e | ⟨htaken, w, e⟩
    · exact .inl e
    refine .inr ⟨_, w, e, ?_⟩
    by_cases ha : a = 0x0004
    · subst ha
      have hissues : issues c v s = true := (issues_iff hbyte v).2 ⟨⟨rfl, rfl⟩, htaken⟩
      by_cases hv : v = 3
      · subst hv
        exact .inr (.inl ⟨[], hissues, rfl⟩)
      · exact .inr (.inr ⟨hv, hissues, rfl⟩)
    · exact .inl ⟨ha, htaken, rfl⟩
  · obtain rfl : hostWrite 0x0004 (commandResume first) s = t := Host.Outcome.next.inj h
    rcases hostWrite_cases 0x0004 (commandResume first) s with e | ⟨htaken, w, e⟩
    · exact .inl e
    · exact .inr ⟨_, w, e, .inr (.inl ⟨first, (issues_iff hbyte 3).2 ⟨⟨rfl, rfl⟩, htaken⟩, rfl⟩)⟩

/-! ### The engine -/

/-- A drain that was under way is over. -/
def Drained (s t : State) : Prop :=
  s.engine.state = .draining ∧ t.engine.state = .stopped ∧ liveEntries t = 0 ∧ t.schedule = []

theorem DrainEnds.drained (h : DrainEnds s t) : Drained s t := by
  obtain ⟨hdraining, hlive, hschedule, _, _, hengine⟩ := h
  exact ⟨hdraining, by rw [hengine], hlive, hschedule⟩

theorem completeDrain_drained (s : State) : (completeDrain s).engine.state = s.engine.state ∨ Drained s (completeDrain s) := by
  rcases completeDrain_cases s with ⟨hdone, e⟩ | ⟨_, e⟩ <;> rw [e]
  · obtain ⟨hdraining, hlive, hschedule⟩ := (drainDone_iff s).1 hdone
    exact .inr ⟨hdraining, rfl, hlive, hschedule⟩
  · exact .inl rfl

theorem settleDrain_drained (s : State) : (settleDrain s).engine.state = s.engine.state ∨ Drained s (settleDrain s) := by
  unfold settleDrain
  split
  · exact completeDrain_drained s
  · exact .inl rfl

theorem drained_of_engine {u : State} (h : u.engine.state = t.engine.state ∨ Drained u t) (he : u.engine = s.engine) :
    t.engine.state = s.engine.state ∨ Drained s t := by
  rw [Drained, he] at h
  exact h.imp_left Eq.symm

/-- Table 8-4, the part's own events: a drain ends, or a fault report freezes the line. -/
theorem exec_event_engine (hbyte : c.byteWritten = none) (hreset : ∀ levels, c ≠ .pinReset levels) (h : exec c s = .next t) :
    t.engine.state = s.engine.state ∨ Drained s t ∨
      (s.engine.state = .running ∨ s.engine.state = .draining) ∧ t.engine.state = .frozen ∧ c = .faultReport ∧
        t.engine.frozenFrom = some s.engine.state := by
  have settled {u : State} (hu : u.engine = s.engine) : (settleDrain u).engine.state = s.engine.state ∨ Drained s (settleDrain u) :=
    drained_of_engine ((settleDrain_drained u).imp_left Eq.symm) hu
  cases c with
  | pinReset levels => exact absurd rfl (hreset levels)
  | legalTransition phase => cases h; exact .inl (by simp)
  | illegalTransition => cases h; exact .inl (by simp)
  | advance first =>
    cases h
    split
    · rename_i hmay
      rcases advanceOnce_engine first hmay with he | he
      · exact .inl (by rw [he])
      · exact .inr (.inl he.drained)
    · exact .inl rfl
  | microsecondsPulseEnd n =>
    cases h
    split
    · exact .inl rfl
    · split
      · exact (settled (by simp)).imp_right .inl
      · exact .inl rfl
  | recoveryExpiry n =>
    cases h
    split
    · unfold expireRecovery
      dsimp only
      split <;> exact .inl (by simp)
    · exact .inl rfl
  | speedWindowEnd => cases h; exact .inl rfl
  | rawInputChange l high =>
    cases h
    split
    · exact .inl rfl
    · exact (settled (by simp)).imp_right .inl
  | debounceExpiry l =>
    cases h
    split
    · exact .inl rfl
    · split
      · exact (settled (by simp)).imp_right .inl
      · exact .inl rfl
  | faultReport =>
    cases h
    split
    · exact .inl rfl
    · rename_i r rest _
      unfold takeReport
      split
      · rename_i hstate
        exact .inr (.inr ⟨.inl hstate, by simp [freeze], rfl, by simp [freeze]⟩)
      · rename_i hstate
        exact .inr (.inr ⟨.inr hstate, by simp [freeze], rfl, by simp [freeze]⟩)
      · exact .inl rfl
      · exact .inl rfl
  | verdictTake | outcomePost | frameBegin | controlByte | frameEnd | snapshotRead | addressByte => cases h; exact .inl (by simp)
  | drainComplete => cases h; exact (completeDrain_drained s).imp_right .inl
  | _ => cases hbyte

@[simp] theorem finishCommand_state (code : Byte) (r : CommandResult) (s : State) :
    (finishCommand code r s).engine.state = s.engine.state := by
  rw [finishCommand_eq]

theorem commandStart_state (s : State) : (commandStart s).engine.state = s.engine.state ∨
    s.engine.state = .stopped ∧ (commandStart s).engine.state = .running ∧ (commandStart s).engine.lastResult = .accepted := by
  unfold commandStart
  split
  · exact .inl (by simp)
  · rename_i hstate
    have hstopped : s.engine.state = .stopped := not_not.1 hstate
    split <;> split
    · exact .inr ⟨hstopped, by simp [beginRun], by simp⟩
    · exact .inl (by simp)
    · exact .inr ⟨hstopped, by simp [beginRun], by simp⟩
    · exact .inl (by simp)

theorem commandStop_state (s : State) : (commandStop s).engine.state = s.engine.state ∨
    s.engine.state = .running ∧ ((commandStop s).engine.state = .draining ∨
      (commandStop s).engine.state = .stopped ∧ liveEntries s = 0 ∧ s.schedule = []) := by
  unfold commandStop
  split
  · rename_i hrunning
    rw [finishCommand_eq]
    rcases completeDrain_drained (setEngineState .draining s) with he | he
    · exact .inr ⟨hrunning, .inl (by simpa using he)⟩
    · obtain ⟨_, hstopped, hlive, hschedule⟩ := he
      exact .inr ⟨hrunning, .inr ⟨by simpa using hstopped, by simpa [liveEntries] using hlive, by simpa using hschedule⟩⟩
  · exact .inl (by simp)

/-- The line as an accepted RESUME leaves it, but for the completion of a drain (R152). -/
def resumed (first : List Lane) (s : State) : State :=
  allChannels.foldl takeBack ((preferred first allLanes).foldl resample
    { s with
      engine := { s.engine with state := s.engine.frozenFrom.getD .running, frozenFrom := none }
      motion := { s.motion with phaseErrors := 0 } })

theorem resumeRun_eq (first : List Lane) (s : State) : resumeRun first s = completeDrain (resumed first s) := rfl

theorem resumed_engine (first : List Lane) (s : State) :
    (resumed first s).engine = { s.engine with state := s.engine.frozenFrom.getD .running, frozenFrom := none } := by
  rw [resumed, foldl_field (fun s : State => s.engine) takeBack (fun s n => takeBack_engine s n),
    foldl_field (fun s : State => s.engine) resample (fun s l => resample_engine s l)]

theorem resumeRun_state (first : List Lane) (s : State) :
    (resumeRun first s).engine.state = s.engine.frozenFrom.getD .running ∨
      s.engine.frozenFrom = some .draining ∧ (resumeRun first s).engine.state = .stopped ∧
        liveEntries (resumeRun first s) = 0 ∧ (resumeRun first s).schedule = [] := by
  rw [resumeRun_eq]
  have hengine := resumed_engine first s
  generalize resumed first s = u at hengine
  rcases completeDrain_drained u with he | ⟨hdraining, hstopped, hlive, hschedule⟩
  · exact .inl (he.trans (by rw [hengine]))
  · rw [hengine] at hdraining
    refine .inr ⟨?_, hstopped, hlive, hschedule⟩
    cases hfrom : s.engine.frozenFrom with
    | none => simp [hfrom] at hdraining
    | some e => simpa [hfrom] using hdraining

theorem commandResume_state (first : List Lane) (s : State) :
    (commandResume first s).engine.state = s.engine.state ∨
    s.engine.state = .frozen ∧ (commandResume first s).engine.lastResult = .accepted ∧
      ((commandResume first s).engine.state = s.engine.frozenFrom.getD .running ∨
        s.engine.frozenFrom = some .draining ∧ (commandResume first s).engine.state = .stopped ∧
          liveEntries (commandResume first s) = 0 ∧ (commandResume first s).schedule = []) := by
  unfold commandResume
  split
  · exact .inl (by simp)
  rename_i hfrozen
  split
  · refine .inr ⟨not_not.1 hfrozen, by simp, ?_⟩
    have hlive : liveEntries (finishCommand 3 .accepted (resumeRun first s)) = liveEntries (resumeRun first s) := by simp [liveEntries]
    rw [finishCommand_state, finishCommand_schedule, hlive]
    exact resumeRun_state first s
  · exact .inl (by simp)

/-- Table 8-4, the codes of the command register other than RESUME. -/
theorem writeCommand_state {v : Byte} (hv : v ≠ 3) (s : State) : (writeCommand v s).engine.state = s.engine.state ∨
    (v = 1 ∧ s.engine.state = .stopped ∧ (writeCommand v s).engine.state = .running ∧ (writeCommand v s).engine.lastResult = .accepted) ∨
    (v = 2 ∧ s.engine.state = .running ∧ ((writeCommand v s).engine.state = .draining ∨
      (writeCommand v s).engine.state = .stopped ∧ liveEntries s = 0 ∧ s.schedule = [])) ∨
    ((v = 4 ∨ v = 6) ∧ (writeCommand v s).engine.state = .stopped) := by
  unfold writeCommand
  split
  · rename_i h
    exact (commandStart_state s).imp_right fun hs => .inl ⟨h, hs⟩
  split
  · rename_i h
    exact (commandStop_state s).imp_right fun hs => .inr (.inl ⟨h, hs⟩)
  split
  · rename_i h
    unfold commandFlush
    split
    · exact .inl (by simp)
    · exact .inr (.inr (.inr ⟨.inl h, by simp [flushLine]⟩))
  split
  · refine .inl ?_
    unfold commandCommit
    (repeat' split) <;> simp
  split
  · rename_i h
    exact .inr (.inr (.inr ⟨.inr h, rfl⟩))
  split
  · refine .inl ?_
    unfold commandPop
    split <;> simp
  · exact .inl rfl

/-- Settles O54: the part's own events, then the codes of the command register; a byte at any other address leaves the engine. -/
theorem engineChangesStateOnlyAtItsEvents : Obligations.EngineChangesStateOnlyAtItsEvents := by
  unfold Obligations.EngineChangesStateOnlyAtItsEvents
  intro c s t h hchange
  by_cases hreset : ∃ levels, c = .pinReset levels
  · obtain ⟨levels, rfl⟩ := hreset
    cases h
    exact .inr (.inr (.inr (.inr (.inr ⟨rfl, .inr (.inr ⟨levels, rfl⟩)⟩))))
  cases hbyte : c.byteWritten with
  | none =>
    rcases exec_event_engine hbyte (not_exists.1 hreset) h with he | ⟨hdraining, hstopped, hlive, hschedule⟩ | hfrozen
    · exact absurd he hchange
    · exact .inr (.inr (.inl ⟨hdraining, hstopped, hlive, hschedule, rfl⟩))
    · exact .inr (.inr (.inr (.inl hfrozen)))
  | some byte =>
    obtain ⟨a, v⟩ := byte
    rcases exec_write_cases hbyte h with rfl | ⟨u, w, rfl, ⟨ha, _, rfl⟩ | ⟨first, hissues, rfl⟩ | ⟨hv, hissues, rfl⟩⟩
    · exact absurd rfl hchange
    · exact absurd (congrArg Engine.state (writeAddress_line v s (mt target_eq_command ha)).2.2.2) hchange
    · rcases commandResume_state first s with he | ⟨hfrozen, hresult, he⟩
      · exact absurd he hchange
      · exact .inr (.inr (.inr (.inr (.inl ⟨hfrozen, hissues, hresult, he⟩))))
    · rcases writeCommand_state hv s with he | ⟨rfl, hstopped, hrunning, hresult⟩ | ⟨rfl, hrunning, he⟩ | ⟨hcode, he⟩
      · exact absurd he hchange
      · exact .inl ⟨hstopped, hrunning, hissues, hresult⟩
      · exact .inr (.inl ⟨hrunning, he, hissues⟩)
      · refine .inr (.inr (.inr (.inr (.inr ⟨he, ?_⟩))))
        obtain rfl | rfl := hcode
        · exact .inl hissues
        · exact .inr (.inl hissues)

end Sys2Proof.Machine
end

section
set_option Elab.async false
/-! PROOFS. The settings and the banks (R84, R96, R127): out of STOPPED no byte changes a setting, and the banks and E change only at
a commit. -/

namespace Sys2Proof.Machine

variable {s t : State} {c : Instr}

/-! ### The settings that only STOPPED takes -/

/-- From s to t the STOPPED-only settings stay. -/
def StoppedOnlyKept (s t : State) : Prop :=
  t.motion.decodeMode = s.motion.decodeMode ∧ t.motion.invert = s.motion.invert ∧
  t.motion.backlash = s.motion.backlash ∧ t.motion.phaseLimit = s.motion.phaseLimit ∧
  t.detectors.enabled = s.detectors.enabled ∧ ∀ n : Channel, t.channels[n].config = s.channels[n].config

theorem StoppedOnlyKept.refl (s : State) : StoppedOnlyKept s s := ⟨rfl, rfl, rfl, rfl, rfl, fun _ => rfl⟩

theorem StoppedOnlyKept.trans {u : State} (h : StoppedOnlyKept s t) (h' : StoppedOnlyKept t u) : StoppedOnlyKept s u :=
  ⟨h'.1.trans h.1, h'.2.1.trans h.2.1, h'.2.2.1.trans h.2.2.1, h'.2.2.2.1.trans h.2.2.2.1, h'.2.2.2.2.1.trans h.2.2.2.2.1,
    fun n => (h'.2.2.2.2.2 n).trans (h.2.2.2.2.2 n)⟩

theorem Effect.encoderKept {sound posting : Prop} (h : Effect sound posting s t) :
    t.motion.decodeMode = s.motion.decodeMode ∧ t.motion.invert = s.motion.invert ∧
    t.motion.backlash = s.motion.backlash ∧ t.motion.phaseLimit = s.motion.phaseLimit := by
  cases h with
  | motion m h => exact h
  | offer | amend | post => simp
  | _ => exact ⟨rfl, rfl, rfl, rfl⟩

theorem Effects.stoppedOnlyKept {sound posting : Prop} (h : Effects sound posting s t) : StoppedOnlyKept s t := by
  obtain ⟨hmode, hinvert, hbacklash, hlimit⟩ := h.keeps (P := fun s t => t.motion.decodeMode = s.motion.decodeMode ∧
    t.motion.invert = s.motion.invert ∧ t.motion.backlash = s.motion.backlash ∧ t.motion.phaseLimit = s.motion.phaseLimit)
    (fun _ => ⟨rfl, rfl, rfl, rfl⟩)
    (fun _ _ _ h h' => ⟨h'.1.trans h.1, h'.2.1.trans h.2.1, h'.2.2.1.trans h.2.2.1, h'.2.2.2.trans h.2.2.2⟩)
    fun _ _ => Effect.encoderKept
  obtain ⟨henabled, hconfig, _⟩ := h.settingsKept
  exact ⟨hmode, hinvert, hbacklash, hlimit, henabled, hconfig⟩

/-- R127: out of STOPPED a byte at an address outside the command register leaves the STOPPED-only settings. -/
theorem writeAddress_stoppedOnlyKept {a : Addr} (v : Byte) (hstate : s.engine.state ≠ .stopped) (h : target a ≠ .command) :
    StoppedOnlyKept s (writeAddress a v s) := by
  by_cases hclass : accessClass (target a) = .stoppedOnly
  · rw [writeAddress_not_stopped v hstate hclass]
    exact .refl s
  · unfold writeAddress
    cases htarget : target a with
    | command => exact absurd htarget h
    | decodeMode | invert | backlash | phaseLimit | laneMask | channelConfig => exact absurd (by rw [htarget]; rfl) hclass
    | _ => simp [StoppedOnlyKept]

theorem writeCommand_stoppedOnlyKept (v : Byte) (s : State) : StoppedOnlyKept s (writeCommand v s) := by
  by_cases hreset : v = 6
  · subst hreset
    refine ⟨rfl, rfl, rfl, rfl, rfl, fun n => ?_⟩
    show (commandReset s).channels[n].config = _
    simp [commandReset]
  by_cases hpop : v = 7
  · subst hpop
    show StoppedOnlyKept s (commandPop s)
    unfold StoppedOnlyKept
    simp
  · exact (writeCommand_effects (sound := False) hreset hpop (posting := True) (fun _ => trivial) False.elim).stoppedOnlyKept

/-! ### The banks and E -/

/-- From s to t both banks, the current bank and E stay. -/
def BanksKept (s t : State) : Prop :=
  t.epochUnit.bankA = s.epochUnit.bankA ∧ t.epochUnit.bankB = s.epochUnit.bankB ∧
  t.epochUnit.current = s.epochUnit.current ∧ t.epochUnit.epoch = s.epochUnit.epoch

/-- From s to t the shadow set, pending, not held and valid, has been committed (R96). -/
def Committed (s t : State) : Prop :=
  s.epochUnit.pending = true ∧ s.epochUnit.hold = false ∧ validate s.epochUnit.shadow s = none ∧
  t.epochUnit.current = s.epochUnit.current.other ∧ t.epochUnit.epoch = s.epochUnit.epoch + 1 ∧
  bankOf t.epochUnit.current t = s.epochUnit.shadow ∧ bankOf s.epochUnit.current t = currentBank s ∧
  t.epochUnit.shadow = s.epochUnit.shadow ∧ stickySet .commitDone t = true

theorem BanksKept.of_eq (h : t.epochUnit = s.epochUnit) : BanksKept s t := by
  rw [BanksKept, h]
  exact ⟨rfl, rfl, rfl, rfl⟩

theorem failingLanes_congr (number : Nat) (ok : Lane → Bool) (h : t.detectors.enabled = s.detectors.enabled) :
    failingLanes number ok t = failingLanes number ok s := by
  simp only [failingLanes, laneEnabled, h]

theorem failingChannels_congr (number : Nat) (applies : ChannelConfig → Bool) (ok : Channel → Bool)
    (h : ∀ n : Channel, t.channels[n].config = s.channels[n].config) :
    failingChannels number applies ok t = failingChannels number applies ok s := by
  simp only [failingChannels, h]

/-- A validation reads the settings alone (R91). -/
theorem validate_congr (p : ProfileSet) (henabled : t.detectors.enabled = s.detectors.enabled)
    (hconfig : ∀ n : Channel, t.channels[n].config = s.channels[n].config) : validate p t = validate p s := by
  have henabled' (l : Lane) : laneEnabled l t = laneEnabled l s := by rw [laneEnabled, henabled, laneEnabled]
  simp only [validate, validationFailures, failingLanes_congr _ _ henabled, failingChannels_congr _ _ _ hconfig, hconfig, henabled']

/-- R96: a state with the epoch unit of a commit, and COMMIT_DONE set. -/
theorem committed_of_epochUnit {deferral : Bool} (hpending : s.epochUnit.pending = true) (hhold : s.epochUnit.hold = false)
    (hvalid : validate s.epochUnit.shadow s = none) (hunit : t.epochUnit = { s.epochUnit.commit with deferral := deferral })
    (hdone : stickySet .commitDone t = true) : Committed s t := by
  refine ⟨hpending, hhold, hvalid, ?_⟩
  simp only [hunit, bankOf, currentBank, EpochUnit.commit_eq]
  cases hcurrent : s.epochUnit.current <;> simp [Bank.other, hdone]

theorem commit_commitDone (s : State) : stickySet .commitDone (commit s) = true :=
  Effects.stickySet (sound := False) (posting := False) (.then (.refl _) (.offer _)) .commitDone (by rw [stickySet_setFlag]; simp)

/-- A commit attempt leaves the banks, or commits (Table 5-7). -/
theorem pitchMark_banks (s : State) : BanksKept s (pitchMark s) ∨
    s.window.frameOpen = false ∧ s.epochUnit.rejected = false ∧ Committed s (pitchMark s) := by
  have hattempt : (pitchMark s).epochUnit = (commitAttempt s).epochUnit := rfl
  rcases commitAttempt_cases s with ⟨_, e⟩ | ⟨_, _, e⟩ | ⟨_, _, _, e⟩ | ⟨hdue, hframe, _, ⟨code, _, e⟩ | ⟨hvalid, e⟩⟩
  · exact .inl (.of_eq (by rw [hattempt, e]))
  · exact .inl (by rw [BanksKept, hattempt, e]; unfold deferCommit; split <;> exact ⟨rfl, rfl, rfl, rfl⟩)
  · exact .inl (by rw [BanksKept, hattempt, e]; unfold deferCommit; split <;> exact ⟨rfl, rfl, rfl, rfl⟩)
  · exact .inl (by rw [BanksKept, hattempt, e]; exact ⟨rfl, rfl, rfl, rfl⟩)
  · simp only [attemptDue, Bool.and_eq_true, Bool.not_eq_true'] at hdue
    obtain ⟨⟨hpending, hhold⟩, hrejected⟩ := hdue
    refine .inr ⟨hframe, hrejected, committed_of_epochUnit (deferral := false) hpending hhold hvalid ?_ ?_⟩
    · rw [hattempt, e]
      exact offer_epochUnit _ _
    · show stickySet .commitDone (commitAttempt s) = true
      rw [e]
      exact commit_commitDone s

theorem Committed.of_epochUnit {u : State} (h : Committed s t) (hunit : u.epochUnit = t.epochUnit)
    (hdone : stickySet .commitDone u = true) : Committed s u := by
  unfold Committed bankOf at *
  rw [hunit]
  exact ⟨h.1, h.2.1, h.2.2.1, h.2.2.2.1, h.2.2.2.2.1, h.2.2.2.2.2.1, h.2.2.2.2.2.2.1, h.2.2.2.2.2.2.2.1, hdone⟩

/-- What an advance has done to the banks when a piece of its work is taken: nothing while the mark is to come. -/
def AdvanceBanks (s : State) (left : List AdvanceWork) (t : State) : Prop :=
  t.epochUnit = s.epochUnit ∨ .mark ∉ left ∧ (BanksKept s t ∨
    s.window.frameOpen = false ∧ s.epochUnit.rejected = false ∧ Committed s t)

theorem AdvanceBanks.step {left : List AdvanceWork} {u : State} (h : AdvanceBanks s left u) (hsettings : StoppedOnlyKept s u)
    (hwindow : u.window = s.window) (hleft : Leftover left) (fixed : Option (List Slot)) {w : AdvanceWork}
    (hready : workReady u left w = true) : AdvanceBanks s (left.erase w ++ (doWork fixed w u).2) (doWork fixed w u).1 := by
  have heffects : Effects False True u (doWork fixed w u).1 := doWork_effects fixed w trivial False.elim
  by_cases hmark : w = .mark
  · subst hmark
    have hin : AdvanceWork.mark ∈ left := by simpa [workReady, wholeWork] using hready
    have hunit : u.epochUnit = s.epochUnit := h.resolve_right fun hout => hout.1 hin
    refine .inr ⟨mark_not_mem_follows hleft fixed u, ?_⟩
    have hat : BanksKept u (doWork fixed .mark u).1 ∨ u.window.frameOpen = false ∧ u.epochUnit.rejected = false ∧
        Committed u (doWork fixed .mark u).1 := by
      simp only [doWork]
      split
      · exact pitchMark_banks u
      · exact .inl (.of_eq rfl)
    have hvalid : validate s.epochUnit.shadow u = validate s.epochUnit.shadow s :=
      validate_congr _ hsettings.2.2.2.2.1 hsettings.2.2.2.2.2
    unfold BanksKept Committed currentBank bankOf at *
    rw [hunit, hwindow, hvalid] at hat
    exact hat
  · obtain ⟨_, hepoch⟩ := doWork_m fixed hmark u
    refine h.imp hepoch.trans fun ⟨hout, hbanks⟩ => ⟨mt (mark_mem_follows fixed hmark u).1 hout, ?_⟩
    refine hbanks.imp (fun hkept => ?_) fun ⟨hframe, hrejected, hcommitted⟩ => ⟨hframe, hrejected, ?_⟩
    · rw [BanksKept, hepoch]
      exact hkept
    · exact hcommitted.of_epochUnit hepoch (heffects.stickySet .commitDone hcommitted.2.2.2.2.2.2.2.2)

/-- R17, R96: an advance leaves the banks, or commits at its mark. -/
theorem advanceOnce_banks (first : List AdvanceWork) (s : State) : BanksKept s (advanceOnce first s) ∨
    s.window.frameOpen = false ∧ s.epochUnit.rejected = false ∧ Committed s (advanceOnce first s) := by
  obtain ⟨left, fixed, u, heq, ⟨hbanks, _, _⟩, _⟩ := advanceOnce_induction (first := first)
    (P := fun left _ u => AdvanceBanks s left u ∧ StoppedOnlyKept s u ∧ u.window = s.window)
    ⟨.inl rfl, ⟨rfl, rfl, rfl, rfl, rfl, fun _ => rfl⟩, rfl⟩
    fun left fixed w u _ hleft hready _ ⟨hbanks, hsettings, hwindow⟩ =>
      ⟨hbanks.step hsettings hwindow hleft fixed hready,
        hsettings.trans (doWork_effects (sound := False) (posting := True) fixed w trivial False.elim).stoppedOnlyKept,
        (doWork_window fixed w u).trans hwindow⟩
  have htail : (advanceOnce first s).epochUnit = u.epochUnit := by rw [heq]; simp
  have heffects : Effects False True u (advanceOnce first s) := heq ▸ ((Effects.refl u).settlePosts.settleDrain)
  rcases hbanks with hunit | ⟨_, hkept | ⟨hframe, hrejected, hcommitted⟩⟩
  · exact .inl (.of_eq (htail.trans hunit))
  · exact .inl (by rw [BanksKept, htail]; exact hkept)
  · exact .inr ⟨hframe, hrejected, hcommitted.of_epochUnit htail (heffects.stickySet .commitDone hcommitted.2.2.2.2.2.2.2.2)⟩

/-- R84: no event but an advance changes the banks. -/
theorem exec_event_epochUnit (hbyte : c.byteWritten = none) (hreset : ∀ levels, c ≠ .pinReset levels)
    (hadvance : ∀ first, c ≠ .advance first) (h : exec c s = .next t) : t.epochUnit = s.epochUnit := by
  cases c with
  | pinReset levels => exact absurd rfl (hreset levels)
  | advance first => exact absurd rfl (hadvance first)
  | microsecondsPulseEnd n => cases h; (repeat' split) <;> simp
  | recoveryExpiry n =>
    cases h
    split
    · simp only [expireRecovery]; split <;> simp
    · rfl
  | speedWindowEnd => cases h; rfl
  | rawInputChange l high => cases h; split <;> simp
  | debounceExpiry l => cases h; (repeat' split) <;> simp
  | faultReport => cases h; split <;> simp
  | legalTransition | illegalTransition | verdictTake | outcomePost | drainComplete | frameBegin | controlByte | frameEnd | snapshotRead
  | addressByte => cases h; simp
  | _ => cases hbyte

/-- R83, R88, R89: a byte outside the command register changes the shadow set and the settings of the epoch unit at most. -/
theorem writeAddress_banksKept {a : Addr} (v : Byte) (h : target a ≠ .command) : BanksKept s (writeAddress a v s) := by
  have hstaged : BanksKept s (writeStaged a v s) := by
    unfold writeStaged
    split <;> exact ⟨rfl, rfl, rfl, rfl⟩
  unfold writeAddress
  cases htarget : target a with
  | command => exact absurd htarget h
  | pitch | laneBlock | channelBlock => exact hstaged
  | stageHold =>
    simp only [writeHold]
    split <;> exact ⟨rfl, rfl, rfl, rfl⟩
  | viewSelect =>
    simp only [writeView]
    split <;> exact ⟨rfl, rfl, rfl, rfl⟩
  | _ => exact .of_eq (by simp)

theorem beginRun_epochUnit (committing : Bool) (s : State) : (beginRun committing s).epochUnit =
    { (if committing then s.epochUnit.commit else s.epochUnit) with deferral := false } := by
  rw [beginRun_eq]
  simp [loadedRun_epochUnit]

theorem commandStart_banks (s : State) : BanksKept s (commandStart s) ∨
    s.engine.state = .stopped ∧ s.epochUnit.rejected = false ∧ Committed s (commandStart s) := by
  unfold commandStart
  split
  · exact .inl (.of_eq (by simp))
  rename_i hstate
  split
  · rename_i hdue
    split
    · rename_i hvalid
      simp only [attemptDue, Bool.and_eq_true, Bool.not_eq_true'] at hdue
      obtain ⟨⟨hpending, hhold⟩, hrejected⟩ := hdue
      refine .inr ⟨not_not.1 hstate, hrejected, committed_of_epochUnit (deferral := false) hpending hhold hvalid ?_ ?_⟩
      · rw [finishCommand_epochUnit, beginRun_epochUnit]
        rfl
      · have hloaded := (loadedRun_queue true s).2 .commitDone
        simp only [stickySet, finishCommand_eq, if_true, beginRun_eq] at hloaded ⊢
        simpa using hloaded
    · exact .inl (by rw [BanksKept, finishCommand_epochUnit]; exact ⟨rfl, rfl, rfl, rfl⟩)
  · split
    · exact .inl (by rw [BanksKept, finishCommand_epochUnit, beginRun_epochUnit]; exact ⟨rfl, rfl, rfl, rfl⟩)
    · exact .inl (by rw [BanksKept, finishCommand_epochUnit]; exact ⟨rfl, rfl, rfl, rfl⟩)

theorem commandCommit_banks (s : State) : BanksKept s (commandCommit s) ∨
    s.engine.state = .stopped ∧ Committed s (commandCommit s) := by
  unfold commandCommit
  split
  · exact .inl (.of_eq (by simp))
  rename_i hstate
  split
  · exact .inl (.of_eq (by simp))
  rename_i hhold
  split
  · exact .inl (.of_eq (by simp))
  rename_i hpending
  split
  · rename_i hvalid
    refine .inr ⟨not_not.1 hstate, committed_of_epochUnit (deferral := false) (by simpa using hpending) (by simpa using hhold) hvalid ?_ ?_⟩
    · rw [finishCommand_epochUnit]
      exact offer_epochUnit _ _
    · rw [finishCommand_eq]
      exact commit_commitDone s
  · exact .inl (by rw [BanksKept, finishCommand_epochUnit]; exact ⟨rfl, rfl, rfl, rfl⟩)

theorem writeCommand_banks (v : Byte) (s : State) : BanksKept s (writeCommand v s) ∨
    (v = 1 ∧ s.engine.state = .stopped ∧ s.epochUnit.rejected = false ∧ Committed s (writeCommand v s)) ∨
    (v = 5 ∧ s.engine.state = .stopped ∧ Committed s (writeCommand v s)) := by
  unfold writeCommand
  split
  · rename_i h
    exact (commandStart_banks s).imp_right fun hs => .inl ⟨h, hs⟩
  split
  · exact .inl (.of_eq (by simp))
  split
  · exact .inl (.of_eq (by simp))
  split
  · exact .inl (.of_eq (by simp))
  split
  · rename_i h
    exact (commandCommit_banks s).imp_right fun hs => .inr ⟨h, hs⟩
  split
  · exact .inl ⟨rfl, rfl, rfl, rfl⟩
  split
  · exact .inl (.of_eq (by simp))
  · exact .inl (.of_eq rfl)

/-- Settles O55: the settings through the effects of each command, and the banks at an advance, a START and a COMMIT_NOW. -/
theorem configurationChangesOnlyByItsRules : Obligations.ConfigurationChangesOnlyByItsRules := by
  refine ⟨fun c s t h hstate hreset => ?_, fun c s t h hreset => ?_⟩
  · show StoppedOnlyKept s t
    cases hbyte : c.byteWritten with
    | none => exact (exec_event_effects (sound := False) (posting := True) hbyte hreset (fun _ => trivial) False.elim h).stoppedOnlyKept
    | some byte =>
      obtain ⟨a, v⟩ := byte
      rcases exec_write_cases hbyte h with rfl | ⟨u, w, rfl, ⟨ha, _, rfl⟩ | ⟨first, _, rfl⟩ | ⟨_, _, rfl⟩⟩
      · exact .refl _
      · exact writeAddress_stoppedOnlyKept v hstate (mt target_eq_command ha)
      · exact (commandResume_effects (sound := False) (posting := True) first False.elim).stoppedOnlyKept
      · exact writeCommand_stoppedOnlyKept v s
  · show BanksKept s t ∨ _
    cases hbyte : c.byteWritten with
    | none =>
      by_cases hadvance : ∃ first, c = .advance first
      · obtain ⟨first, rfl⟩ := hadvance
        obtain rfl : (if canAdvance s then advanceOnce first s else s) = t := Host.Outcome.next.inj h
        split
        · exact (advanceOnce_banks first s).imp_right fun ⟨hframe, hrejected, hcommitted⟩ =>
            ⟨.inl ⟨⟨first, rfl⟩, hframe, hrejected⟩, hcommitted⟩
        · exact .inl (.of_eq rfl)
      · exact .inl (.of_eq (exec_event_epochUnit hbyte hreset (not_exists.1 hadvance) h))
    | some byte =>
      obtain ⟨a, v⟩ := byte
      rcases exec_write_cases hbyte h with rfl | ⟨u, w, rfl, ⟨ha, _, rfl⟩ | ⟨first, _, rfl⟩ | ⟨_, hissues, rfl⟩⟩
      · exact .inl (.of_eq rfl)
      · exact .inl (writeAddress_banksKept v (mt target_eq_command ha))
      · exact .inl (.of_eq (commandResume_epochUnit s first))
      · rcases writeCommand_banks v s with hkept | ⟨rfl, hstopped, hrejected, hcommitted⟩ | ⟨rfl, hstopped, hcommitted⟩
        · exact .inl hkept
        · exact .inr ⟨.inr (.inl ⟨hstopped, hissues, hrejected⟩), hcommitted⟩
        · exact .inr ⟨.inr (.inr ⟨hstopped, hissues⟩), hcommitted⟩

end Sys2Proof.Machine
end

section
set_option Elab.async false
/-! PROOFS. An accepted RESUME (R152): the edges that the resample creates (R36), and the deferred actions that the IDLE channels take
back (R140). -/

namespace Sys2Proof.Machine

variable {s t : State}

/-! ### The pending edge of one lane under the events of another -/

/-- The pending edge of a lane is put in or taken out. -/
def setEdge (k : Lane) (ed : Option PendingEdge) (s : State) : State := modifyDetector k ({ · with edge := ed }) s

section SetEdge

variable (k : Lane) (ed : Option PendingEdge) (s : State)

theorem detectorOf_setEdge (l : Lane) : detectorOf l (setEdge k ed s) =
    if k = l then { detectorOf k s with edge := ed } else detectorOf l s :=
  detectorOf_modifyDetector s k l _

theorem modifyDetector_setEdge {l : Lane} (hne : k ≠ l) (f : Detector → Detector) :
    modifyDetector l f (setEdge k ed s) = setEdge k ed (modifyDetector l f s) := by
  have hlanes : updateAt (updateAt s.detectors.lane k ({ · with edge := ed })) l f =
      updateAt (updateAt s.detectors.lane l f) k ({ · with edge := ed }) := by
    apply Vector.ext
    intro i hi
    simp only [updateAt_getElem]
    have hval : k.val ≠ l.val := fun h => hne (Fin.ext h)
    by_cases hil : l.val = i
    · rw [if_pos hil, if_neg hval, if_neg (by omega), if_pos hil]
    · rw [if_neg hil, if_neg hil]
      by_cases hik : k.val = i
      · rw [if_pos hik, if_pos hik, if_neg (by omega)]
      · rw [if_neg hik, if_neg hik]
  exact congrArg (fun lanes => { s with detectors := { s.detectors with lane := lanes } }) hlanes

theorem offer_setEdge (r : Report) : offer r (setEdge k ed s) = setEdge k ed (offer r s) := (modifyDetector_offer k _ r s).symm

theorem raise_setEdge (code : ExceptionCode) (l : Option Lane) (tag : Option Half) :
    raise code l tag (setEdge k ed s) = setEdge k ed (raise code l tag s) :=
  offer_setEdge k ed (setFlag .exception s) _

theorem modifyEntry_setEdge (slot : Slot) (f : Entry → Entry) :
    modifyEntry slot f (setEdge k ed s) = setEdge k ed (modifyEntry slot f s) := by
  have hentry : entryAt slot (setEdge k ed s) = entryAt slot s := rfl
  simp only [modifyEntry, hentry]
  cases entryAt slot s <;> rfl

theorem addFlags_setEdge (slot : Slot) (f : EntryFlags → EntryFlags) :
    addFlags slot f (setEdge k ed s) = setEdge k ed (addFlags slot f s) := modifyEntry_setEdge k ed s slot _

theorem placeItemAction_setEdge (slot : Slot) (e : Entry) (n : Channel) :
    placeItemAction slot e n (setEdge k ed s) = setEdge k ed (placeItemAction slot e n s) := by
  simp only [placeItemAction, apply_ite (setEdge k ed), ← addFlags_setEdge]
  rfl

theorem placeItemActions_setEdge (slot : Slot) (e : Entry) :
    placeItemActions slot e (setEdge k ed s) = setEdge k ed (placeItemActions slot e s) := by
  have hfold (ns : List Channel) : ns.foldl (fun s n => placeItemAction slot e n s) (setEdge k ed s) =
      setEdge k ed (ns.foldl (fun s n => placeItemAction slot e n s) s) := by
    induction ns generalizing s with
    | nil => rfl
    | cons n ns ih => rw [List.foldl_cons, List.foldl_cons, placeItemAction_setEdge, ih]
  exact hfold _

theorem openEntry_setEdge (slot : Slot) (l : Lane) (leading : Word) :
    openEntry slot l leading (setEdge k ed s) = setEdge k ed (openEntry slot l leading s) :=
  placeItemActions_setEdge k ed { setEntry slot (openedEntry l leading s) s with table := {
    (setEntry slot (openedEntry l leading s) s).table with laneList := updateAt s.table.laneList l (· ++ [slot]) } } slot
    (openedEntry l leading s)

theorem confirm_setEdge (slot : Slot) (e : Entry) (length : Half) (overlength : Option Class) :
    confirm slot e length overlength (setEdge k ed s) = setEdge k ed (confirm slot e length overlength s) := by
  have htag : confirmTag e.lane (setEdge k ed s) = confirmTag e.lane s := by
    refine confirmTag_congr _ rfl ?_
    rw [detectorOf_setEdge]
    split
    · rename_i hk
      rw [hk]
    · rfl
  have hlanes (x : State) (tag : Half) : modifyDetector e.lane ({ · with nextTag := tag }) (setEdge k ed x) =
      setEdge k ed (modifyDetector e.lane ({ · with nextTag := tag }) x) := by
    by_cases hk : k = e.lane
    · subst hk
      simp only [setEdge, modifyDetector_modifyDetector]
    · exact modifyDetector_setEdge k ed x hk _
  rw [confirm_eq, confirm_eq, htag, ← hlanes, ← offer_setEdge]
  rfl

theorem measure_setEdge (l : Lane) (slot : Slot) (e : Entry) (trailing : Word) :
    measure l slot e trailing (setEdge k ed s) = setEdge k ed (measure l slot e trailing s) := by
  simp only [measure, apply_ite (setEdge k ed), ← confirm_setEdge, ← raise_setEdge]
  rfl

theorem takeLeading_setEdge {l : Lane} (hne : k ≠ l) (e : PendingEdge) :
    takeLeading l e (setEdge k ed s) = setEdge k ed (takeLeading l e s) := by
  unfold takeLeading
  split
  · rw [raise_setEdge, modifyDetector_setEdge k ed _ hne]
  have hengine : (setEdge k ed s).engine = s.engine := rfl
  have htable : (setEdge k ed s).table = s.table := rfl
  rw [hengine, htable]
  split
  · rw [raise_setEdge, goTo, modifyDetector_setEdge k ed _ hne, goTo]
  · split
    · rw [raise_setEdge, goTo]
      exact modifyDetector_setEdge k ed (modifyCounters l _ (raise .tableFull (some l) none s)) hne _
    · rw [goTo, modifyDetector_setEdge k ed _ hne, openEntry_setEdge]
      rfl

theorem takeTrailing_setEdge {l : Lane} (hne : k ≠ l) (e : PendingEdge) :
    takeTrailing l e (setEdge k ed s) = setEdge k ed (takeTrailing l e s) := by
  have hdetector : detectorOf l (setEdge k ed s) = detectorOf l s := by rw [detectorOf_setEdge, if_neg hne]
  have hopening : openingEntry l (setEdge k ed s) = openingEntry l s := rfl
  have hgap (x : State) : openGap l e.latched (setEdge k ed x) = setEdge k ed (openGap l e.latched x) :=
    modifyDetector_setEdge k ed x hne _
  simp only [takeTrailing, hdetector, hopening, ← hgap]
  split
  · rw [measure_setEdge]
  · rfl

/-- An edge taken on one lane and the pending edge of another lane do not meet. -/
theorem takeEdge_setEdge {l : Lane} (hne : k ≠ l) (e : PendingEdge) :
    takeEdge l e (setEdge k ed s) = setEdge k ed (takeEdge l e s) := by
  have hdetector : detectorOf l (setEdge k ed s) = detectorOf l s := by rw [detectorOf_setEdge, if_neg hne]
  simp only [takeEdge, hdetector, modifyDetector_setEdge k ed s hne, takeTrailing_setEdge k ed _ hne, takeLeading_setEdge k ed _ hne,
    ← apply_ite (setEdge k ed)]

/-- The edge taken is the lane's own, whatever its detector holds. -/
theorem takeEdge_setEdge_self (e : PendingEdge) : takeEdge k e (setEdge k ed s) = takeEdge k e s := by
  have hstate : (detectorOf k (setEdge k ed s)).state = (detectorOf k s).state := by rw [detectorOf_setEdge, if_pos rfl]
  have hclear : modifyDetector k ({ · with edge := none }) (setEdge k ed s) = modifyDetector k ({ · with edge := none }) s := by
    simp only [setEdge, modifyDetector_modifyDetector]
  simp only [takeEdge, hstate, hclear]

end SetEdge

/-! ### The resample (R36) -/

/-- An enabled lane whose input differs from its taken level. -/
def differs (l : Lane) (s : State) : Bool := laneEnabled l s && activeInput l s != takenLevel (detectorOf l s).state

/-- The debounce of a lane in the current bank. -/
def debounceOf (l : Lane) (s : State) : Byte := (currentBank s).lanes[l].debounce

/-- The edge that the resample of a lane creates, pending. -/
def preset (s : State) (l : Lane) : State := if differs l s then setEdge l (some (newEdge l s)) s else s

/-- The pending edge of a lane is taken. -/
def takePending (s : State) (l : Lane) : State :=
  match (detectorOf l s).edge with
  | some e => takeEdge l e s
  | none => s

theorem resample_eq (s : State) (l : Lane) : resample s l =
    if differs l s then if debounceOf l s = 0 then takeEdge l (newEdge l s) s else setEdge l (some (newEdge l s)) s else s := rfl

/-- From s to t nothing that the resample of a lane reads has changed. -/
structure SameInput (l : Lane) (s t : State) : Prop where
  enabled : t.detectors.enabled = s.detectors.enabled
  det : t.det = s.det
  epochUnit : t.epochUnit = s.epochUnit
  motion : t.motion = s.motion
  state : (detectorOf l t).state = (detectorOf l s).state

theorem SameInput.refl (l : Lane) (s : State) : SameInput l s s := ⟨rfl, rfl, rfl, rfl, rfl⟩

theorem SameInput.differs {l : Lane} (h : SameInput l s t) : differs l t = differs l s := by
  simp only [Machine.differs, laneEnabled, activeInput, h.enabled, h.det, h.state, currentBank_congr h.epochUnit]

theorem SameInput.debounceOf {l : Lane} (h : SameInput l s t) : debounceOf l t = debounceOf l s := by
  rw [Machine.debounceOf, Machine.debounceOf, currentBank_congr h.epochUnit]

theorem SameInput.newEdge {l : Lane} (h : SameInput l s t) : newEdge l t = newEdge l s := by
  simp only [Machine.newEdge, currentBank_congr h.epochUnit, h.motion, h.state]

theorem setEdge_sameInput (k l : Lane) (ed : Option PendingEdge) (s : State) : SameInput l s (setEdge k ed s) := by
  refine ⟨rfl, rfl, rfl, rfl, ?_⟩
  rw [detectorOf_setEdge]
  split
  · rename_i hk
    rw [hk]
  · rfl

theorem preset_sameInput (s : State) (k l : Lane) : SameInput l s (preset s k) := by
  unfold preset
  split
  · exact setEdge_sameInput k l _ s
  · exact .refl l s

theorem confirm_detector_state (slot : Slot) (e : Entry) (length : Half) (overlength : Option Class) (s : State) (l : Lane) :
    (detectorOf l (confirm slot e length overlength s)).state = (detectorOf l s).state := by
  rw [confirm_eq, detectorOf_modifyDetector]
  split
  · rename_i hl
    subst hl
    simp [detectorOf]
  · simp [detectorOf]

/-- An edge taken on one lane leaves the other detectors where they are. -/
theorem takeEdge_detector_state {k l : Lane} (hne : k ≠ l) (e : PendingEdge) (s : State) :
    (detectorOf l (takeEdge k e s)).state = (detectorOf l s).state := by
  have hmodify (f : Detector → Detector) (u : State) : detectorOf l (modifyDetector k f u) = detectorOf l u := by
    rw [detectorOf_modifyDetector, if_neg hne]
  have hmeasure (slot : Slot) (x : Entry) (u : State) : (detectorOf l (measure k slot x e.latched u)).state = (detectorOf l u).state := by
    unfold measure
    dsimp only
    split
    · simp [detectorOf]
    · exact confirm_detector_state slot x _ _ u l
  unfold takeEdge
  dsimp only
  split
  · rw [takeTrailing, openGap, hmodify]
    split
    · rw [hmeasure, hmodify]
    · rw [hmodify]
  · unfold takeLeading
    split
    · rw [hmodify]
      simp [detectorOf, Fin.val_ne_of_ne hne]
    split
    · rw [goTo, hmodify]
      simp [detectorOf, Fin.val_ne_of_ne hne]
    · split
      · rw [goTo, hmodify]
        simp [detectorOf, Fin.val_ne_of_ne hne]
      · simp only [detectorOf, openEntry_detectors]
        show (detectorOf l (goTo k .covered _)).state = _
        rw [goTo, hmodify, hmodify]
        rfl

theorem takeEdge_sameInput {k l : Lane} (hne : k ≠ l) (e : PendingEdge) (s : State) : SameInput l s (takeEdge k e s) :=
  ⟨(takeEdge_effects (sound := False) (posting := False) k e False.elim).settingsKept.1, takeEdge_det s k e, takeEdge_epochUnit s k e,
    takeEdge_motion s k e, takeEdge_detector_state hne e s⟩

theorem takeEdge_preset {k l : Lane} (hne : k ≠ l) (e : PendingEdge) (s : State) :
    takeEdge k e (preset s l) = preset (takeEdge k e s) l := by
  have hsame := takeEdge_sameInput hne e s
  rw [preset, preset, hsame.differs, hsame.newEdge]
  split
  · exact takeEdge_setEdge l _ s hne.symm e
  · rfl

theorem takeEdge_foldl_preset {k : Lane} (e : PendingEdge) (ls : List Lane) (hk : k ∉ ls) (s : State) :
    takeEdge k e (ls.foldl preset s) = ls.foldl preset (takeEdge k e s) := by
  induction ls generalizing s with
  | nil => rfl
  | cons l ls ih =>
    rw [List.mem_cons, not_or] at hk
    rw [List.foldl_cons, List.foldl_cons, ih hk.2, takeEdge_preset hk.1]

theorem foldl_preset_detector {k : Lane} (ls : List Lane) (hk : k ∉ ls) (s : State) :
    detectorOf k (ls.foldl preset s) = detectorOf k s := by
  induction ls generalizing s with
  | nil => rfl
  | cons l ls ih =>
    rw [List.mem_cons, not_or] at hk
    rw [List.foldl_cons, ih hk.2, preset]
    split
    · rw [detectorOf_setEdge, if_neg (Ne.symm hk.1)]
    · rfl

/-- R36: the lanes with a debounce take their edges later, and the others as their debounce expiries would, lane after lane. -/
theorem foldl_resample (ls : List Lane) (hnodup : ls.Nodup) (s : State) :
    ls.foldl resample s = (ls.filter fun l => differs l s && debounceOf l s == 0).foldl takePending (ls.foldl preset s) := by
  induction ls generalizing s with
  | nil => rfl
  | cons l ls ih =>
    obtain ⟨hl, hnodup⟩ := List.nodup_cons.1 hnodup
    have hfilter {t : State} (hsame : ∀ k ∈ ls, SameInput k s t) : (ls.filter fun k => differs k t && debounceOf k t == 0) =
        ls.filter fun k => differs k s && debounceOf k s == 0 :=
      List.filter_congr fun k hk => by rw [(hsame k hk).differs, (hsame k hk).debounceOf]
    rw [List.foldl_cons, List.foldl_cons, ih hnodup, resample_eq]
    cases hdiffers : differs l s with
    | false => simp [hdiffers, preset]
    | true =>
      by_cases hzero : debounceOf l s = 0
      · rw [if_pos rfl, if_pos hzero, List.filter_cons_of_pos (by simp [hdiffers, hzero]), List.foldl_cons,
          hfilter fun k hk => takeEdge_sameInput (by rintro rfl; exact hl hk) _ s]
        have hpreset : preset s l = setEdge l (some (newEdge l s)) s := if_pos hdiffers
        have hedge : (detectorOf l (ls.foldl preset (preset s l))).edge = some (newEdge l s) := by
          rw [foldl_preset_detector ls hl, hpreset, detectorOf_setEdge, if_pos rfl]
        rw [takePending, hedge]
        dsimp only
        rw [takeEdge_foldl_preset _ ls hl, hpreset, takeEdge_setEdge_self]
      · rw [if_pos rfl, if_neg hzero, List.filter_cons_of_neg (by rw [hdiffers, Bool.true_and, beq_iff_eq]; exact hzero),
          hfilter fun k _ => setEdge_sameInput l k _ s, preset, if_pos hdiffers]

theorem foldl_preset_frame (ls : List Lane) (s : State) :
    ∃ v, ls.foldl preset s = { s with detectors := { s.detectors with lane := v } } := by
  induction ls generalizing s with
  | nil => exact ⟨s.detectors.lane, rfl⟩
  | cons l ls ih =>
    obtain ⟨v, hv⟩ := ih (preset s l)
    refine ⟨v, hv.trans ?_⟩
    unfold preset
    split <;> rfl

theorem foldl_preset_detectorOf (ls : List Lane) (s : State) (l : Lane) : detectorOf l (ls.foldl preset s) =
    if l ∈ ls ∧ differs l s then { detectorOf l s with edge := some (newEdge l s) } else detectorOf l s := by
  induction ls generalizing s with
  | nil => simp
  | cons k ls ih =>
    have hsame := preset_sameInput s k l
    rw [List.foldl_cons, ih, hsame.differs, hsame.newEdge]
    by_cases hk : k = l
    · subst hk
      unfold preset
      by_cases hd : differs k s = true <;> simp [hd, detectorOf_setEdge]
    · have hother : detectorOf l (preset s k) = detectorOf l s := foldl_preset_detector (k := l) [k] (by simpa using Ne.symm hk) s
      rw [hother]
      simp [Ne.symm hk]

/-! ### The lanes in the order that a RESUME names -/

section Preferred

variable {α : Type} [DecidableEq α]

theorem nodup_eraseDups : ∀ l : List α, l.eraseDups.Nodup
  | [] => by simp
  | a :: l => by
    rw [List.eraseDups_cons, List.nodup_cons]
    exact ⟨by simp [List.mem_eraseDups], nodup_eraseDups _⟩
termination_by l => l.length
decreasing_by exact Nat.lt_succ_of_le (List.length_filter_le _ l)

theorem mem_preferred (first all : List α) (x : α) : x ∈ preferred first all ↔ x ∈ all := by
  by_cases h : x ∈ first <;> simp [preferred, List.mem_eraseDups, h]

theorem nodup_preferred (first : List α) {all : List α} (hall : all.Nodup) : (preferred first all).Nodup := by
  refine List.nodup_append.2 ⟨(nodup_eraseDups first).filter _, hall.filter _, ?_⟩
  rintro x hx _ hy rfl
  simp only [List.mem_filter, List.mem_eraseDups] at hx hy
  simp [hx.1] at hy

end Preferred

/-! ### The deferred actions that an edge leaves (R134) -/

/-- No action of the schedule is deferred on the channel. -/
def NoDeferred (n : Channel) (s : State) : Prop := ∀ a ∈ s.schedule, deferredOn n a = false

theorem placeItemAction_noDeferred {n : Channel} (slot : Slot) (e : Entry) (k : Channel) (h : NoDeferred n s) :
    NoDeferred n (placeItemAction slot e k s) := by
  have hplace (start : Word) (prof : ChannelProfile) : NoDeferred n (place (newAction k (some slot) start prof s) s) := by
    intro a ha
    rcases List.mem_cons.1 ((insertAction_perm _ _ _).mem_iff.1 ha) with rfl | ha
    · simp [deferredOn, newAction, Action.isDeferred]
    · exact h a ha
  unfold placeItemAction
  dsimp only
  (repeat' split)
  · rw [NoDeferred, addFlags_schedule]
    exact h
  · exact hplace _ _
  · rw [NoDeferred, addFlags_schedule]
    exact h
  · rw [NoDeferred, addFlags_schedule]
    exact hplace _ _

theorem detachItem_noDeferred {n : Channel} (slot : Slot) {l : List Action} (h : ∀ a ∈ l, deferredOn n a = false) :
    ∀ a ∈ detachItem slot l, deferredOn n a = false := by
  intro a ha
  simp only [detachItem, List.mem_map, List.mem_filter] at ha
  obtain ⟨b, ⟨hb, _⟩, rfl⟩ := ha
  split
  · exact h b hb
  · exact h b hb

theorem takeEdge_noDeferred {n : Channel} (l : Lane) (e : PendingEdge) (h : NoDeferred n s) : NoDeferred n (takeEdge l e s) := by
  have hmeasure (slot : Slot) (x : Entry) {u : State} (hu : NoDeferred n u) : NoDeferred n (measure l slot x e.latched u) := by
    unfold measure
    dsimp only
    split
    · rw [NoDeferred, raise_schedule]
      exact detachItem_noDeferred slot hu
    · rw [NoDeferred, confirm_schedule]
      exact hu
  unfold takeEdge
  dsimp only
  split
  · show NoDeferred n (takeTrailing l e _)
    unfold takeTrailing
    dsimp only
    split
    · exact hmeasure _ _ h
    · exact h
  · unfold takeLeading
    (repeat' split)
    · rw [NoDeferred, modifyDetector_schedule, raise_schedule]
      exact h
    · rw [NoDeferred, goTo_schedule, raise_schedule]
      exact h
    · rw [NoDeferred, goTo_schedule, modifyCounters_schedule, raise_schedule]
      exact h
    · exact foldl_keeps _ _ (fun s k hs => placeItemAction_noDeferred _ _ k hs) _ _ h

theorem foldl_takePending_noDeferred {n : Channel} (ls : List Lane) (h : NoDeferred n s) : NoDeferred n (ls.foldl takePending s) :=
  foldl_keeps _ takePending (fun s l hs => by
    unfold takePending
    split
    · exact takeEdge_noDeferred l _ hs
    · exact hs) ls s h

/-! ### The deferred actions that a channel takes back (R140) -/

theorem deferredOn_iff {n : Channel} {a : Action} : deferredOn n a = true ↔ a.channel = n ∧ a.state = .pending true := by
  simp [deferredOn, Action.isDeferred]

theorem mem_modifyFirst {α : Type} {p : α → Bool} {f : α → α} {l : List α} {x : α} (h : x ∈ modifyFirst p f l) :
    x ∈ l ∨ ∃ y ∈ l, p y = true ∧ x = f y := by
  induction l with
  | nil => cases h
  | cons y l ih =>
    cases hy : p y with
    | true =>
      simp only [modifyFirst, hy, if_true, List.mem_cons] at h
      rcases h with rfl | h
      · exact .inr ⟨y, by simp, hy, rfl⟩
      · exact .inl (by simp [h])
    | false =>
      simp only [modifyFirst, hy, Bool.false_eq_true, if_false, List.mem_cons] at h
      rcases h with rfl | h
      · exact .inl (by simp)
      · rcases ih h with h | ⟨z, hz, hpz, rfl⟩
        · exact .inl (by simp [h])
        · exact .inr ⟨z, by simp [hz], hpz, rfl⟩

/-- The newcomers that are left are all JOIN actions, and none has raised anything. -/
def JoinsQuietly (q : Action → Bool) (s t : State) : Prop :=
  (∀ a ∈ t.schedule, q a = true → a.policy = .join) ∧ t.queue = s.queue ∧ t.interrupts = s.interrupts

theorem settleFirst_joinsQuietly {n : Channel} {q : Action → Bool} (hq : Newcomers n q) (h : JoinsQuietly q s t) :
    JoinsQuietly q s (settleFirst q t) := by
  obtain ⟨hjoin, hqueue, hinterrupts⟩ := h
  have hactive {a : Action} (ha : a.isActive = true) : ¬ q a = true := fun hqa => by
    rw [(hq a hqa).2] at ha
    cases ha
  rcases settleFirst_cases t q with ⟨_, e⟩ | ⟨a, hfind, ⟨_, e⟩ | ⟨_, _, e⟩ | ⟨_, hrefuse, _⟩ | ⟨_, hpolicy, e⟩⟩
  · rw [e]
    exact ⟨hjoin, hqueue, hinterrupts⟩
  · rw [e]
    refine ⟨fun x hx hqx => ?_, by rw [fire_queue, hqueue], by rw [fire_interrupts, hinterrupts]⟩
    rw [fire_schedule] at hx
    rcases mem_modifyFirst hx with hx | ⟨y, _, _, rfl⟩
    · exact hjoin x hx hqx
    · exact absurd hqx (hactive rfl)
  · rw [e]
    refine ⟨fun x hx hqx => ?_, by rw [joinPulse_queue, hqueue], by rw [joinPulse_interrupts, hinterrupts]⟩
    rw [joinPulse_schedule] at hx
    rcases mem_modifyFirst hx with hx | ⟨y, _, hy, rfl⟩
    · exact hjoin x (List.mem_of_mem_eraseP hx) hqx
    · have hstill := (extendEnd_activeOn (h := t.motion.h) (f := pulseFinish t.motion a) hy).1
      simp only [activeOn, Bool.and_eq_true] at hstill
      exact absurd hqx (hactive hstill.2)
  · have := hjoin a (List.mem_of_find?_eq_some hfind) (List.find?_some hfind)
    rw [hrefuse] at this
    cases this
  · rw [e]
    refine ⟨fun x hx hqx => ?_, by rw [deferNewcomer_queue, hqueue], by rw [deferNewcomer_interrupts, hinterrupts]⟩
    have hschedule : (deferNewcomer q a t).schedule = modifyFirst q (fun x => { x with state := .pending true }) t.schedule := by
      unfold deferNewcomer
      cases a.item <;> simp [onItem]
    rw [hschedule] at hx
    rcases mem_modifyFirst hx with hx | ⟨y, hy, hqy, rfl⟩
    · exact hjoin x hx hqx
    · exact hjoin y hy hqy

/-- Newcomers that are all JOIN actions raise nothing. -/
theorem settleAll_join {n : Channel} {q : Action → Bool} (hq : Newcomers n q)
    (hjoin : ∀ a ∈ s.schedule, q a = true → a.policy = .join) (fuel : Nat) :
    (settleAll q fuel s).queue = s.queue ∧ (settleAll q fuel s).interrupts = s.interrupts :=
  (settleAll_keeps (fun t => JoinsQuietly q s t) q (fun _ h => settleFirst_joinsQuietly hq h) fuel s ⟨hjoin, rfl, rfl⟩).2

/-- A pulse that a channel fires and joins leaves the actions of the others. -/
theorem filter_channel_of_newcomers {n m : Channel} {q : Action → Bool} (hq : Newcomers n q) (hm : m ≠ n) (f g : PulseEnd)
    (l : List Action) : (modifyFirst (activeOn n) (withEnd f) ((modifyFirst q (withEnd g) l).filter (!q ·))).filter
      (fun a => a.channel = m) = l.filter fun a => a.channel = m := by
  rw [filter_modifyFirst fun x hx => ?_, List.filter_filter, List.filter_congr (q := fun a => decide (a.channel = m)) fun x _ => ?_,
    filter_modifyFirst fun x hx => ?_]
  · obtain ⟨hchannel, _⟩ := hq x hx
    simp [withEnd, hchannel, hm.symm]
  · cases hqx : q x with
    | false => simp
    | true => simp [(hq x hqx).1, hm.symm]
  · simp only [activeOn, Bool.and_eq_true, decide_eq_true_eq] at hx
    simp [withEnd, hx.1, hm.symm]

/-- What a channel takes back: an IDLE channel with deferred actions fires, and nothing else of the channels and the schedule
changes. -/
theorem takeBack_spec (n : Channel) (hjoin : ∀ a ∈ s.schedule, deferredOn n a = true → a.policy = .join)
    (hnone : s.channels[n].state = .idle → activeAction n s = none) (hlinked : Linked (s.schedule.filter (deferredOn n)) s) :
    (∀ m ≠ n, (takeBack s n).channels[m] = s.channels[m] ∧
      (takeBack s n).schedule.filter (fun a => a.channel = m) = s.schedule.filter (fun a => a.channel = m)) ∧
    (if s.channels[n].state = .idle ∧ s.schedule.filter (deferredOn n) ≠ [] then
      (takeBack s n).channels[n].state = .active ∧ (takeBack s n).schedule.filter (deferredOn n) = []
    else takeBack s n = s) ∧
    (takeBack s n).queue = s.queue ∧ (takeBack s n).interrupts = s.interrupts ∧
    (takeBack s n).table = { s.table with entries := (takeBack s n).table.entries } := by
  by_cases hidle : s.channels[n].state = .idle
  · have htake : takeBack s n = takeDeferred n s := if_pos hidle
    rw [htake]
    obtain ⟨hqueue, hinterrupts⟩ := settleAll_join (newcomers_deferredOn n) hjoin s.schedule.length
    have htable := (settleAll_amends (deferredOn n) s.schedule.length s).table
    cases hdue : s.schedule.filter (deferredOn n) with
    | nil =>
      have hfind : s.schedule.find? (deferredOn n) = none := by
        simpa [List.find?_eq_none, List.filter_eq_nil_iff] using hdue
      rw [takeDeferred, settleAll_of_none hfind, if_neg fun h => h.2 rfl]
      exact ⟨fun _ _ => ⟨rfl, rfl⟩, rfl, rfl, rfl, rfl⟩
    | cons a rest =>
      have hfuel : rest.length < s.schedule.length := by
        have := List.length_filter_le (deferredOn n) s.schedule
        rw [hdue, List.length_cons] at this
        exact this
      obtain ⟨_, hschedule, hchannels, _, _⟩ := settleAll_idle (newcomers_deferredOn n) (s := s)
        (fun f x => by simp [deferredOn, withEnd, Action.isDeferred]) hidle (hnone hidle) hdue hfuel (hdue ▸ hlinked)
      have hexclusive (f : PulseEnd) : ∀ x, activeOn n x = true → deferredOn n x = false ∧ deferredOn n (withEnd f x) = false :=
        fun x hx => ⟨(newcomers_deferredOn n).not_of_activeOn hx, by simp [deferredOn, withEnd, Action.isDeferred]⟩
      have hchannel (m : Channel) : (takeDeferred n s).channels[m] = if n = m then { s.channels[n] with state := .active }
          else s.channels[m] := by
        rw [takeDeferred]
        refine (congrArg (fun v : Vector OutputChannel 16 => v[m]) hchannels).trans ?_
        simp [Vector.getElem_set, Fin.ext_iff]
      refine ⟨fun m hm => ⟨?_, ?_⟩, ?_, hqueue, hinterrupts, htable⟩
      · rw [hchannel, if_neg hm.symm]
      · rw [takeDeferred, hschedule]
        exact filter_channel_of_newcomers (newcomers_deferredOn n) hm _ _ _
      · rw [if_pos ⟨hidle, by simp⟩, hchannel, if_pos rfl, takeDeferred, hschedule, filter_modifyFirst (hexclusive _), List.filter_filter]
        simp
  · have htake : takeBack s n = s := if_neg hidle
    rw [htake, if_neg fun h => hidle h.1]
    exact ⟨fun _ _ => ⟨rfl, rfl⟩, rfl, rfl, rfl, rfl⟩

/-- What a channel has taken back between s and t. -/
def TakenBack (s t : State) (n : Channel) : Prop :=
  if s.channels[n].state = .idle ∧ s.schedule.filter (deferredOn n) ≠ [] then
    t.channels[n].state = .active ∧ t.schedule.filter (deferredOn n) = []
  else t.channels[n] = s.channels[n] ∧ t.schedule.filter (fun a => a.channel = n) = s.schedule.filter (fun a => a.channel = n)

/-- From s to t the channel and its actions are as they were. -/
def ChannelKept (s t : State) (n : Channel) : Prop :=
  t.channels[n] = s.channels[n] ∧ t.schedule.filter (fun a => a.channel = n) = s.schedule.filter (fun a => a.channel = n)

theorem filter_deferredOn (n : Channel) (l : List Action) :
    l.filter (deferredOn n) = (l.filter fun a => a.channel = n).filter (deferredOn n) := by
  rw [List.filter_filter]
  refine List.filter_congr fun a _ => ?_
  cases h : deferredOn n a with
  | false => simp
  | true => simp [(deferredOn_iff.1 h).1]

theorem ChannelKept.deferred {n : Channel} (h : ChannelKept s t n) :
    t.schedule.filter (deferredOn n) = s.schedule.filter (deferredOn n) := by
  rw [filter_deferredOn, h.2, ← filter_deferredOn]

theorem ChannelKept.mem {n : Channel} (h : ChannelKept s t n) {a : Action} (ha : a ∈ t.schedule) (hn : a.channel = n) :
    a ∈ s.schedule := by
  have hin : a ∈ t.schedule.filter fun a => a.channel = n := List.mem_filter.2 ⟨ha, by simpa using hn⟩
  rw [h.2] at hin
  exact (List.mem_filter.1 hin).1

theorem ChannelKept.trans {u : State} {n : Channel} (h : ChannelKept s t n) (h' : ChannelKept t u n) : ChannelKept s u n :=
  ⟨h'.1.trans h.1, h'.2.trans h.2⟩

/-- One channel's turn: it takes back what it had at the beginning, and leaves the other channels. -/
theorem takeBack_turn {n : Channel} (hjoin : ∀ a ∈ s.schedule, a.state = .pending true → a.policy = .join)
    (hnone : ∀ a ∈ s.schedule, a.isActive = false) (hlinked : Linked s.schedule s) (hkept : ChannelKept s t n) (hamends : Amends s t) :
    (∀ m ≠ n, ChannelKept t (takeBack t n) m) ∧ TakenBack s (takeBack t n) n ∧
    (takeBack t n).queue = t.queue ∧ (takeBack t n).interrupts = t.interrupts ∧
    (takeBack t n).table = { t.table with entries := (takeBack t n).table.entries } := by
  have hmem {a : Action} (ha : a ∈ t.schedule) (hdue : deferredOn n a = true) : a ∈ s.schedule := hkept.mem ha (deferredOn_iff.1 hdue).1
  have hactive : activeAction n t = none := List.find?_eq_none.2 fun a ha hon => by
    simp only [activeOn, Bool.and_eq_true, decide_eq_true_eq] at hon
    rw [hnone a (hkept.mem ha hon.1)] at hon
    exact Bool.false_ne_true hon.2
  obtain ⟨hothers, hown, hqueue, hinterrupts, htable⟩ := takeBack_spec n
    (fun a ha hdue => hjoin a (hmem ha hdue) (deferredOn_iff.1 hdue).2) (fun _ => hactive)
    (Linked.amends (fun a ha => hlinked a (hmem (List.mem_filter.1 ha).1 (List.mem_filter.1 ha).2)) hamends)
  refine ⟨hothers, ?_, hqueue, hinterrupts, htable⟩
  rw [TakenBack, ← hkept.deferred, ← hkept.1, ← hkept.2]
  split at hown
  · rwa [if_pos ‹_›]
  · rw [if_neg ‹_›, hown]
    exact ⟨rfl, rfl⟩

theorem TakenBack.kept {u : State} {n : Channel} (h : TakenBack s t n) (h' : ChannelKept t u n) : TakenBack s u n := by
  unfold TakenBack at *
  rwa [h'.1, h'.deferred, h'.2]

/-- R140: every IDLE channel takes back its deferred actions, one after another. -/
theorem foldl_takeBack (hjoin : ∀ a ∈ s.schedule, a.state = .pending true → a.policy = .join)
    (hnone : ∀ a ∈ s.schedule, a.isActive = false) (hlinked : Linked s.schedule s) (ns : List Channel) (hnodup : ns.Nodup)
    (t : State) (hkept : ∀ n ∈ ns, ChannelKept s t n) (hamends : Amends s t) :
    (∀ n ∈ ns, TakenBack s (ns.foldl takeBack t) n) ∧ (∀ n ∉ ns, ChannelKept t (ns.foldl takeBack t) n) ∧
    (ns.foldl takeBack t).queue = t.queue ∧ (ns.foldl takeBack t).interrupts = t.interrupts ∧
    (ns.foldl takeBack t).table = { t.table with entries := (ns.foldl takeBack t).table.entries } := by
  induction ns generalizing t with
  | nil => exact ⟨fun n hn => absurd hn List.not_mem_nil, fun _ _ => ⟨rfl, rfl⟩, rfl, rfl, rfl⟩
  | cons n ns ih =>
    obtain ⟨hn, hnodup⟩ := List.nodup_cons.1 hnodup
    obtain ⟨hothers, hown, hqueue, hinterrupts, htable⟩ := takeBack_turn hjoin hnone hlinked (hkept n List.mem_cons_self) hamends
    have htake : Amends t (takeBack t n) := by
      unfold takeBack
      split
      · exact settleAll_amends _ _ _
      · exact .of_table rfl
    have hne : ∀ m ∈ ns, m ≠ n := fun m hm heq => hn (heq ▸ hm)
    obtain ⟨htaken, hrest, hqueue', hinterrupts', htable'⟩ := ih hnodup (takeBack t n)
      (fun m hm => (hkept m (List.mem_cons_of_mem n hm)).trans (hothers m (hne m hm))) (hamends.trans htake)
    rw [List.foldl_cons]
    refine ⟨fun m hm => ?_, fun m hm => ?_, hqueue'.trans hqueue, hinterrupts'.trans hinterrupts, ?_⟩
    · rcases List.mem_cons.1 hm with rfl | hm
      · exact hown.kept (hrest m hn)
      · exact htaken m hm
    · rw [List.mem_cons, not_or] at hm
      exact (hothers m hm.1).trans (hrest m hm.2)
    · rw [htable', htable]

/-! ### The expiries that a RESUME takes at once (R22, R36) -/

theorem setEdge_self (k : Lane) (s : State) : setEdge k (detectorOf k s).edge s = s := by
  have hlane : s.detectors.lane.set k (detectorOf k s) = s.detectors.lane := by simp [detectorOf]
  exact congrArg (fun v => { s with detectors := { s.detectors with lane := v } }) hlane

theorem takeEdge_detector_edge {k l : Lane} (hne : k ≠ l) (e : PendingEdge) (s : State) :
    (detectorOf l (takeEdge k e s)).edge = (detectorOf l s).edge := by
  conv_lhs => rw [← setEdge_self l s, takeEdge_setEdge _ _ _ hne.symm, detectorOf_setEdge, if_pos rfl]

/-- The state after the DEBOUNCE_EXPIRY of a lane. -/
def expire (s : State) (l : Lane) : State :=
  match exec (.debounceExpiry l) s with
  | .next x => x
  | _ => s

/-- An edge whose debounce is over is pending on the lane. -/
def EdgeOver (s : State) (l : Lane) : Prop := ∃ e, (detectorOf l s).edge = some e ∧ e.expires ≤ s.motion.tick

theorem expire_eq {l : Lane} (htracking : tracking s = true) (h : EdgeOver s l) : expire s l = settleDrain (takePending s l) := by
  obtain ⟨e, hedge, hover⟩ := h
  have hnow : elapseTo e.expires s = s := by
    rw [elapseTo, max_eq_left hover]
  rw [expire, exec_debounceExpiry hedge htracking, hnow, takePending, hedge]

theorem takePending_frame (s : State) (l : Lane) : (takePending s l).engine = s.engine ∧ (takePending s l).motion = s.motion := by
  unfold takePending
  split
  · exact ⟨takeEdge_engine s l _, takeEdge_motion s l _⟩
  · exact ⟨rfl, rfl⟩

theorem EdgeOver.takePending {k l : Lane} (h : EdgeOver s l) (hne : k ≠ l) : EdgeOver (takePending s k) l := by
  obtain ⟨e, hedge, hover⟩ := h
  refine ⟨e, ?_, by rw [(takePending_frame s k).2]; exact hover⟩
  unfold Machine.takePending
  split
  · rw [takeEdge_detector_edge hne, hedge]
  · exact hedge

/-- Where no drain is completed between them, the expiries are the edges taken one after another. -/
theorem foldl_expire (ls : List Lane) (hnodup : ls.Nodup) (s : State) (htracking : tracking s = true)
    (hopen : s.engine.state = .running ∨ s.motion.reports ≠ []) (hover : ∀ l ∈ ls, EdgeOver s l) :
    ls.foldl expire s = ls.foldl takePending s := by
  induction ls generalizing s with
  | nil => rfl
  | cons l ls ih =>
    obtain ⟨hl, hnodup⟩ := List.nodup_cons.1 hnodup
    obtain ⟨hengine, hmotion⟩ := takePending_frame s l
    have hsettled : settleDrain (takePending s l) = takePending s l := by
      rcases hopen with hrunning | hreports
      · exact settleDrain_of_state (by rw [hengine, hrunning]; simp)
      · unfold settleDrain
        rw [hmotion, if_neg (by simpa using hreports)]
    rw [List.foldl_cons, List.foldl_cons, expire_eq htracking (hover l List.mem_cons_self), hsettled]
    refine ih hnodup _ (by rw [tracking, hengine]; exact htracking) (by rw [hengine, hmotion]; exact hopen) fun k hk => ?_
    exact (hover k (List.mem_cons_of_mem l hk)).takePending fun heq => hl (heq ▸ hk)

theorem completeDrain_settleDrain (s : State) : completeDrain (settleDrain s) = completeDrain s := by
  unfold settleDrain
  split
  · rcases completeDrain_cases s with ⟨_, e⟩ | ⟨_, e⟩
    · rw [e, completeDrain, if_neg]
      simp [drainDone]
    · rw [e, e]
  · rfl

/-- R149: the completion at the end comes to the same, whether or not a single expiry may have completed the drain. -/
theorem completeDrain_foldl_expire (ls : List Lane) (hnodup : ls.Nodup) (htracking : tracking s = true)
    (hopen : s.engine.state = .running ∨ ls.length ≤ 1 ∨ s.motion.reports ≠ []) (hover : ∀ l ∈ ls, EdgeOver s l) :
    completeDrain (ls.foldl expire s) = completeDrain (ls.foldl takePending s) := by
  rcases hopen with hrunning | hone | hreports
  · rw [foldl_expire ls hnodup s htracking (.inl hrunning) hover]
  · match ls, hone with
    | [], _ => rfl
    | [l], _ => rw [List.foldl_cons, List.foldl_nil, expire_eq htracking (hover l List.mem_cons_self), completeDrain_settleDrain]; rfl
  · rw [foldl_expire ls hnodup s htracking (.inr hreports) hover]

theorem foldl_takeBack_of_none (h : ∀ n : Channel, s.channels[n].state = .idle → NoDeferred n s) (ns : List Channel) :
    ns.foldl takeBack s = s := by
  induction ns with
  | nil => rfl
  | cons n ns ih =>
    have hturn : takeBack s n = s := by
      unfold takeBack
      split
      · rename_i hidle
        exact settleAll_of_none (List.find?_eq_none.2 fun a ha => by simp [h n hidle a ha]) _
      · rfl
    rw [List.foldl_cons, hturn, ih]

/-! ### The RESUME (R152) -/

/-- The line at the beginning of an accepted RESUME. -/
def begun (back : EngineState) (s : State) : State :=
  { s with
    engine := { s.engine with state := back, frozenFrom := none }
    motion := { s.motion with phaseErrors := 0 } }

/-- The lanes whose edge a RESUME takes at once, in its order. -/
def atOnce (first : List Lane) (s : State) : List Lane :=
  (preferred first allLanes).filter fun l => differs l s && debounceOf l s == 0

theorem resumed_eq (first : List Lane) {back : EngineState} (hback : s.engine.frozenFrom = some back) :
    resumed first s = allChannels.foldl takeBack
      ((atOnce first (begun back s)).foldl takePending ((preferred first allLanes).foldl preset (begun back s))) := by
  rw [resumed, foldl_resample _ (nodup_preferred first (by decide)), hback]
  rfl

/-- R36: what the resample leaves pending. -/
theorem preset_all (first : List Lane) (s : State) : (preferred first allLanes).foldl preset s =
    { s with detectors := { s.detectors with
      lane := Vector.ofFn fun l => if differs l s then { detectorOf l s with edge := some (newEdge l s) } else detectorOf l s } } := by
  obtain ⟨v, hv⟩ := foldl_preset_frame (preferred first allLanes) s
  rw [hv]
  refine congrArg (fun v => { s with detectors := { s.detectors with lane := v } }) (Vector.ext fun i hi => ?_)
  have hlane := foldl_preset_detectorOf (preferred first allLanes) s ⟨i, hi⟩
  rw [hv] at hlane
  have hmem : (⟨i, hi⟩ : Lane) ∈ preferred first allLanes := (mem_preferred _ _ _).2 (List.mem_finRange _)
  rw [Vector.getElem_ofFn]
  simp only [hmem, true_and] at hlane
  exact hlane

/-- What a RESUME does with every debounce above 0: the differing lanes get their edges, and the IDLE channels take back their
deferred actions. -/
theorem resumed_debounced (first : List Lane) {back : EngineState} (hsound : LineSound s) (hfrozen : s.engine.state = .frozen)
    (hback : s.engine.frozenFrom = some back) (hdebounce : ∀ l : Lane, (currentBank s).lanes[l].debounce ≠ 0) :
    (∀ l, detectorOf l (resumed first s) = { detectorOf l s with edge := if differs l s then some (newEdge l s) else none }) ∧
    (∀ n, TakenBack s (resumed first s) n) ∧ (resumed first s).queue = s.queue ∧ (resumed first s).interrupts = s.interrupts ∧
    (resumed first s).table = { s.table with entries := (resumed first s).table.entries } := by
  have hnow : atOnce first (begun back s) = [] := List.filter_eq_nil_iff.2 fun l _ => by
    have hne : debounceOf l (begun back s) ≠ 0 := hdebounce l
    rw [beq_eq_false_iff_ne.2 hne, Bool.and_false]
    exact Bool.false_ne_true
  have hedges (l : Lane) : (detectorOf l s).edge = none := by
    obtain ⟨_, _, _, _, hidle, _⟩ := hsound.engine
    exact hidle (by simp [tracking, hfrozen]) l
  obtain ⟨_, _, hjoin, _⟩ := hsound.channels
  obtain ⟨_, _, _, hnone, _⟩ := hsound.engine
  have hframe := preset_all first (begun back s)
  rw [resumed_eq first hback, hnow, List.foldl_nil]
  generalize (preferred first allLanes).foldl preset (begun back s) = u at hframe
  have hdetectors : (allChannels.foldl takeBack u).detectors = u.detectors :=
    foldl_field (fun s : State => s.detectors) takeBack (fun s n => takeBack_detectors s n) allChannels u
  obtain ⟨htaken, _, hqueue, hinterrupts, htable⟩ := foldl_takeBack (s := u) (by rw [hframe]; exact hjoin)
    (by rw [hframe]; exact hnone hfrozen) (by rw [hframe]; exact hsound.linked fun _ h => h) allChannels (by decide) u
    (fun _ _ => ⟨rfl, rfl⟩) (.of_table rfl)
  refine ⟨fun l => ?_, fun n => ?_, hqueue.trans (by rw [hframe]; rfl), hinterrupts.trans (by rw [hframe]; rfl),
    htable.trans (by rw [hframe]; rfl)⟩
  · have hd : detectorOf l u = if differs l s then { detectorOf l s with edge := some (newEdge l s) } else detectorOf l s := by
      rw [hframe]
      exact (congrArg (fun v : Vector Detector 4 => v[l]) rfl).trans (by simp [differs, begun, newEdge, detectorOf]; rfl)
    rw [detectorOf, hdetectors]
    refine hd.trans ?_
    split
    · rfl
    · rw [← hedges l]
  · have hn := htaken n (by fin_cases n <;> decide)
    rw [hframe] at hn
    rw [hframe]
    exact hn

/-- The end of an accepted RESUME: the drain, and the command recorded. -/
def resumeEnd (s r : State) : State := { finishCommand 3 .accepted (completeDrain r) with window := s.window.afterWrite }

theorem resumeEnd_eq (s r : State) : resumeEnd s r = { completeDrain r with
    engine := { (completeDrain r).engine with lastCommand := 3, lastResult := .accepted }, window := s.window.afterWrite } := by
  rw [resumeEnd, finishCommand_eq]
  rfl

theorem exec_resume (first : List Lane) (htaken : s.window.takesWrite 0x0004 = true) (hfrozen : s.engine.state = .frozen)
    (hwithin : withinAllowance s.motion = true) : exec (.resume first) s = .next (resumeEnd s (resumed first s)) := by
  refine congrArg Host.Outcome.next (hostWrite_effect htaken ?_ ?_)
  · rw [commandResume, if_neg (not_not.2 hfrozen), if_pos hwithin]
    rfl
  · exact (finishCommand_window _ _ _).trans (resumeRun_window s first)

theorem resumeEnd_liveEntries (s r : State) : liveEntries (resumeEnd s r) = liveEntries r := by
  simp [resumeEnd, liveEntries]

theorem resumeEnd_schedule (s r : State) : (resumeEnd s r).schedule = r.schedule := by
  simp [resumeEnd]

theorem resumeEnd_engine {r : State} {back : EngineState} (hr : r.engine = { s.engine with state := back, frozenFrom := none }) :
    (resumeEnd s r).engine = { s.engine with
      state := if back = .draining ∧ liveEntries r = 0 ∧ r.schedule = [] then .stopped else back,
      frozenFrom := none, lastCommand := 3, lastResult := .accepted } := by
  have hdone := drainDone_iff r
  rw [hr] at hdone
  rw [resumeEnd, finishCommand_eq]
  rcases completeDrain_cases r with ⟨h, e⟩ | ⟨h, e⟩
  · rw [if_pos (c := back = .draining ∧ _) (hdone.1 h), e]
    simp only [enterStopped_engine, hr]
  · have hopen : ¬ (back = .draining ∧ liveEntries r = 0 ∧ r.schedule = []) := fun hcond => by
      rw [hdone.2 hcond] at h
      cases h
    rw [if_neg hopen, e]
    simp only [hr]

/-- R24, R149: the line as the end of a RESUME leaves it. -/
theorem resumeEnd_cases (s r : State) (hstate : r.engine.state ≠ .stopped) :
    (∀ l, detectorOf l (resumeEnd s r) = { detectorOf l r with
      edge := if (resumeEnd s r).engine.state = .stopped then none else (detectorOf l r).edge }) ∧
    (resumeEnd s r).queue = r.queue ∧ (resumeEnd s r).table = r.table ∧ (resumeEnd s r).channels = r.channels ∧
    (resumeEnd s r).interrupts = (if (resumeEnd s r).engine.state = .stopped then
      { r.interrupts with sticky := r.interrupts.sticky ||| Flag.stoppedReached.bit } else r.interrupts) ∧
    ((resumeEnd s r).engine.state = .stopped → stickySet .stoppedReached (resumeEnd s r) = true) := by
  rw [resumeEnd, finishCommand_eq]
  rcases completeDrain_cases r with ⟨_, e⟩ | ⟨_, e⟩ <;> rw [e]
  · exact ⟨fun l => detectorOf_discardEdges r l, rfl, rfl, rfl, rfl, fun _ => enterStopped_stoppedReached r⟩
  · exact ⟨fun l => congrArg (fun x => { detectorOf l r with edge := x }) (if_neg hstate).symm, rfl, rfl, rfl, (if_neg hstate).symm,
      fun h => absurd h hstate⟩

theorem differs_iff (l : Lane) (s : State) : differs l s = true ↔ s.detectors.enabled.getLsbD l.val = true ∧
    decide (s.det[l] = (currentBank s).lanes[l].activeHigh) ≠ takenLevel (detectorOf l s).state := by
  rw [differs, Bool.and_eq_true, bne_iff_ne]
  exact Iff.rfl

theorem resumeEnd_frame (s r : State) : (resumeEnd s r).motion = r.motion ∧ (resumeEnd s r).epochUnit = r.epochUnit ∧
    (resumeEnd s r).verdicts = r.verdicts ∧ (resumeEnd s r).det = r.det := by
  simp [resumeEnd]

theorem resumed_frame (first : List Lane) (s : State) : (resumed first s).motion = { s.motion with phaseErrors := 0 } ∧
    (resumed first s).epochUnit = s.epochUnit ∧ (resumed first s).verdicts = s.verdicts ∧ (resumed first s).det = s.det := by
  have hmotion := resumeRun_motion s first
  have hepoch := resumeRun_epochUnit s first
  have hverdicts := resumeRun_verdicts s first
  have hdet := resumeRun_det s first
  rw [resumeRun_eq] at hmotion hepoch hverdicts hdet
  exact ⟨(completeDrain_motion _).symm.trans hmotion, (completeDrain_epochUnit _).symm.trans hepoch,
    (completeDrain_verdicts _).symm.trans hverdicts, (completeDrain_det _).symm.trans hdet⟩

theorem takePending_channels (s : State) (l : Lane) : (takePending s l).channels = s.channels := by
  unfold takePending
  split
  · exact takeEdge_channels s l _
  · rfl

theorem edgeOver_preset (first : List Lane) {l : Lane} (h : (differs l s && debounceOf l s == 0) = true) :
    EdgeOver ((preferred first allLanes).foldl preset s) l := by
  obtain ⟨hdiffers, hzero⟩ := Bool.and_eq_true_iff.1 h
  have hmem : l ∈ preferred first allLanes := (mem_preferred _ _ _).2 (List.mem_finRange _)
  have htick : (newEdge l s).expires = s.motion.tick := by
    have hz : (currentBank s).lanes[l].debounce = 0 := beq_iff_eq.1 hzero
    show s.motion.tick + (currentBank s).lanes[l].debounce.toNat = _
    rw [hz]
    rfl
  refine ⟨newEdge l s, ?_, ?_⟩
  · rw [foldl_preset_detectorOf, if_pos ⟨hmem, hdiffers⟩]
  · obtain ⟨v, hv⟩ := foldl_preset_frame (preferred first allLanes) s
    rw [hv]
    exact htick.le

/-- Settles O38: the engine and the frame, then the line with every debounce above 0, then the edges taken at once. -/
theorem resumeReturnsToTheFrozenFromState : Obligations.ResumeReturnsToTheFrozenFromState := by
  intro first s back hsound htaken hfrozen hback hwithin
  have hnotStopped : back ≠ .stopped := by
    rcases hsound.engine.1.1 hfrozen with h | h <;> rw [hback] at h <;> cases h <;> simp
  have hengine : (resumed first s).engine = { s.engine with state := back, frozenFrom := none } := by rw [resumed_engine, hback]; rfl
  have hstate : (resumed first s).engine.state ≠ .stopped := by rw [hengine]; exact hnotStopped
  obtain ⟨hdetectors, hqueue, htable, hchannels, hinterrupts, hflag⟩ := resumeEnd_cases s (resumed first s) hstate
  have hschedule := resumeEnd_schedule s (resumed first s)
  have hedges (l : Lane) : (detectorOf l s).edge = none := by
    obtain ⟨_, _, _, _, hidle, _⟩ := hsound.engine
    exact hidle (by simp [tracking, hfrozen]) l
  obtain ⟨hmotion, hepoch, hverdicts, hdet⟩ := resumeEnd_frame s (resumed first s)
  obtain ⟨hmotion', hepoch', hverdicts', hdet'⟩ := resumed_frame first s
  refine ⟨_, exec_resume first htaken hfrozen (by simpa [withinAllowance] using hwithin), ?engine, hmotion.trans hmotion', rfl,
    hepoch.trans hepoch', hverdicts.trans hverdicts', hdet.trans hdet', hflag, fun hdebounce => ?later, ?atOnce⟩
  case engine =>
    rw [resumeEnd_liveEntries, hschedule]
    exact resumeEnd_engine hengine
  case later =>
    obtain ⟨hedges, htaken, hqueue', hinterrupts', htable'⟩ := resumed_debounced first hsound hfrozen hback hdebounce
    refine ⟨fun l => ?_, hqueue.trans hqueue', ?_, ?_, fun n => ?_⟩
    · rw [hdetectors, hedges]
      refine congrArg (fun x => { detectorOf l s with edge := x }) ?_
      dsimp only
      rw [← ite_not]
      by_cases hstopped : (resumeEnd s (resumed first s)).engine.state = .stopped
      · rw [if_neg (not_not.2 hstopped), if_neg fun h => h.1 hstopped]
      · rw [if_pos hstopped]
        exact if_congr ((differs_iff l s).trans (and_iff_right hstopped).symm) rfl rfl
    · rw [htable]
      exact htable'
    · rw [hinterrupts, hinterrupts']
    · rw [hchannels, hschedule]
      exact htaken n
  case atOnce =>
    intro differs' debounce' ls hidle hopen u v
    have hu : u = (preferred first allLanes).foldl preset (begun back s) := by
      rw [preset_all]
      refine congrArg (fun v => { begun back s with detectors := { s.detectors with lane := v } })
        (congrArg Vector.ofFn (funext fun l => ?_))
      show ({ detectorOf l s with edge := if differs l s then some (newEdge l s) else none } : Detector) =
        if differs l s then { detectorOf l s with edge := some (newEdge l s) } else detectorOf l s
      split
      · rfl
      · rw [← hedges l]
    have htracking : tracking u = true := by
      rcases hsound.engine.1.1 hfrozen with h | h <;> rw [hback] at h <;> cases h <;> rfl
    have hresumed : resumed first s = (atOnce first (begun back s)).foldl takePending u := by
      rw [resumed_eq first hback, ← hu]
      refine foldl_takeBack_of_none (fun n hn => foldl_takePending_noDeferred _ fun a ha => ?_) _
      rw [foldl_field (fun s : State => s.channels) takePending fun s l => takePending_channels s l] at hn
      exact Bool.eq_false_iff.2 (List.filter_eq_nil_iff.1 (hidle n hn) a ha)
    have hdrain : completeDrain v = completeDrain (resumed first s) := by
      rw [hresumed]
      refine completeDrain_foldl_expire _ ((nodup_preferred first (by decide)).filter _) htracking hopen fun l hl => ?_
      rw [hu]
      exact edgeOver_preset first (List.mem_filter.1 hl).2
    clear_value v
    refine ⟨completeDrain v, rfl, ?_⟩
    rw [hdrain]
    exact resumeEnd_eq s _

end Sys2Proof.Machine
end

section
set_option Elab.async false
/-! PROOFS. The invariant of the line said slot by slot and action by action, so that an operation has to account only for the
slot and the actions that it touches; and what each of its parts depends on. -/

namespace Sys2Proof.Machine

variable {s t : State}

/-! ### Counting slots -/

/-- The number of slots whose entry satisfies a test. -/
def slotCount (p : Entry → Bool) (s : State) : Nat := s.table.entries.countP fun x => p x.2

/-- What a slot adds to a count. -/
def slotShare (p : Entry → Bool) (e : Option Entry) : Nat := (e.any p).toNat

theorem countP_eq_sum (p : Entry → Bool) {l : List (Slot × Entry)} (h : slotsRising l = true) :
    (l.countP fun x => p x.2) = ∑ k : Slot, slotShare p (findEntry k l) := by
  induction l with
  | nil => simp [findEntry, slotShare]
  | cons x rest ih =>
    obtain ⟨j, d⟩ := x
    simp only [slotsRising, decide_eq_true_eq, List.pairwise_cons] at h ih
    obtain ⟨hfirst, hrest⟩ := h
    have hfree : findEntry j rest = none :=
      (findEntry_eq_none_iff j rest).2 fun e he => lt_irrefl _ (hfirst _ he)
    have hsum (f : Slot → Nat) (hf : f j = 0) (n : Nat) :
        ∑ k : Slot, (if j = k then n else f k) = n + ∑ k : Slot, f k := by
      rw [← Finset.add_sum_erase _ _ (Finset.mem_univ j), ← Finset.add_sum_erase _ f (Finset.mem_univ j), if_pos rfl, hf,
        Nat.zero_add]
      congr 1
      exact Finset.sum_congr rfl fun k hk => if_neg (Finset.ne_of_mem_erase hk).symm
    have hslot (k : Slot) : slotShare p (findEntry k ((j, d) :: rest)) =
        if j = k then (p d).toNat else slotShare p (findEntry k rest) := by
      rw [findEntry]
      split <;> simp [slotShare]
    rw [List.countP_cons, ih hrest, Finset.sum_congr rfl fun k _ => hslot k,
      hsum _ (by simp [hfree, slotShare]), Nat.add_comm]
    cases p d <;> rfl

/-- An entry without its flags and its fired set, which the events of the channels and the placements write (R42, R43). -/
def core (e : Entry) : Entry := { e with flags := {}, fired := 0 }

/-- What a slot holds, but for the flags and the fired set. -/
def coreAt (slot : Slot) (s : State) : Option Entry := (entryAt slot s).map core

theorem coreAt_some {slot : Slot} {e : Entry} (h : coreAt slot t = coreAt slot s) (he : entryAt slot t = some e) :
    ∃ d, entryAt slot s = some d ∧ core d = core e := by
  rw [coreAt, coreAt, he] at h
  simpa using h.symm

/-- A count of slots changes by what the one slot adds whose entry changes. -/
theorem slotCount_step {p : Entry → Bool} (hp : ∀ e, p (core e) = p e) (hs : s.table.wf = true) (ht : t.table.wf = true)
    {slot : Slot} (hothers : ∀ k ≠ slot, coreAt k t = coreAt k s) :
    slotCount p t + slotShare p (entryAt slot s) = slotCount p s + slotShare p (entryAt slot t) := by
  have hshare (k : Slot) (u : State) : slotShare p (entryAt k u) = slotShare p (coreAt k u) := by
    unfold coreAt
    cases entryAt k u <;> simp [slotShare, hp]
  have hsum {u : State} (hu : u.table.wf = true) : slotCount p u =
      slotShare p (entryAt slot u) + ∑ k ∈ Finset.univ.erase slot, slotShare p (coreAt k u) := by
    rw [slotCount, countP_eq_sum p hu, ← Finset.add_sum_erase _ _ (Finset.mem_univ slot)]
    exact congrArg _ (Finset.sum_congr rfl fun k _ => hshare k u)
  rw [hsum hs, hsum ht, Finset.sum_congr rfl fun k hk => congrArg _ (hothers k (Finset.ne_of_mem_erase hk))]
  omega

theorem slotCount_same {p : Entry → Bool} (hp : ∀ e, p (core e) = p e) (hs : s.table.wf = true) (ht : t.table.wf = true)
    (h : ∀ k, coreAt k t = coreAt k s) : slotCount p t = slotCount p s := by
  have hstep := slotCount_step (slot := 0) hp hs ht fun k _ => h k
  have hshare (u : State) : slotShare p (entryAt 0 u) = slotShare p (coreAt 0 u) := by
    unfold coreAt
    cases entryAt 0 u <;> simp [slotShare, hp]
  rw [hshare, hshare, h] at hstep
  omega

/-! ### The table, slot by slot -/

/-- An OPENING entry of a lane. -/
def isOpening (l : Lane) (e : Entry) : Bool := e.lane = l && e.state = .opening

/-- A confirmed entry of a lane. -/
def isConfirmed (l : Lane) (e : Entry) : Bool := e.lane = l && e.state ≠ .opening

/-- The fields of one entry (R40, R41, R45, R50). -/
structure FieldsSound (e : Entry) : Prop where
  tag : e.state = .opening ↔ e.tag = none
  length : e.state = .opening ↔ e.length = none
  noVerdict : e.state = .opening ∨ e.state = .tracked → e.verdict = none
  verdict : e.state = .held ∨ e.state = .scheduled → e.verdict ≠ none

theorem FieldsSound.of_core {d e : Entry} (h : FieldsSound d) (hcore : core d = core e) : FieldsSound e := by
  simp only [core, Entry.mk.injEq] at hcore
  obtain ⟨hstate, _, htag, _, _, _, hlength, hverdict, _, _⟩ := hcore
  exact ⟨hstate ▸ htag ▸ h.tag, hstate ▸ hlength ▸ h.length, hstate ▸ hverdict ▸ h.noVerdict, hstate ▸ hverdict ▸ h.verdict⟩

/-- The tracking table: `TableSound`, `EntriesSound` and `CountersSound`, slot by slot. -/
structure TableInv (s : State) : Prop where
  wf : s.table.wf = true
  laneNodup : ∀ l : Lane, (s.table.laneList[l]).Nodup
  laneList : ∀ (l : Lane) (slot : Slot), slot ∈ s.table.laneList[l] ↔
    ∃ e, entryAt slot s = some e ∧ e.lane = l ∧ isLive e = true
  doneNodup : s.table.doneList.Nodup
  doneList : ∀ slot : Slot, slot ∈ s.table.doneList ↔ ∃ e, entryAt slot s = some e ∧ isLive e = false
  opening : ∀ l : Lane, slotCount (isOpening l) s = if (detectorOf l s).state = .covered then 1 else 0
  fields : ∀ (slot : Slot) (e : Entry), entryAt slot s = some e → FieldsSound e
  tags : ∀ (k j : Slot) (d e : Entry), k ≠ j → entryAt k s = some d → entryAt j s = some e → d.lane = e.lane →
    d.tag ≠ none → d.tag ≠ e.tag
  counters : ∀ l : Lane, s.table.counters[l].confirmed =
    s.table.counters[l].outcomes + BitVec.ofNat 32 (slotCount (isConfirmed l) s)

theorem mem_slots_iff (hwf : s.table.wf = true) (p : Entry → Bool) (slot : Slot) :
    slot ∈ (s.table.entries.filter fun x => p x.2).map (·.1) ↔ ∃ e, entryAt slot s = some e ∧ p e = true := by
  simp only [List.mem_map, List.mem_filter, Prod.exists, exists_and_right, exists_eq_right, entryAt,
    findEntry_eq_some_iff hwf]

theorem slots_perm_iff (hwf : s.table.wf = true) (p : Entry → Bool) (l : List Slot) :
    l.Perm ((s.table.entries.filter fun x => p x.2).map (·.1)) ↔
      l.Nodup ∧ ∀ slot, slot ∈ l ↔ ∃ e, entryAt slot s = some e ∧ p e = true := by
  have hnodup : ((s.table.entries.filter fun x => p x.2).map (·.1)).Nodup :=
    (List.filter_sublist.map _).nodup (wf_slots_nodup hwf)
  constructor
  · exact fun h => ⟨h.nodup_iff.2 hnodup, fun slot => h.mem_iff.trans (mem_slots_iff hwf p slot)⟩
  · rintro ⟨hl, hmem⟩
    exact (List.perm_ext_iff_of_nodup hl hnodup).2 fun slot => (hmem slot).trans (mem_slots_iff hwf p slot).symm

theorem forall_entries_iff (hwf : s.table.wf = true) (P : Entry → Prop) :
    (∀ x ∈ s.table.entries, P x.2) ↔ ∀ slot e, entryAt slot s = some e → P e := by
  simp only [Prod.forall, entryAt, findEntry_eq_some_iff hwf]

theorem tags_pairwise_iff (hwf : s.table.wf = true) :
    s.table.entries.Pairwise (fun x y => x.2.lane = y.2.lane → x.2.tag ≠ none → x.2.tag ≠ y.2.tag) ↔
      ∀ (k j : Slot) (d e : Entry), k ≠ j → entryAt k s = some d → entryAt j s = some e → d.lane = e.lane →
        d.tag ≠ none → d.tag ≠ e.tag := by
  have : Std.Symm fun x y : Slot × Entry => x.2.lane = y.2.lane → x.2.tag ≠ none → x.2.tag ≠ y.2.tag :=
    ⟨fun x y h hlane htag heq => h hlane.symm (heq ▸ htag) heq.symm⟩
  have hnodup : s.table.entries.Nodup := (wf_slots_nodup hwf).of_map _
  simp only [entryAt, findEntry_eq_some_iff hwf]
  constructor
  · intro h k j d e hkj hd he
    exact h.forall hd he fun heq => hkj (congrArg Prod.fst heq)
  · intro h
    refine hnodup.imp_of_mem fun {x y} hx hy hne => ?_
    refine h x.1 y.1 x.2 y.2 (fun hslot => hne ?_) hx hy
    have hentry := (findEntry_eq_some_iff hwf x.1 x.2).2 hx
    rw [hslot, (findEntry_eq_some_iff hwf y.1 y.2).2 hy] at hentry
    exact Prod.ext hslot (Option.some.inj hentry).symm

theorem tableInv_iff : TableInv s ↔ TableSound s ∧ EntriesSound s ∧ CountersSound s := by
  constructor
  · intro h
    refine ⟨⟨h.wf, fun l => ?_, ?_, h.opening⟩, ⟨?_, (tags_pairwise_iff h.wf).2 h.tags, ?_, ?_⟩, h.counters⟩
    · refine (slots_perm_iff h.wf (fun e => e.lane = l && isLive e) _).2 ⟨h.laneNodup l, fun slot => ?_⟩
      simpa using h.laneList l slot
    · refine (slots_perm_iff h.wf (fun e => !isLive e) _).2 ⟨h.doneNodup, fun slot => ?_⟩
      simpa using h.doneList slot
    · exact (forall_entries_iff h.wf fun e => (e.state = .opening ↔ e.tag = none) ∧ (e.state = .opening ↔ e.length = none)).2
        fun slot e he => ⟨(h.fields slot e he).tag, (h.fields slot e he).length⟩
    · exact (forall_entries_iff h.wf fun e => _ → e.verdict = none).2 fun slot e he => (h.fields slot e he).noVerdict
    · exact (forall_entries_iff h.wf fun e => _ → e.verdict ≠ none).2 fun slot e he => (h.fields slot e he).verdict
  · rintro ⟨⟨hwf, hlists, hdone, hopening⟩, ⟨hfields, htags, hno, hverdict⟩, hcounters⟩
    have hlane (l : Lane) := (slots_perm_iff hwf (fun e => e.lane = l && isLive e) _).1 (hlists l)
    have hwaiting := (slots_perm_iff hwf (fun e => !isLive e) _).1 hdone
    refine ⟨hwf, fun l => (hlane l).1, fun l slot => ?_, hwaiting.1, fun slot => ?_, hopening, fun slot e he => ?_,
      (tags_pairwise_iff hwf).1 htags, hcounters⟩
    · simpa using (hlane l).2 slot
    · simpa using hwaiting.2 slot
    · have hmem : (slot, e) ∈ s.table.entries := findEntry_mem he
      exact ⟨(hfields _ hmem).1, (hfields _ hmem).2, hno _ hmem, hverdict _ hmem⟩

/-! ### The epochs, slot by slot -/

/-- `EpochSound`, slot by slot. -/
structure EpochInv (s : State) : Prop where
  epoch : ∀ slot e, entryAt slot s = some e → isLive e = true →
    e.epoch = if e.bank = s.epochUnit.current then s.epochUnit.epoch else s.epochUnit.epoch - 1
  current : s.engine.state ≠ .stopped → validate (currentBank s) s = none
  bank : ∀ slot e, entryAt slot s = some e → isLive e = true → validate (bankOf e.bank s) s = none

theorem epochInv_iff (hwf : s.table.wf = true) : EpochInv s ↔ EpochSound s := by
  have hepoch := forall_entries_iff hwf fun e => isLive e = true →
    e.epoch = if e.bank = s.epochUnit.current then s.epochUnit.epoch else s.epochUnit.epoch - 1
  have hbank := forall_entries_iff hwf fun e => isLive e = true → validate (bankOf e.bank s) s = none
  exact ⟨fun h => ⟨hepoch.2 h.epoch, h.current, hbank.2 h.bank⟩, fun ⟨h1, h2, h3⟩ => ⟨hepoch.1 h1, h2, hbank.1 h3⟩⟩

/-! ### The schedule, action by action -/

/-- The slot of a linked action holds a live entry of the channel's lane; one with its decision taken where the channel is in
VERDICT mode (R116). -/
def LinkSound (n : Channel) (slot : Slot) (s : State) : Prop :=
  ∃ e, entryAt slot s = some e ∧ isLive e = true ∧
    (s.channels[n].config.mode = .perItem ∨ s.channels[n].config.mode = .verdict ∧ e.state = .scheduled) ∧
    s.channels[n].config.lane = e.lane

/-- One action of the schedule. In the middle of an advance a channel named in `due` may still have actions due, and one named in
`back` may have deferred actions that it is about to take back. -/
structure ActionSound (due back : Channel → Prop) (s : State) (a : Action) : Prop where
  finish : endInUnit a = true
  unit : a.unit = s.channels[a.channel].config.unit
  width : a.width ≠ 0
  joins : a.state = .pending true → a.policy = .join
  waits : tracking s = true → a.state = .pending true →
    (s.channels[a.channel].state ≠ .idle ∧ s.channels[a.channel].state ≠ .active) ∨ back a.channel
  ahead : a.state = .pending false → reached s.motion.h a.start = false ∨ a.start = s.motion.h ∧ due a.channel
  link : ∀ slot ∈ a.item, LinkSound a.channel slot s

/-- Two actions of one channel are not linked to one entry. -/
def Apart (a b : Action) : Prop := a.channel = b.channel → a.item ≠ none → a.item ≠ b.item

theorem Apart.symm {a b : Action} (h : Apart a b) : Apart b a :=
  fun hchannel hitem heq => h hchannel.symm (heq ▸ hitem) heq.symm

/-- `ChannelsSound` and `LinksSound`, action by action. -/
structure ScheduleInv (due back : Channel → Prop) (s : State) : Prop where
  actions : ∀ a ∈ s.schedule, ActionSound due back s a
  apart : s.schedule.Pairwise Apart
  active : ∀ n : Channel, activeCount n s = if s.channels[n].state = .active then 1 else 0

/-- No channel. -/
def noChannel (_ : Channel) : Prop := False

theorem linkSound_iff (hwf : s.table.wf = true) (n : Channel) (slot : Slot) : LinkSound n slot s ↔
    ∃ x ∈ s.table.entries, x.1 = slot ∧ isLive x.2 = true ∧
      (s.channels[n].config.mode = .perItem ∨ s.channels[n].config.mode = .verdict ∧ x.2.state = .scheduled) ∧
      s.channels[n].config.lane = x.2.lane := by
  constructor
  · rintro ⟨e, he, hrest⟩
    exact ⟨(slot, e), findEntry_mem he, rfl, hrest⟩
  · rintro ⟨⟨k, e⟩, hmem, rfl, hrest⟩
    exact ⟨e, entryAt_of_mem hwf hmem, hrest⟩

theorem scheduleInv_iff (hwf : s.table.wf = true) :
    ScheduleInv noChannel noChannel s ↔ ChannelsSound s ∧ LinksSound s := by
  constructor
  · intro h
    exact ⟨⟨h.active, fun a ha => ⟨(h.actions a ha).finish, (h.actions a ha).unit, (h.actions a ha).width⟩,
      fun a ha => (h.actions a ha).joins, fun ht a ha hd => ((h.actions a ha).waits ht hd).resolve_right id,
      fun a ha hp => ((h.actions a ha).ahead hp).resolve_right (·.2)⟩,
      fun a ha slot hslot => (linkSound_iff hwf _ _).1 ((h.actions a ha).link slot hslot), h.apart⟩
  · rintro ⟨⟨hactive, hcopies, hjoins, hwaits, hahead⟩, hlinks, hapart⟩
    refine ⟨fun a ha => ?_, hapart, hactive⟩
    obtain ⟨hfinish, hunit, hwidth⟩ := hcopies a ha
    exact ⟨hfinish, hunit, hwidth, hjoins a ha, fun ht hd => .inl (hwaits ht a ha hd), fun hp => .inl (hahead a ha hp),
      fun slot hslot => (linkSound_iff hwf _ _).2 (hlinks a ha slot hslot)⟩

/-! ### The line -/

/-- The invariant of the line but for the bounds and the window, with the weakening of the middle of an advance. -/
structure LineInv (due back : Channel → Prop) (s : State) : Prop where
  table : TableInv s
  epochs : EpochInv s
  schedule : ScheduleInv due back s
  engine : EngineSound s

theorem lineSound_iff : LineSound s ↔ Bounded s ∧ WindowSound s ∧ LineInv noChannel noChannel s := by
  constructor
  · intro h
    have htable := tableInv_iff.2 ⟨h.table, h.entries, h.counters⟩
    exact ⟨h.bounded, h.window, htable, (epochInv_iff htable.wf).2 h.epochs,
      (scheduleInv_iff htable.wf).2 ⟨h.channels, h.links⟩, h.engine⟩
  · rintro ⟨hbounded, hwindow, h⟩
    obtain ⟨htable, hentries, hcounters⟩ := tableInv_iff.1 h.table
    obtain ⟨hchannels, hlinks⟩ := (scheduleInv_iff h.table.wf).1 h.schedule
    exact ⟨hbounded, hwindow, htable, hentries, hcounters, hchannels, hlinks, h.engine, (epochInv_iff h.table.wf).1 h.epochs⟩

end Sys2Proof.Machine
end

section
set_option Elab.async false
/-! PROOFS. What each part of the invariant of the line depends on: an operation that leaves those alone keeps it, and one that
changes a single slot, or a single action, owes an account of that one alone. -/

namespace Sys2Proof.Machine

variable {s t u : State} {due back due' back' : Channel → Prop}

/-! ### The table -/

/-- From s to t nothing of the table has changed that its invariant speaks of. -/
structure SameTable (s t : State) : Prop where
  wf : s.table.wf = true → t.table.wf = true
  entries : ∀ k, coreAt k t = coreAt k s
  laneList : t.table.laneList = s.table.laneList
  doneList : t.table.doneList = s.table.doneList
  counters : ∀ l : Lane, t.table.counters[l].confirmed = s.table.counters[l].confirmed ∧
    t.table.counters[l].outcomes = s.table.counters[l].outcomes

theorem SameTable.of_table (h : t.table = s.table) : SameTable s t where
  wf hs := by rwa [h]
  entries k := by rw [coreAt, coreAt, entryAt, entryAt, h]
  laneList := by rw [h]
  doneList := by rw [h]
  counters l := by rw [h]; exact ⟨rfl, rfl⟩

theorem SameTable.trans (h : SameTable s t) (h' : SameTable t u) : SameTable s u where
  wf := h'.wf ∘ h.wf
  entries k := (h'.entries k).trans (h.entries k)
  laneList := h'.laneList.trans h.laneList
  doneList := h'.doneList.trans h.doneList
  counters l := ⟨(h'.counters l).1.trans (h.counters l).1, (h'.counters l).2.trans (h.counters l).2⟩

theorem Amends.coreAt (h : Amends s t) (k : Slot) : coreAt k t = coreAt k s := by
  unfold Machine.coreAt
  cases he : entryAt k s with
  | none => rw [h.absent k he]
  | some e =>
    obtain ⟨f, fired, ht, _⟩ := h.present k e he
    rw [ht]
    rfl

theorem Amends.sameTable (h : Amends s t) (hwf : s.table.wf = true → t.table.wf = true) : SameTable s t where
  wf := hwf
  entries := h.coreAt
  laneList := by rw [h.table]
  doneList := by rw [h.table]
  counters l := by rw [h.table]; exact ⟨rfl, rfl⟩

theorem isOpening_core (l : Lane) (e : Entry) : isOpening l (core e) = isOpening l e := rfl

theorem isConfirmed_core (l : Lane) (e : Entry) : isConfirmed l (core e) = isConfirmed l e := rfl

theorem core_inj {d e : Entry} (h : core d = core e) : d.state = e.state ∧ d.lane = e.lane ∧ d.tag = e.tag ∧
    d.epoch = e.epoch ∧ d.bank = e.bank ∧ isLive d = isLive e := by
  simp only [core, Entry.mk.injEq] at h
  obtain ⟨hstate, hlane, htag, hepoch, hbank, _⟩ := h
  exact ⟨hstate, hlane, htag, hepoch, hbank, by rw [isLive, isLive, hstate]⟩

/-- What is said of an entry without its flags and its fired set goes with its core. -/
theorem exists_of_coreAt {P : Entry → Prop} (hP : ∀ d e, core d = core e → P d → P e) {slot : Slot}
    (h : coreAt slot t = coreAt slot s) :
    (∃ e, entryAt slot t = some e ∧ P e) ↔ ∃ e, entryAt slot s = some e ∧ P e := by
  constructor
  · rintro ⟨e, he, hp⟩
    obtain ⟨d, hd, hcore⟩ := coreAt_some h he
    exact ⟨d, hd, hP e d hcore.symm hp⟩
  · rintro ⟨e, he, hp⟩
    obtain ⟨d, hd, hcore⟩ := coreAt_some h.symm he
    exact ⟨d, hd, hP e d hcore.symm hp⟩

theorem liveIn_core (l : Lane) (d e : Entry) (h : core d = core e) : d.lane = l ∧ isLive d = true → e.lane = l ∧ isLive e = true := by
  obtain ⟨_, hlane, _, _, _, hlive⟩ := core_inj h
  rw [hlane, hlive]
  exact id

theorem notLive_core (d e : Entry) (h : core d = core e) : isLive d = false → isLive e = false := by
  obtain ⟨_, _, _, _, _, hlive⟩ := core_inj h
  rw [hlive]
  exact id

/-- An operation that changes one slot of the table. -/
theorem TableInv.step (h : TableInv s) (hwf : t.table.wf = true) {slot : Slot}
    (hothers : ∀ k ≠ slot, coreAt k t = coreAt k s)
    (hlanes : ∀ l : Lane, (t.table.laneList[l]).Nodup ∧
      (slot ∈ t.table.laneList[l] ↔ ∃ e, entryAt slot t = some e ∧ e.lane = l ∧ isLive e = true) ∧
      ∀ k ≠ slot, k ∈ t.table.laneList[l] ↔ k ∈ s.table.laneList[l])
    (hdone : t.table.doneList.Nodup ∧ (slot ∈ t.table.doneList ↔ ∃ e, entryAt slot t = some e ∧ isLive e = false) ∧
      ∀ k ≠ slot, k ∈ t.table.doneList ↔ k ∈ s.table.doneList)
    (hfields : ∀ e, entryAt slot t = some e → FieldsSound e)
    (htags : ∀ e, entryAt slot t = some e → e.tag ≠ none → ∀ k d, k ≠ slot → entryAt k s = some d → d.lane = e.lane →
      d.tag ≠ e.tag)
    (hopening : ∀ l : Lane, slotShare (isOpening l) (entryAt slot t) + (if (detectorOf l s).state = .covered then 1 else 0) =
      slotShare (isOpening l) (entryAt slot s) + if (detectorOf l t).state = .covered then 1 else 0)
    (hcounters : ∀ l : Lane, t.table.counters[l].confirmed + s.table.counters[l].outcomes +
        BitVec.ofNat 32 (slotShare (isConfirmed l) (entryAt slot s)) =
      s.table.counters[l].confirmed + t.table.counters[l].outcomes +
        BitVec.ofNat 32 (slotShare (isConfirmed l) (entryAt slot t))) :
    TableInv t where
  wf := hwf
  laneNodup l := (hlanes l).1
  laneList l k := by
    obtain ⟨_, hslot, hrest⟩ := hlanes l
    by_cases hk : k = slot
    · subst hk
      exact hslot
    · rw [hrest k hk, h.laneList l k]
      exact (exists_of_coreAt (liveIn_core l) (hothers k hk)).symm
  doneNodup := hdone.1
  doneList k := by
    obtain ⟨_, hslot, hrest⟩ := hdone
    by_cases hk : k = slot
    · subst hk
      exact hslot
    · rw [hrest k hk, h.doneList k]
      exact (exists_of_coreAt notLive_core (hothers k hk)).symm
  opening l := by
    have hcount := slotCount_step (isOpening_core l) h.wf hwf hothers
    have hold := h.opening l
    have hl := hopening l
    omega
  fields k e he := by
    by_cases hk : k = slot
    · subst hk
      exact hfields e he
    · obtain ⟨d, hd, hcore⟩ := coreAt_some (hothers k hk) he
      exact (h.fields k d hd).of_core hcore
  tags k j d e hkj hd he hlane htag := by
    have hold {i : Slot} (hi : i ≠ slot) {x : Entry} (hx : entryAt i t = some x) :
        ∃ y, entryAt i s = some y ∧ y.lane = x.lane ∧ y.tag = x.tag := by
      obtain ⟨y, hy, hcore⟩ := coreAt_some (hothers i hi) hx
      exact ⟨y, hy, (core_inj hcore).2.1, (core_inj hcore).2.2.1⟩
    by_cases hk : k = slot
    · subst hk
      obtain ⟨y, hy, hylane, hytag⟩ := hold hkj.symm he
      exact fun heq => htags d hd htag j y hkj.symm hy (by rw [hylane, hlane]) (by rw [hytag, heq])
    · obtain ⟨x, hx, hxlane, hxtag⟩ := hold hk hd
      by_cases hj : j = slot
      · subst hj
        exact fun heq => htags e he (heq ▸ htag) k x hk hx (by rw [hxlane, hlane]) (by rw [hxtag, heq])
      · obtain ⟨y, hy, hylane, hytag⟩ := hold hj he
        rw [← hxtag, ← hytag]
        exact h.tags k j x y hkj hx hy (by rw [hxlane, hylane, hlane]) (hxtag ▸ htag)
  counters l := by
    have hcount := slotCount_step (isConfirmed_core l) h.wf hwf hothers
    have hold := h.counters l
    have hl := hcounters l
    have hcast := congrArg (BitVec.ofNat 32) hcount
    simp only [BitVec.ofNat_add] at hcast
    generalize BitVec.ofNat 32 (slotCount (isConfirmed l) t) = x at *
    generalize BitVec.ofNat 32 (slotCount (isConfirmed l) s) = y at *
    generalize BitVec.ofNat 32 (slotShare (isConfirmed l) (entryAt slot s)) = p at *
    generalize BitVec.ofNat 32 (slotShare (isConfirmed l) (entryAt slot t)) = q at *
    bv_omega

theorem slotShare_core {p : Entry → Bool} (hp : ∀ e, p (core e) = p e) {slot : Slot} (h : coreAt slot t = coreAt slot s) :
    slotShare p (entryAt slot t) = slotShare p (entryAt slot s) := by
  have hshare (u : State) : slotShare p (entryAt slot u) = slotShare p (coreAt slot u) := by
    unfold coreAt
    cases entryAt slot u <;> simp [slotShare, hp]
  rw [hshare, hshare, h]

/-- An operation that changes no more of the table than flags and fired sets. -/
theorem TableInv.same (h : TableInv s) (ht : SameTable s t)
    (hcovered : ∀ l, (detectorOf l t).state = .covered ↔ (detectorOf l s).state = .covered) : TableInv t := by
  refine h.step (slot := 0) (ht.wf h.wf) (fun k _ => ht.entries k) (fun l => ?_) ?_ (fun e he => ?_)
    (fun e he htag k d hk hd hlane heq => ?_) (fun l => ?_) fun l => ?_
  · rw [ht.laneList]
    exact ⟨h.laneNodup l, (h.laneList l 0).trans (exists_of_coreAt (liveIn_core l) (ht.entries 0)).symm, fun _ _ => .rfl⟩
  · rw [ht.doneList]
    exact ⟨h.doneNodup, (h.doneList 0).trans (exists_of_coreAt notLive_core (ht.entries 0)).symm, fun _ _ => .rfl⟩
  · obtain ⟨d, hd, hcore⟩ := coreAt_some (ht.entries 0) he
    exact (h.fields 0 d hd).of_core hcore
  · obtain ⟨x, hx, hcore⟩ := coreAt_some (ht.entries 0) he
    obtain ⟨_, hxlane, hxtag, _⟩ := core_inj hcore
    exact h.tags 0 k x d (Ne.symm hk) hx hd (by rw [hxlane, hlane]) (hxtag ▸ htag) (by rw [hxtag, heq])
  · rw [slotShare_core (isOpening_core l) (ht.entries 0)]
    simp only [hcovered l]
  · rw [slotShare_core (isConfirmed_core l) (ht.entries 0), (ht.counters l).1, (ht.counters l).2]

/-! ### The epochs -/

/-- An operation that keeps the banks: an entry is bound as it was, or newly to the current bank (R39, R86). -/
theorem EpochInv.step (h : EpochInv s) (hbanks : BanksKept s t) (hvalid : ∀ p, validate p t = validate p s)
    (hstate : t.engine.state ≠ .stopped → s.engine.state ≠ .stopped)
    (hentries : ∀ k e, entryAt k t = some e → isLive e = true →
      (∃ d, entryAt k s = some d ∧ isLive d = true ∧ d.epoch = e.epoch ∧ d.bank = e.bank) ∨
      e.epoch = s.epochUnit.epoch ∧ e.bank = s.epochUnit.current ∧ s.engine.state ≠ .stopped) : EpochInv t := by
  obtain ⟨hbankA, hbankB, hcurrent, hepoch⟩ := hbanks
  have hbankOf (bank : Bank) : bankOf bank t = bankOf bank s := by
    cases bank
    · exact hbankA
    · exact hbankB
  refine ⟨fun k e he hlive => ?_, fun hrun => ?_, fun k e he hlive => ?_⟩
  · rw [hcurrent, hepoch]
    rcases hentries k e he hlive with ⟨d, hd, hdlive, hdepoch, hdbank⟩ | ⟨hnew, hbank, _⟩
    · rw [← hdepoch, ← hdbank]
      exact h.epoch k d hd hdlive
    · rw [if_pos hbank, hnew]
  · rw [hvalid, currentBank, hcurrent, hbankOf]
    exact h.current (hstate hrun)
  · rw [hvalid, hbankOf]
    rcases hentries k e he hlive with ⟨d, hd, hdlive, _, hdbank⟩ | ⟨_, hbank, hrun⟩
    · rw [← hdbank]
      exact h.bank k d hd hdlive
    · rw [hbank]
      exact h.current hrun

theorem EpochInv.same (h : EpochInv s) (hbanks : BanksKept s t) (hvalid : ∀ p, validate p t = validate p s)
    (hstate : t.engine.state ≠ .stopped → s.engine.state ≠ .stopped) (hentries : ∀ k, coreAt k t = coreAt k s) :
    EpochInv t := by
  refine h.step hbanks hvalid hstate fun k e he hlive => .inl ?_
  obtain ⟨d, hd, hcore⟩ := coreAt_some (hentries k) he
  obtain ⟨_, _, _, hepoch, hbank, hl⟩ := core_inj hcore
  exact ⟨d, hd, hl ▸ hlive, hepoch, hbank⟩

/-! ### The schedule -/

theorem LinkSound.step {n : Channel} {slot : Slot} (h : LinkSound n slot s)
    (hconfig : t.channels[n].config = s.channels[n].config)
    (hentry : ∀ d, entryAt slot s = some d → isLive d = true → ∃ e, entryAt slot t = some e ∧ isLive e = true ∧
      e.lane = d.lane ∧ (d.state = .scheduled → e.state = .scheduled)) : LinkSound n slot t := by
  obtain ⟨d, hd, hlive, hmode, hlane⟩ := h
  obtain ⟨e, he, helive, helane, hscheduled⟩ := hentry d hd hlive
  exact ⟨e, he, helive, by rw [hconfig]; exact hmode.imp_right (.imp_right hscheduled), by rw [hconfig, hlane, helane]⟩

theorem LinkSound.same {n : Channel} {slot : Slot} (h : LinkSound n slot s)
    (hconfig : t.channels[n].config = s.channels[n].config) (hentry : coreAt slot t = coreAt slot s) : LinkSound n slot t := by
  refine h.step hconfig fun d hd hlive => ?_
  obtain ⟨e, he, hcore⟩ := coreAt_some hentry.symm hd
  obtain ⟨hstate, hlane, _, _, _, hl⟩ := core_inj hcore
  exact ⟨e, he, hl ▸ hlive, hlane, fun hd => by rw [hstate, hd]⟩

/-- An action that an operation leaves as it is. -/
theorem ActionSound.step {a : Action} (h : ActionSound due back s a)
    (hconfig : t.channels[a.channel].config = s.channels[a.channel].config)
    (hwaits : tracking t = true → a.state = .pending true → back' a.channel ∨
      tracking s = true ∧ t.channels[a.channel].state = s.channels[a.channel].state ∧ ¬ back a.channel)
    (hahead : a.state = .pending false → reached s.motion.h a.start = false ∨ a.start = s.motion.h ∧ due a.channel →
      reached t.motion.h a.start = false ∨ a.start = t.motion.h ∧ due' a.channel)
    (hlink : ∀ slot ∈ a.item, LinkSound a.channel slot s → LinkSound a.channel slot t) : ActionSound due' back' t a where
  finish := h.finish
  unit := by rw [hconfig]; exact h.unit
  width := h.width
  joins := h.joins
  waits ht hd := by
    rcases hwaits ht hd with hback | ⟨hs, hstate, hno⟩
    · exact .inr hback
    · rw [hstate]
      exact .inl ((h.waits hs hd).resolve_right hno)
  ahead hp := hahead hp (h.ahead hp)
  link slot hslot := hlink slot hslot (h.link slot hslot)

/-- An action whose channel and whose place against H an operation leaves as they are. -/
theorem ActionSound.same {a : Action} (h : ActionSound due back s a)
    (hchannel : t.channels[a.channel] = s.channels[a.channel]) (hh : t.motion.h = s.motion.h)
    (htracking : tracking t = true → tracking s = true)
    (hlink : ∀ slot ∈ a.item, LinkSound a.channel slot s → LinkSound a.channel slot t) : ActionSound due back t a := by
  refine h.step (by rw [hchannel]) (fun ht _ => ?_) (fun _ => by rw [hh]; exact id) hlink
  by_cases hb : back a.channel
  · exact .inl hb
  · exact .inr ⟨htracking ht, by rw [hchannel], hb⟩

theorem apart_perm {l l' : List Action} (h : l.Perm l') : l.Pairwise Apart ↔ l'.Pairwise Apart :=
  h.pairwise_iff fun {_ _} => Apart.symm

/-- An operation that changes neither the actions nor their channels. -/
theorem ScheduleInv.same (h : ScheduleInv due back s) (hschedule : t.schedule.Perm s.schedule)
    (hchannels : t.channels = s.channels) (hh : t.motion.h = s.motion.h) (htracking : tracking t = true → tracking s = true)
    (hlink : ∀ a ∈ s.schedule, ∀ slot ∈ a.item, LinkSound a.channel slot s → LinkSound a.channel slot t) :
    ScheduleInv due back t where
  actions a ha :=
    have hs := hschedule.mem_iff.1 ha
    (h.actions a hs).same (by rw [hchannels]) hh htracking (hlink a hs)
  apart := (apart_perm hschedule).2 h.apart
  active n := by
    rw [hchannels, activeCount, hschedule.countP_eq]
    exact h.active n

/-! ### The engine -/

/-- What the engine's invariant says of one lane: a disabled lane in CLEAR with nothing held, and GAP only with a gap reference
(R21, R33). -/
def LaneOk (enabled : Bool) (d : Detector) : Prop :=
  (enabled = false → d.state = .clear ∧ d.edge = none ∧ d.gap = none) ∧ (d.state = .gap → d.gap ≠ none)

theorem EngineSound.laneOk (h : EngineSound s) (l : Lane) : LaneOk (laneEnabled l s) (detectorOf l s) := by
  obtain ⟨_, _, _, _, _, hdisabled, hgap⟩ := h
  exact ⟨hdisabled l, hgap l⟩

theorem tracking_iff (s : State) : tracking s = true ↔ s.engine.state = .running ∨ s.engine.state = .draining := by
  simp [tracking]

/-- Where the line is tracking the engine's invariant is one of its lanes. -/
theorem engineSound_tracking_iff (ht : tracking s = true) :
    EngineSound s ↔ s.engine.frozenFrom = none ∧ ∀ l, LaneOk (laneEnabled l s) (detectorOf l s) := by
  have hstate := (tracking_iff s).1 ht
  have hstopped : s.engine.state ≠ .stopped := by rcases hstate with h | h <;> simp [h]
  have hfrozen : s.engine.state ≠ .frozen := by rcases hstate with h | h <;> simp [h]
  constructor
  · intro h
    exact ⟨h.2.1 hfrozen, h.laneOk⟩
  · rintro ⟨hfrom, hlanes⟩
    refine ⟨⟨fun h => absurd h hfrozen, fun h => ?_⟩, fun _ => hfrom, fun h => absurd h hstopped, fun h => absurd h hfrozen,
      fun h => absurd ht (by simp [h]), fun l => (hlanes l).1, fun l => (hlanes l).2⟩
    rcases h with h | h <;> simp [hfrom] at h

/-- An operation that leaves the engine and the detectors and neither opens an entry nor adds an action. -/
theorem EngineSound.same (h : EngineSound s) (hstate : t.engine.state = s.engine.state)
    (hfrom : t.engine.frozenFrom = s.engine.frozenFrom) (hschedule : s.schedule = [] → t.schedule = [])
    (hactive : (∀ a ∈ s.schedule, a.isActive = false) → ∀ a ∈ t.schedule, a.isActive = false)
    (hlive : liveEntries s = 0 → liveEntries t = 0) (hdetectors : t.detectors = s.detectors) : EngineSound t := by
  obtain ⟨hfrozen, hnotFrozen, hstopped, hcut, hedges, hdisabled, hgap⟩ := h
  have hdetector (l : Lane) : detectorOf l t = detectorOf l s := by rw [detectorOf, detectorOf, hdetectors]
  have henabled (l : Lane) : laneEnabled l t = laneEnabled l s := by rw [laneEnabled, laneEnabled, hdetectors]
  simp only [EngineSound, hstate, hfrom, tracking, hdetector, henabled]
  exact ⟨hfrozen, hnotFrozen, fun h => ⟨hschedule (hstopped h).1, hlive (hstopped h).2⟩, fun h => hactive (hcut h), hedges,
    hdisabled, hgap⟩

/-! ### The line -/

/-- From s to t nothing of the line has changed that its invariant speaks of. -/
structure SameLine (s t : State) : Prop where
  table : SameTable s t
  detectors : t.detectors = s.detectors
  banks : BanksKept s t
  schedule : t.schedule = s.schedule
  channels : t.channels = s.channels
  h : t.motion.h = s.motion.h
  state : t.engine.state = s.engine.state
  frozenFrom : t.engine.frozenFrom = s.engine.frozenFrom

theorem SameLine.trans (h : SameLine s t) (h' : SameLine t u) : SameLine s u where
  table := h.table.trans h'.table
  detectors := h'.detectors.trans h.detectors
  banks := by
    obtain ⟨a, b, c, d⟩ := h.banks
    obtain ⟨a', b', c', d'⟩ := h'.banks
    exact ⟨a'.trans a, b'.trans b, c'.trans c, d'.trans d⟩
  schedule := h'.schedule.trans h.schedule
  channels := h'.channels.trans h.channels
  h := h'.h.trans h.h
  state := h'.state.trans h.state
  frozenFrom := h'.frozenFrom.trans h.frozenFrom

theorem liveEntries_same (hs : s.table.wf = true) (ht : t.table.wf = true) (h : ∀ k, coreAt k t = coreAt k s) :
    liveEntries t = liveEntries s := slotCount_same (fun _ => rfl) hs ht h

theorem validate_same (hdetectors : t.detectors = s.detectors) (hchannels : t.channels = s.channels) (p : ProfileSet) :
    validate p t = validate p s := validate_congr p (by rw [hdetectors]) fun n => by rw [hchannels]

theorem tracking_congr (h : t.engine.state = s.engine.state) : tracking t = tracking s := by rw [tracking, tracking, h]

theorem LineInv.same (h : LineInv due back s) (ht : SameLine s t) : LineInv due back t where
  table := h.table.same ht.table fun l => by rw [detectorOf, detectorOf, ht.detectors]
  epochs := h.epochs.same ht.banks (validate_same ht.detectors ht.channels) (by rw [ht.state]; exact id) ht.table.entries
  schedule := h.schedule.same (.of_eq ht.schedule) ht.channels ht.h (by rw [tracking_congr ht.state]; exact id)
    fun a _ slot _ hlink => hlink.same (by rw [ht.channels]) (ht.table.entries slot)
  engine := h.engine.same ht.state ht.frozenFrom (by rw [ht.schedule]; exact id) (by rw [ht.schedule]; exact id)
    (fun hlive => by rw [liveEntries_same h.table.wf (ht.table.wf h.table.wf) ht.table.entries, hlive]) ht.detectors

/-- An operation that writes no block of the line but flags and fired sets of entries. -/
theorem SameLine.of_amends (h : Amends s t) (hwf : s.table.wf = true → t.table.wf = true) (hdetectors : t.detectors = s.detectors)
    (hunit : t.epochUnit = s.epochUnit) (hschedule : t.schedule = s.schedule) (hchannels : t.channels = s.channels)
    (hmotion : t.motion = s.motion) (hengine : t.engine = s.engine) : SameLine s t :=
  ⟨h.sameTable hwf, hdetectors, .of_eq hunit, hschedule, hchannels, by rw [hmotion], by rw [hengine], by rw [hengine]⟩

theorem offer_sameLine (r : Report) (s : State) : SameLine s (offer r s) :=
  .of_amends (.of_table (by simp)) (by simp) (by simp) (by simp) (by simp) (by simp) (by simp) (by simp)

theorem setFlag_sameLine (f : Flag) (s : State) : SameLine s (setFlag f s) :=
  .of_amends (.of_table rfl) id rfl rfl rfl rfl rfl rfl

theorem raise_sameLine (code : ExceptionCode) (l : Option Lane) (tag : Option Half) (s : State) :
    SameLine s (raise code l tag s) := (setFlag_sameLine _ s).trans (offer_sameLine _ _)

theorem addFlags_sameLine (slot : Slot) {f : EntryFlags → EntryFlags} (hf : SetsFlags f) (s : State) :
    SameLine s (addFlags slot f s) :=
  .of_amends (addFlags_amends slot hf s) (addFlags_wf s slot f) (by simp) (by simp) (by simp) (by simp) (by simp) (by simp)

theorem addFired_sameLine (slot : Slot) (n : Channel) (s : State) : SameLine s (addFired slot n s) :=
  .of_amends (addFired_amends slot n s) (addFired_wf s slot n) (by simp) (by simp) (by simp) (by simp) (by simp) (by simp)

/-- A wider choice of channels in the middle of their work says less. -/
theorem LineInv.mono (h : LineInv due back s) (hdue : ∀ n, due n → due' n) (hback : ∀ n, back n → back' n) :
    LineInv due' back' s where
  table := h.table
  epochs := h.epochs
  schedule := ⟨fun a ha =>
    have hs := h.schedule.actions a ha
    ⟨hs.finish, hs.unit, hs.width, hs.joins, fun ht hd => (hs.waits ht hd).imp_right (hback _),
      fun hp => (hs.ahead hp).imp_right (.imp_right (hdue _)), hs.link⟩, h.schedule.apart, h.schedule.active⟩
  engine := h.engine

end Sys2Proof.Machine
end

section
set_option Elab.async false
/-! PROOFS. The edges of the detectors keep the invariant of the line: openings with their placements, confirmations, discards and
gaps (R25 to R34). -/

namespace Sys2Proof.Machine

variable {s t u : State} {due back : Channel → Prop}

/-! ### One detector -/

theorem laneEnabled_congr (l : Lane) (h : t.detectors.enabled = s.detectors.enabled) : laneEnabled l t = laneEnabled l s := by
  rw [laneEnabled, laneEnabled, h]

/-- While the line is tracking an operation that leaves the engine and the lane enable mask owes the engine's invariant no more
than its lanes. -/
theorem EngineSound.track (h : EngineSound s) (ht : tracking s = true) (hengine : t.engine = s.engine)
    (henabled : t.detectors.enabled = s.detectors.enabled)
    (hlanes : ∀ l, detectorOf l t = detectorOf l s ∨ LaneOk (laneEnabled l s) (detectorOf l t)) : EngineSound t := by
  have ht' : tracking t = true := by rw [tracking_congr (congrArg Engine.state hengine), ht]
  obtain ⟨hfrom, _⟩ := (engineSound_tracking_iff ht).1 h
  refine (engineSound_tracking_iff ht').2 ⟨by rw [hengine, hfrom], fun l => ?_⟩
  rw [laneEnabled_congr l henabled]
  rcases hlanes l with heq | hok
  · rw [heq]
    exact h.laneOk l
  · exact hok

theorem EpochInv.modifyDetector (h : EpochInv s) (l : Lane) (f : Detector → Detector) : EpochInv (modifyDetector l f s) :=
  h.same (.of_eq rfl) (fun p => validate_congr p rfl fun _ => rfl) id fun _ => rfl

theorem ScheduleInv.modifyDetector (h : ScheduleInv due back s) (l : Lane) (f : Detector → Detector) :
    ScheduleInv due back (modifyDetector l f s) :=
  h.same (.refl _) rfl rfl id fun _ _ _ _ hlink => hlink.same rfl rfl

theorem EngineSound.modifyDetector (h : EngineSound s) (ht : tracking s = true) {l : Lane} {f : Detector → Detector}
    (hok : LaneOk (laneEnabled l s) (f (detectorOf l s))) : EngineSound (modifyDetector l f s) := by
  refine h.track ht rfl rfl fun k => ?_
  rw [detectorOf_modifyDetector]
  split
  · next heq => exact .inr (heq ▸ hok)
  · exact .inl rfl

/-- A detector that stays in COVERED or out of it. -/
theorem LineInv.modifyDetector (h : LineInv due back s) (ht : tracking s = true) {l : Lane} {f : Detector → Detector}
    (hcovered : (f (detectorOf l s)).state = .covered ↔ (detectorOf l s).state = .covered)
    (hok : LaneOk (laneEnabled l s) (f (detectorOf l s))) : LineInv due back (modifyDetector l f s) where
  table := h.table.same (.of_table rfl) fun k => by
    rw [detectorOf_modifyDetector]
    split
    · next heq => rw [hcovered, heq]
    · rfl
  epochs := h.epochs.modifyDetector l f
  schedule := h.schedule.modifyDetector l f
  engine := h.engine.modifyDetector ht hok

/-! ### Placements (R108, R110) -/

/-- V8: in a valid set the channels in use have a width. -/
theorem width_ne_zero {p : ProfileSet} (hvalid : validate p s = none) {n : Channel}
    (hmode : s.channels[n].config.mode ≠ .off) : p.channels[n].width ≠ 0 := by
  have hnone : validationFailures p s = [] := List.head?_eq_none_iff.1 hvalid
  have hpass : failingChannels 8 (fun c => c.mode ≠ .off) (fun n => checkWidth p.channels[n]) s = [] := by
    simp only [validationFailures, List.append_eq_nil_iff] at hnone
    exact hnone.1.2
  intro hzero
  have hmem : { number := 8, index := n.val } ∈
      failingChannels 8 (fun c => c.mode ≠ .off) (fun n => checkWidth p.channels[n]) s :=
    mem_failingChannels.2 ⟨rfl, n, rfl, by simpa using hmode, by rw [checkWidth, hzero]; rfl⟩
  rw [hpass] at hmem
  exact absurd hmem (List.not_mem_nil)

theorem reached_succ (h : Word) : reached h (h + 1) = false := by
  simp [reached]

/-- The record of an action at its placement (R108). -/
theorem newAction_sound {n : Channel} {item : Option Slot} {start : Word} {prof : ChannelProfile} (hwidth : prof.width ≠ 0)
    (hstart : reached s.motion.h start = false) (hlink : ∀ slot ∈ item, LinkSound n slot s) :
    ActionSound due back s (newAction n item start prof s) where
  finish := rfl
  unit := rfl
  width := hwidth
  joins h := by simp [newAction] at h
  waits _ h := by simp [newAction] at h
  ahead _ := .inl hstart
  link := hlink

/-- Actions join the schedule. -/
theorem ScheduleInv.append (h : ScheduleInv due back s) {l : List Action} (hschedule : t.schedule.Perm (s.schedule ++ l))
    (hchannels : t.channels = s.channels) (hh : t.motion.h = s.motion.h) (htracking : tracking t = true → tracking s = true)
    (hentries : ∀ k, coreAt k t = coreAt k s) (hnew : ∀ a ∈ l, ActionSound due back s a ∧ a.isActive = false)
    (hapart : l.Pairwise Apart) (hcross : ∀ a ∈ s.schedule, ∀ b ∈ l, Apart a b) : ScheduleInv due back t where
  actions a ha := by
    have hold : ActionSound due back s a := by
      rcases List.mem_append.1 (hschedule.mem_iff.1 ha) with hs | hl
      · exact h.actions a hs
      · exact (hnew a hl).1
    exact hold.same (by rw [hchannels]) hh htracking fun slot _ hlink => hlink.same (by rw [hchannels]) (hentries slot)
  apart := (apart_perm hschedule).2 (List.pairwise_append.2 ⟨h.apart, hapart, hcross⟩)
  active n := by
    have hnone : l.countP (activeOn n) = 0 := List.countP_eq_zero.2 fun a ha => by simp [activeOn, (hnew a ha).2]
    rw [hchannels, activeCount, hschedule.countP_eq, List.countP_append, hnone, Nat.add_zero]
    exact h.active n

theorem Placements.coreAt {slot : Slot} {late missed full : Bool} {l : List Action} (h : Placements slot late missed full l s t)
    (k : Slot) : coreAt k t = coreAt k s := by
  unfold Machine.coreAt
  by_cases hk : k = slot
  · subst hk
    rw [h.entry, Option.map_map]
    rfl
  · rw [h.others k hk]

theorem Placements.sameTable {slot : Slot} {late missed full : Bool} {l : List Action}
    (h : Placements slot late missed full l s t) (hwf : s.table.wf = true → t.table.wf = true) : SameTable s t where
  wf := hwf
  entries := h.coreAt
  laneList := by rw [h.frame]
  doneList := by rw [h.frame]
  counters l := by rw [h.frame]; exact ⟨rfl, rfl⟩

theorem LineInv.placements (h : LineInv due back s) (ht : tracking s = true) {slot : Slot} {late missed full : Bool}
    {l : List Action} (hp : Placements slot late missed full l s t) (hwf : s.table.wf = true → t.table.wf = true)
    (hnew : ∀ a ∈ l, ActionSound due back s a ∧ a.isActive = false)
    (hapart : l.Pairwise Apart) (hcross : ∀ a ∈ s.schedule, ∀ b ∈ l, Apart a b) : LineInv due back t := by
  obtain ⟨hframe, hschedule, -, -⟩ := id hp
  have hchannels : t.channels = s.channels := by rw [hframe]
  have hmotion : t.motion = s.motion := by rw [hframe]
  have hengine : t.engine = s.engine := by rw [hframe]
  have hdetectors : t.detectors = s.detectors := by rw [hframe]
  have hunit : t.epochUnit = s.epochUnit := by rw [hframe]
  have hdetector (l : Lane) : detectorOf l t = detectorOf l s := by rw [detectorOf, detectorOf, hdetectors]
  exact ⟨h.table.same (hp.sameTable hwf) fun l => by rw [hdetector],
    h.epochs.same (.of_eq hunit) (validate_same hdetectors hchannels) (by rw [hengine]; exact id) hp.coreAt,
    h.schedule.append hschedule hchannels (by rw [hmotion]) (by rw [tracking_congr (congrArg Engine.state hengine)]; exact id)
      hp.coreAt hnew hapart hcross,
    h.engine.track ht hengine (by rw [hdetectors]) fun l => .inl (hdetector l)⟩

/-- Actions placed for one entry on different channels. -/
theorem apart_of_channels {l : List Action} (h : (l.map Action.channel).Nodup) : l.Pairwise Apart := by
  have h' : l.Pairwise fun a b => a.channel ≠ b.channel := List.pairwise_map.1 h
  exact h'.imp fun hne heq => absurd heq hne

/-- The channels in ascending number are different channels, whatever is placed on them. -/
theorem nodup_choice_channels {choice : Channel → Option (Action × Bool)} (p q : Channel → Bool)
    (hchannel : ∀ n a, choice n = some a → a.1.channel = n) :
    ((((allChannels.filter p).filter q).filterMap fun n => (choice n).map (·.1)).map Action.channel).Nodup := by
  have hall : (((allChannels.filter p).filter q)).Nodup :=
    (allChannels_sorted.imp fun h => ne_of_lt h : allChannels.Nodup).filter _ |>.filter _
  generalize (allChannels.filter p).filter q = l at hall ⊢
  induction l with
  | nil => simp
  | cons n l ih =>
    obtain ⟨hn, hl⟩ := List.nodup_cons.1 hall
    rw [List.filterMap_cons]
    cases hc : choice n with
    | none => exact ih hl
    | some a =>
      refine List.nodup_cons.2 ⟨fun hmem => ?_, ih hl⟩
      simp only [List.mem_map, List.mem_filterMap] at hmem
      obtain ⟨b, ⟨m, hm, hb⟩, heq⟩ := hmem
      cases hcm : choice m with
      | none => simp [hcm] at hb
      | some c =>
        rw [hcm] at hb
        have hbm : b.channel = m := by rw [← Option.some.inj hb]; exact hchannel m c hcm
        exact hn (by rw [← hchannel n a hc, ← heq, hbm]; exact hm)

end Sys2Proof.Machine
end

section
set_option Elab.async false
/-! PROOFS. The edges that a detector takes keep the invariant of the line (R25 to R34). -/

namespace Sys2Proof.Machine

variable {s t u : State} {due back : Channel → Prop}

theorem not_stopped_of_tracking (ht : tracking s = true) : s.engine.state ≠ .stopped := by
  rcases (tracking_iff s).1 ht with h | h <;> simp [h]

theorem laneOk_of_enabled {enabled : Bool} {d : Detector} (h : enabled = true) (hgap : d.state = .gap → d.gap ≠ none) :
    LaneOk enabled d := ⟨fun h' => by simp [h] at h', hgap⟩

/-! ### An opening (R39) -/

/-- The line with an entry opened on a lane, its actions still to place (R39). -/
def withOpening (slot : Slot) (l : Lane) (leading : Word) (s : State) : State :=
  let t := setEntry slot (openedEntry l leading s) (goTo l .covered s)
  { t with table := { t.table with laneList := updateAt t.table.laneList l (· ++ [slot]) } }

theorem openEntry_eq (slot : Slot) (l : Lane) (leading : Word) (s : State) :
    openEntry slot l leading (goTo l .covered s) =
      placeItemActions slot (openedEntry l leading s) (withOpening slot l leading s) := rfl

theorem entryAt_withOpening (slot : Slot) (l : Lane) (leading : Word) (k : Slot) :
    entryAt k (withOpening slot l leading s) = if k = slot then some (openedEntry l leading s) else entryAt k s :=
  entryAt_setEntry (goTo l .covered s) slot k _

theorem detectorOf_withOpening (slot : Slot) (l : Lane) (leading : Word) (k : Lane) :
    detectorOf k (withOpening slot l leading s) =
      if l = k then { detectorOf l s with state := .covered } else detectorOf k s :=
  detectorOf_modifyDetector s l k _

/-- A slot that holds no entry is in no list. -/
theorem TableInv.not_listed (h : TableInv s) {slot : Slot} (hfree : entryAt slot s = none) :
    (∀ l : Lane, slot ∉ s.table.laneList[l]) ∧ slot ∉ s.table.doneList := by
  refine ⟨fun l hmem => ?_, fun hmem => ?_⟩
  · obtain ⟨e, he, _⟩ := (h.laneList l slot).1 hmem
    simp [hfree] at he
  · obtain ⟨e, he, _⟩ := (h.doneList slot).1 hmem
    simp [hfree] at he

theorem TableInv.withOpening (h : TableInv s) {slot : Slot} {l : Lane} (leading : Word) (hfree : entryAt slot s = none)
    (hcovered : (detectorOf l s).state ≠ .covered) : TableInv (withOpening slot l leading s) := by
  obtain ⟨hlanes, hdone⟩ := h.not_listed hfree
  have hentry := entryAt_withOpening (s := s) slot l leading
  have hslot : entryAt slot (Machine.withOpening slot l leading s) = some (openedEntry l leading s) := by rw [hentry, if_pos rfl]
  refine h.step (slot := slot) (setEntry_wf (goTo l .covered s) slot _ h.wf) (fun k hk => ?_) (fun k => ?_) ⟨h.doneNodup, ?_, fun k _ => .rfl⟩
    (fun e he => ?_) (fun e he htag => ?_) (fun k => ?_) fun k => ?_
  · rw [coreAt, coreAt, hentry, if_neg hk]
  · have hlist : (Machine.withOpening slot l leading s).table.laneList[k] =
        if l = k then s.table.laneList[l] ++ [slot] else s.table.laneList[k] := updateAt_get _ l _ k
    rw [hlist, hslot]
    by_cases hk : l = k
    · subst hk
      rw [if_pos rfl]
      refine ⟨List.nodup_append.2 ⟨h.laneNodup l, by simp, fun x hx y hy => ?_⟩, ?_, fun j hj => by simp [hj]⟩
      · rintro rfl
        rw [List.mem_singleton.1 hy] at hx
        exact hlanes l hx
      · exact ⟨fun _ => ⟨_, rfl, rfl, rfl⟩, fun _ => by simp⟩
    · rw [if_neg hk]
      refine ⟨h.laneNodup k, ⟨fun hmem => absurd hmem (hlanes k), ?_⟩, fun _ _ => .rfl⟩
      rintro ⟨e, he, hlane, _⟩
      rw [← Option.some.inj he] at hlane
      exact absurd hlane hk
  · rw [hslot]
    refine ⟨fun hmem => absurd hmem hdone, ?_⟩
    rintro ⟨e, he, hlive⟩
    rw [← Option.some.inj he] at hlive
    exact Bool.noConfusion hlive
  · rw [hslot] at he
    rw [← Option.some.inj he]
    exact ⟨by simp [openedEntry], by simp [openedEntry], fun _ => rfl, by simp [openedEntry]⟩
  · rw [hslot] at he
    rw [← Option.some.inj he] at htag
    exact absurd rfl htag
  · rw [hslot, hfree, detectorOf_withOpening]
    by_cases hk : l = k
    · subst hk
      simp [slotShare, isOpening, openedEntry, hcovered]
    · simp [slotShare, isOpening, openedEntry, hk]
  · rw [hslot, hfree]
    have hshare : slotShare (isConfirmed k) (some (openedEntry l leading s)) = slotShare (isConfirmed k) none := by
      simp [slotShare, isConfirmed, openedEntry]
    rw [hshare]
    rfl

theorem LineInv.withOpening (h : LineInv due back s) (ht : tracking s = true) {slot : Slot} {l : Lane} (leading : Word)
    (hfree : entryAt slot s = none) (hcovered : (detectorOf l s).state ≠ .covered) (hen : laneEnabled l s = true) :
    LineInv due back (withOpening slot l leading s) where
  table := h.table.withOpening leading hfree hcovered
  epochs := by
    refine h.epochs.step (.of_eq rfl) (fun p => validate_congr p rfl fun _ => rfl) id fun k e he hlive => ?_
    rw [entryAt_withOpening] at he
    split at he
    · rw [← Option.some.inj he]
      exact .inr ⟨rfl, rfl, not_stopped_of_tracking ht⟩
    · exact .inl ⟨e, he, hlive, rfl, rfl⟩
  schedule := h.schedule.same (.refl _) rfl rfl id fun a _ k _ hlink => hlink.step rfl fun d hd hlive => by
    rw [entryAt_withOpening, if_neg (by rintro rfl; simp [hfree] at hd)]
    exact ⟨d, hd, hlive, rfl, id⟩
  engine := h.engine.track ht rfl rfl fun k => by
    rw [detectorOf_withOpening]
    split
    · next heq =>
      subst heq
      exact .inr (laneOk_of_enabled hen (by simp))
    · exact .inl rfl

/-- R110: a placement never starts at a position that has been reached. -/
theorem itemChoice_spec {slot : Slot} {e : Entry} {n : Channel} {a : Action × Bool} (h : itemChoice slot e n s = some a) :
    ∃ start, a.1 = newAction n (some slot) start (bankOf e.bank s).channels[n] s ∧ reached s.motion.h start = false := by
  simp only [itemChoice] at h
  split at h
  · next hreached =>
    rw [← Option.some.inj h]
    exact ⟨_, rfl, by simpa using hreached⟩
  · split at h
    · simp at h
    · rw [← Option.some.inj h]
      exact ⟨_, rfl, reached_succ _⟩

/-- No action is linked to a slot that holds no live entry (R120, R121). -/
theorem ScheduleInv.not_linked (h : ScheduleInv due back s) {slot : Slot}
    (hslot : ∀ e, entryAt slot s = some e → isLive e = false) : ∀ a ∈ s.schedule, a.item ≠ some slot := by
  intro a ha hitem
  obtain ⟨e, he, hlive, _⟩ := (h.actions a ha).link slot hitem
  simp [hslot e he] at hlive

theorem LineInv.openEntry (h : LineInv due back s) (ht : tracking s = true) {slot : Slot} {l : Lane} (leading : Word)
    (hfree : entryAt slot s = none) (hcovered : (detectorOf l s).state ≠ .covered) (hen : laneEnabled l s = true) :
    LineInv due back (openEntry slot l leading (goTo l .covered s)) := by
  rw [openEntry_eq]
  set e := openedEntry l leading s with he
  set v := Machine.withOpening slot l leading s with hv
  have hline : LineInv due back v := h.withOpening ht leading hfree hcovered hen
  have hentry : entryAt slot v = some e := by rw [hv, entryAt_withOpening, if_pos rfl]
  have hunlinked : ∀ a ∈ v.schedule, a.item ≠ some slot :=
    h.schedule.not_linked fun d hd => by simp [hfree] at hd
  have hp := placeItemActions_placements slot e v
  refine hline.placements ht hp (placeItemActions_effects (sound := False) (posting := False) slot e v).wf (fun a ha => ?_)
    (apart_of_channels (nodup_choice_channels (choice := fun n => itemChoice slot e n v) _ _ fun n a ha => ?_))
    fun a ha b hb hchannel hitem heq => ?_
  · simp only [List.mem_filterMap, List.mem_filter, servesItem, Bool.and_eq_true, decide_eq_true_eq] at ha
    obtain ⟨n, ⟨⟨_, hmode, hlane⟩, _⟩, ha⟩ := ha
    obtain ⟨c, hc, rfl⟩ := Option.map_eq_some_iff.1 ha
    obtain ⟨start, hnew, hstart⟩ := itemChoice_spec hc
    rw [hnew]
    have hwidth := width_ne_zero (hline.epochs.bank slot e hentry rfl) (n := n) (by rw [hmode]; exact ChannelMode.noConfusion)
    refine ⟨newAction_sound hwidth hstart fun k hk => ?_, rfl⟩
    rw [← Option.some.inj hk]
    exact ⟨e, hentry, rfl, .inl hmode, hlane⟩
  · obtain ⟨start, hnew, _⟩ := itemChoice_spec ha
    rw [hnew]
    rfl
  · simp only [List.mem_filterMap] at hb
    obtain ⟨n, _, hb⟩ := hb
    obtain ⟨c, hc, rfl⟩ := Option.map_eq_some_iff.1 hb
    obtain ⟨start, hnew, _⟩ := itemChoice_spec hc
    exact hunlinked a ha (by rw [heq, hnew]; rfl)

/-! ### One entry written in its slot -/

/-- An entry that keeps its lane and stays live, or stays DONE, keeps its place in the lists. -/
theorem TableInv.rewrite (h : TableInv s) (hwf : t.table.wf = true) {slot : Slot} {d e : Entry}
    (hd : entryAt slot s = some d) (he : entryAt slot t = some e) (hothers : ∀ k ≠ slot, coreAt k t = coreAt k s)
    (hlane : e.lane = d.lane) (hlive : isLive e = isLive d) (hlaneList : t.table.laneList = s.table.laneList)
    (hdoneList : t.table.doneList = s.table.doneList) (hfields : FieldsSound e)
    (htags : e.tag ≠ none → ∀ k x, k ≠ slot → entryAt k s = some x → x.lane = e.lane → x.tag ≠ e.tag)
    (hopening : ∀ l : Lane, slotShare (isOpening l) (some e) + (if (detectorOf l s).state = .covered then 1 else 0) =
      slotShare (isOpening l) (some d) + if (detectorOf l t).state = .covered then 1 else 0)
    (hcounters : ∀ l : Lane, t.table.counters[l].confirmed + s.table.counters[l].outcomes +
        BitVec.ofNat 32 (slotShare (isConfirmed l) (some d)) =
      s.table.counters[l].confirmed + t.table.counters[l].outcomes + BitVec.ofNat 32 (slotShare (isConfirmed l) (some e))) :
    TableInv t := by
  refine h.step hwf hothers (fun l => ?_) ?_ (fun x hx => ?_) (fun x hx => ?_) (fun l => ?_) fun l => ?_
  · rw [hlaneList, he]
    refine ⟨h.laneNodup l, ?_, fun _ _ => .rfl⟩
    rw [h.laneList l slot, hd]
    simp [hlane, hlive]
  · rw [hdoneList, he]
    refine ⟨h.doneNodup, ?_, fun _ _ => .rfl⟩
    rw [h.doneList slot, hd]
    simp [hlive]
  · rw [he] at hx
    exact Option.some.inj hx ▸ hfields
  · rw [he] at hx
    exact Option.some.inj hx ▸ htags
  · rw [he, hd]
    exact hopening l
  · rw [he, hd]
    exact hcounters l

end Sys2Proof.Machine
end

section
set_option Elab.async false
/-! PROOFS. Confirmations, discards and the edges that lead to them keep the invariant of the line (R22 to R34, R45, R46). -/

namespace Sys2Proof.Machine

variable {s t u : State} {due back : Channel → Prop}

/-! ### A confirmation (R31, R45) -/

theorem confirmedEntry_fields {e : Entry} (h : FieldsSound e) (hopening : e.state = .opening) (tag length : Half)
    (overlength : Option Class) : FieldsSound (confirmedEntry e tag length overlength) := by
  cases overlength with
  | none => exact ⟨by simp [confirmedEntry], by simp [confirmedEntry], fun _ => h.noVerdict (.inl hopening), by simp [confirmedEntry]⟩
  | some c => exact ⟨by simp [confirmedEntry], by simp [confirmedEntry], by simp [confirmedEntry], by simp [confirmedEntry]⟩

theorem confirmedEntry_kept (e : Entry) (tag length : Half) (overlength : Option Class) :
    (confirmedEntry e tag length overlength).lane = e.lane ∧ (confirmedEntry e tag length overlength).tag = some tag ∧
    (confirmedEntry e tag length overlength).epoch = e.epoch ∧ (confirmedEntry e tag length overlength).bank = e.bank ∧
    (confirmedEntry e tag length overlength).state ≠ .opening ∧ (confirmedEntry e tag length overlength).state ≠ .scheduled ∧
    isLive (confirmedEntry e tag length overlength) = true := by
  cases overlength <;> exact ⟨rfl, rfl, rfl, rfl, EntryState.noConfusion, EntryState.noConfusion, rfl⟩

/-- An entry is confirmed and its lane leaves COVERED. -/
theorem LineInv.confirmEntry (h : LineInv due back s) (ht : tracking s = true) {slot : Slot} {e : Entry}
    (he : entryAt slot s = some e) (hopening : e.state = .opening) (hen : laneEnabled e.lane s = true)
    (hcovered : (detectorOf e.lane s).state = .covered) {tag : Half} (hfree : tagFree e.lane tag s = true) (length : Half)
    (overlength : Option Class) {f : Detector → Detector}
    (hf : (f (detectorOf e.lane s)).state ≠ .covered ∧ ((f (detectorOf e.lane s)).state = .gap → (f (detectorOf e.lane s)).gap ≠ none)) :
    LineInv due back (Machine.modifyDetector e.lane f (modifyCounters e.lane (fun c => { c with confirmed := c.confirmed + 1 })
      (setEntry slot (confirmedEntry e tag length overlength) s))) := by
  obtain ⟨hlane, htag, hepoch, hbank, hnot, _, hlive⟩ := confirmedEntry_kept e tag length overlength
  have hdlive : isLive e = true := by simp [isLive, hopening]
  set t := Machine.modifyDetector e.lane f (modifyCounters e.lane (fun c => { c with confirmed := c.confirmed + 1 })
    (setEntry slot (confirmedEntry e tag length overlength) s)) with hdef
  have hentry (k : Slot) : entryAt k t = if k = slot then some (confirmedEntry e tag length overlength) else entryAt k s :=
    entryAt_setEntry s slot k _
  have hdetector (k : Lane) : detectorOf k t = if e.lane = k then f (detectorOf e.lane s) else detectorOf k s :=
    detectorOf_modifyDetector s e.lane k f
  have hcounter (k : Lane) : t.table.counters[k] =
      if e.lane = k then { s.table.counters[e.lane] with confirmed := s.table.counters[e.lane].confirmed + 1 }
      else s.table.counters[k] := updateAt_get _ e.lane _ k
  constructor
  case table =>
    refine h.table.rewrite (setEntry_wf s slot _ h.table.wf) he (by rw [hentry, if_pos rfl])
      (fun k hk => by rw [coreAt, coreAt, hentry, if_neg hk]) hlane (by rw [hlive, hdlive]) rfl rfl
      (confirmedEntry_fields (h.table.fields slot e he) hopening tag length overlength) (fun _ k x _ hx hxlane heq => ?_)
      (fun k => ?_) fun k => ?_
    · exact (tagFree_iff e.lane tag s).1 hfree (k, x) (findEntry_mem hx) (hxlane.trans hlane) (heq.trans htag)
    · rw [hdetector]
      by_cases hk : e.lane = k
      · subst hk
        simp [slotShare, isOpening, hnot, hopening, hcovered, hf.1]
      · simp [slotShare, isOpening, hlane, hk]
    · rw [hcounter]
      by_cases hk : e.lane = k
      · subst hk
        simp only [if_true, slotShare, isConfirmed, hlane, hopening, hnot, Option.any_some, decide_true, Bool.true_and, ne_eq,
          not_true_eq_false, decide_false, Bool.toNat_false, not_false_eq_true, Bool.toNat_true]
        bv_omega
      · simp [slotShare, isConfirmed, hlane, hk]
  case epochs =>
    refine h.epochs.step (.of_eq rfl) (fun p => validate_congr p rfl fun _ => rfl) id fun k x hx hxlive => ?_
    rw [hentry] at hx
    split at hx
    · next hk =>
      rw [← Option.some.inj hx, hk]
      exact .inl ⟨e, he, hdlive, hepoch.symm, hbank.symm⟩
    · exact .inl ⟨x, hx, hxlive, rfl, rfl⟩
  case schedule =>
    refine h.schedule.same (.refl _) rfl rfl id fun a _ k _ hlink => hlink.step rfl fun d hd hdl => ?_
    rw [hentry]
    split
    · next hk =>
      rw [hk, he] at hd
      rw [← Option.some.inj hd]
      exact ⟨_, rfl, hlive, hlane, fun h => by simp [hopening] at h⟩
    · exact ⟨d, hd, hdl, rfl, id⟩
  case engine =>
    refine h.engine.track ht rfl rfl fun k => ?_
    rw [hdetector]
    split
    · next hk => exact .inr (hk ▸ laneOk_of_enabled hen hf.2)
    · exact .inl rfl

theorem LineInv.confirm (h : LineInv due back s) (ht : tracking s = true) {slot : Slot} {e : Entry}
    (he : entryAt slot s = some e) (hopening : e.state = .opening) (hen : laneEnabled e.lane s = true)
    (hcovered : (detectorOf e.lane s).state = .covered) (length : Half) (overlength : Option Class) {f : Detector → Detector}
    (hf : ∀ d, (f d).state ≠ .covered ∧ ((f d).state = .gap → (f d).gap ≠ none)) :
    LineInv due back (Machine.modifyDetector e.lane f (confirm slot e length overlength s)) := by
  rw [confirm_eq, modifyDetector_modifyDetector, modifyDetector_offer]
  have hfree : tagFree e.lane (confirmTag e.lane s) s = true := (nextFreeTag_spec h.table.wf e.lane _).1
  exact (h.confirmEntry ht he hopening hen hcovered hfree length overlength
    (f := fun d => f { d with nextTag := confirmTag e.lane s + 1 }) (hf _)).same (offer_sameLine _ _)

/-! ### A discard (R46, R121) -/

theorem activeOn_detached (n : Channel) (slot : Slot) (a : Action) :
    activeOn n (if a.item = some slot then { a with item := none } else a) = activeOn n a := by
  split <;> rfl

theorem detached_item (slot : Slot) (a : Action) :
    (if a.item = some slot then { a with item := none } else a).item = if a.item = some slot then none else a.item := by
  split <;> rfl

theorem detached_channel (slot : Slot) (a : Action) :
    (if a.item = some slot then { a with item := none } else a).channel = a.channel := by
  split <;> rfl

/-- The PENDING actions of an entry leave the schedule and its ACTIVE actions are unlinked (R120, R121). -/
theorem ScheduleInv.detach (h : ScheduleInv due back s) (slot : Slot) (hschedule : t.schedule = detachItem slot s.schedule)
    (hchannels : t.channels = s.channels) (hh : t.motion.h = s.motion.h) (htracking : tracking t = true → tracking s = true)
    (hlink : ∀ n k, k ≠ slot → LinkSound n k s → LinkSound n k t) : ScheduleInv due back t := by
  rw [detachItem_eq] at hschedule
  refine ⟨fun a ha => ?_, ?_, fun n => ?_⟩
  · rw [hschedule] at ha
    obtain ⟨b, hb, rfl⟩ := List.mem_map.1 ha
    obtain ⟨hmem, _⟩ := List.mem_filter.1 hb
    have hb := h.actions b hmem
    split
    · have hfree : ActionSound due back s { b with item := none } :=
        ⟨hb.finish, hb.unit, hb.width, hb.joins, hb.waits, hb.ahead, fun k hk => by simp at hk⟩
      exact hfree.same (by rw [hchannels]) hh htracking fun k hk => by simp at hk
    · next hitem =>
      refine hb.same (by rw [hchannels]) hh htracking fun k hk hl => hlink _ k ?_ hl
      rintro rfl
      exact hitem hk
  · rw [hschedule, List.pairwise_map]
    refine (h.apart.filter _).imp fun {a b} hab hchannel hitem heq => ?_
    rw [detached_item] at hitem heq
    rw [detached_item] at heq
    by_cases ha : a.item = some slot
    · rw [if_pos ha] at hitem
      exact hitem rfl
    · rw [if_neg ha] at hitem heq
      by_cases hb : b.item = some slot
      · rw [if_pos hb] at heq
        exact hitem heq
      · rw [if_neg hb] at heq
        exact hab (by simpa only [detached_channel] using hchannel) hitem heq
  · rw [hchannels, ← h.active n, activeCount, hschedule, List.countP_map, List.countP_filter, activeCount]
    refine List.countP_congr fun a _ => ?_
    rw [Function.comp, activeOn_detached]
    simp only [activeOn, Bool.and_eq_true, decide_eq_true_eq, Bool.or_eq_true]
    exact ⟨fun h => h.1, fun h => ⟨h, .inl h.2⟩⟩

/-- A slot leaves its lane list, and no other list holds it. -/
theorem TableInv.leave (h : TableInv s) {slot : Slot} {e : Entry} (he : entryAt slot s = some e) (l : Lane) :
    ((updateAt s.table.laneList e.lane (·.filter (· ≠ slot)))[l]).Nodup ∧
    slot ∉ (updateAt s.table.laneList e.lane (·.filter (· ≠ slot)))[l] ∧
    ∀ k ≠ slot, k ∈ (updateAt s.table.laneList e.lane (·.filter (· ≠ slot)))[l] ↔ k ∈ s.table.laneList[l] := by
  rw [updateAt_get]
  by_cases hl : e.lane = l
  · subst hl
    rw [if_pos rfl]
    exact ⟨(h.laneNodup _).filter _, by simp, fun k hk => by simp [hk]⟩
  · rw [if_neg hl]
    refine ⟨h.laneNodup l, fun hmem => ?_, fun _ _ => .rfl⟩
    obtain ⟨d, hd, hlane, _⟩ := (h.laneList l slot).1 hmem
    rw [he] at hd
    exact hl (Option.some.inj hd ▸ hlane)

theorem entryAt_discardEntry (slot k : Slot) (e : Entry) (s : State) :
    entryAt k (discardEntry slot e s) = if k = slot then none else entryAt k s := findEntry_dropEntry slot k _

/-- An OPENING entry is discarded and its lane leaves COVERED. -/
theorem LineInv.discard (h : LineInv due back s) (ht : tracking s = true) {slot : Slot} {e : Entry}
    (he : entryAt slot s = some e) (hopening : e.state = .opening) (hen : laneEnabled e.lane s = true)
    (hcovered : (detectorOf e.lane s).state = .covered) {f : Detector → Detector}
    (hf : ∀ d, (f d).state ≠ .covered ∧ ((f d).state = .gap → (f d).gap ≠ none)) :
    LineInv due back (Machine.modifyDetector e.lane f (discardEntry slot e s)) := by
  have hdlive : isLive e = true := by simp [isLive, hopening]
  set t := Machine.modifyDetector e.lane f (discardEntry slot e s) with hdef
  have hentry (k : Slot) : entryAt k t = if k = slot then none else entryAt k s := entryAt_discardEntry slot k e s
  have hdetector (k : Lane) : detectorOf k t = if e.lane = k then f (detectorOf e.lane s) else detectorOf k s :=
    detectorOf_modifyDetector s e.lane k f
  constructor
  case table =>
    refine h.table.step (slot := slot) (dropEntry_rising h.table.wf slot) (fun k hk => by rw [coreAt, coreAt, hentry, if_neg hk])
      (fun k => ?_) ⟨h.table.doneNodup, ?_, fun _ _ => .rfl⟩ (fun x hx => ?_) (fun x hx => ?_) (fun k => ?_) fun k => ?_
    · obtain ⟨hnodup, hslot, hrest⟩ := h.table.leave he k
      refine ⟨hnodup, ⟨fun hmem => absurd hmem hslot, ?_⟩, hrest⟩
      rintro ⟨x, hx, _⟩
      simp [hentry] at hx
    · refine ⟨fun hmem => ?_, ?_⟩
      · obtain ⟨x, hx, hlive⟩ := (h.table.doneList slot).1 hmem
        rw [he] at hx
        simp [← Option.some.inj hx, hdlive] at hlive
      · rintro ⟨x, hx, _⟩
        simp [hentry] at hx
    · simp [hentry] at hx
    · simp [hentry] at hx
    · rw [hentry, if_pos rfl, he, hdetector]
      by_cases hk : e.lane = k
      · subst hk
        simp [slotShare, isOpening, hopening, hcovered, (hf _).1]
      · simp [slotShare, isOpening, hk]
    · rw [hentry, if_pos rfl, he]
      have hshare : slotShare (isConfirmed k) (some e) = slotShare (isConfirmed k) none := by
        simp [slotShare, isConfirmed, hopening]
      rw [hshare]
      rfl
  case epochs =>
    refine h.epochs.step (.of_eq rfl) (fun p => validate_congr p rfl fun _ => rfl) id fun k x hx hlive => ?_
    rw [hentry] at hx
    split at hx
    · simp at hx
    · exact .inl ⟨x, hx, hlive, rfl, rfl⟩
  case schedule =>
    refine h.schedule.detach slot rfl rfl rfl id fun n k hk hlink => hlink.step rfl fun d hd hlive => ?_
    exact ⟨d, by rw [hentry, if_neg hk, hd], hlive, rfl, id⟩
  case engine =>
    refine h.engine.track ht rfl rfl fun k => ?_
    rw [hdetector]
    split
    · next hk => exact .inr (hk ▸ laneOk_of_enabled hen (hf _).2)
    · exact .inl rfl

/-! ### Edges (R22 to R32) -/

/-- What a trailing edge makes of the detector (R33). -/
def gapOpened (l : Lane) (trailing : Word) (s : State) (d : Detector) : Detector :=
  let g : GapReference := { trailing := trailing, minGap := (currentBank s).lanes[l].minGap }
  { d with state := if reached s.motion.h (gapEnd g) then DetectorState.clear else .gap, gap := some g }

theorem openGap_eq_modifyDetector (l : Lane) (trailing : Word) (s : State) :
    openGap l trailing s = Machine.modifyDetector l (gapOpened l trailing s) s := rfl

theorem gapOpened_spec (l : Lane) (trailing : Word) (s : State) (d : Detector) :
    (gapOpened l trailing s d).state ≠ .covered ∧ ((gapOpened l trailing s d).state = .gap → (gapOpened l trailing s d).gap ≠ none) := by
  refine ⟨?_, fun _ => Option.some_ne_none _⟩
  simp only [gapOpened]
  split <;> exact DetectorState.noConfusion

/-- A lane in COVERED has its OPENING entry (R25, R48). -/
theorem TableInv.openingEntry (h : TableInv s) {l : Lane} (hcovered : (detectorOf l s).state = .covered) :
    ∃ slot e, Machine.openingEntry l s = some (slot, e) ∧ entryAt slot s = some e ∧ e.lane = l ∧ e.state = .opening := by
  have hcount := h.opening l
  rw [if_pos hcovered] at hcount
  obtain ⟨x, hx, hp⟩ := List.countP_pos_iff.1 (hcount ▸ Nat.one_pos : 0 < slotCount (isOpening l) s)
  obtain ⟨⟨slot, e⟩, hsome⟩ : ∃ y, Machine.openingEntry l s = some y :=
    Option.isSome_iff_exists.1 (List.find?_isSome.2 ⟨x, hx, hp⟩)
  obtain ⟨hentry, hstate⟩ := openingEntry_entryAt h.wf hsome
  exact ⟨slot, e, hsome, hentry, (openingEntry_spec hsome).2.1, hstate⟩

theorem LineInv.takeTrailing (h : LineInv due back s) (ht : tracking s = true) {l : Lane} (hen : laneEnabled l s = true)
    (ed : PendingEdge) : LineInv due back (takeTrailing l ed s) := by
  by_cases hcovered : (detectorOf l s).state = .covered
  · obtain ⟨slot, e, hsome, hentry, rfl, hstate⟩ := h.table.openingEntry hcovered
    rw [takeTrailing_covered ed hcovered hsome, openGap_eq_modifyDetector, measure]
    split
    · rw [← raise_modifyDetector]
      exact (h.discard ht hentry hstate hen hcovered (gapOpened_spec _ _ _)).same (raise_sameLine _ _ _ _)
    · exact h.confirm ht hentry hstate hen hcovered _ _ (gapOpened_spec _ _ _)
  · have heq : Machine.takeTrailing l ed s = openGap l ed.latched s := by
      unfold Machine.takeTrailing
      split
      · next hstate _ => exact absurd hstate hcovered
      · rfl
    rw [heq, openGap_eq_modifyDetector]
    exact h.modifyDetector ht (by simp [hcovered, (gapOpened_spec _ _ _ _).1]) (laneOk_of_enabled hen (gapOpened_spec _ _ _ _).2)

theorem modifyCounters_dropped_sameLine (l : Lane) (s : State) :
    SameLine s (modifyCounters l (fun c => { c with dropped := c.dropped + 1 }) s) where
  table := ⟨id, fun _ => rfl, rfl, rfl, fun k => by
    have hcounter : (modifyCounters l (fun c => { c with dropped := c.dropped + 1 }) s).table.counters[k] =
        if l = k then { s.table.counters[l] with dropped := s.table.counters[l].dropped + 1 } else s.table.counters[k] :=
      updateAt_get _ l _ k
    rw [hcounter]
    split
    · next hk => rw [hk]; exact ⟨rfl, rfl⟩
    · exact ⟨rfl, rfl⟩⟩
  detectors := rfl
  banks := .of_eq rfl
  schedule := rfl
  channels := rfl
  h := rfl
  state := rfl
  frozenFrom := rfl

theorem LineInv.takeLeading (h : LineInv due back s) (ht : tracking s = true) {l : Lane} (hen : laneEnabled l s = true)
    (hcovered : (detectorOf l s).state ≠ .covered) (ed : PendingEdge) : LineInv due back (takeLeading l ed s) := by
  have hblocked {u : State} (hsame : SameLine s u) {f : Detector → Detector} (hf : ∀ d, (f d).state = .blocked) :
      LineInv due back (Machine.modifyDetector l f u) := by
    have hdetector : detectorOf l u = detectorOf l s := by rw [detectorOf, detectorOf, hsame.detectors]
    refine (h.same hsame).modifyDetector (by rw [tracking_congr hsame.state, ht]) (by simp [hf, hdetector, hcovered]) ?_
    exact laneOk_of_enabled (by rw [laneEnabled_congr l (congrArg Detectors.enabled hsame.detectors), hen]) (by simp [hf])
  unfold Machine.takeLeading
  split
  · exact hblocked (raise_sameLine _ _ _ _) fun _ => rfl
  · split
    · exact hblocked (raise_sameLine _ _ _ _) fun _ => rfl
    · split
      · exact hblocked ((raise_sameLine _ _ _ _).trans (modifyCounters_dropped_sameLine _ _)) fun _ => rfl
      · next slot hslot => exact h.openEntry ht _ (lowestFreeSlot_some hslot).1 hcovered hen

/-- An enabled lane takes an edge. -/
theorem LineInv.takeEdge (h : LineInv due back s) (ht : tracking s = true) {l : Lane} (hen : laneEnabled l s = true)
    (ed : PendingEdge) : LineInv due back (takeEdge l ed s) := by
  have hdetector : detectorOf l (Machine.modifyDetector l ({ · with edge := none }) s) = { detectorOf l s with edge := none } := by
    rw [detectorOf_modifyDetector, if_pos rfl]
  have hline : LineInv due back (Machine.modifyDetector l ({ · with edge := none }) s) :=
    h.modifyDetector ht .rfl (laneOk_of_enabled hen (h.engine.laneOk l).2)
  unfold Machine.takeEdge
  split
  · exact hline.takeTrailing ht hen ed
  · next hlevel =>
    refine hline.takeLeading ht hen (fun hstate => hlevel ?_) ed
    rw [hdetector] at hstate
    rw [show (detectorOf l s).state = .covered from hstate]
    rfl

theorem LineInv.createEdge (h : LineInv due back s) (ht : tracking s = true) {l : Lane} (hen : laneEnabled l s = true) :
    LineInv due back (createEdge l s) := by
  by_cases hdebounce : (currentBank s).lanes[l].debounce = 0
  · rw [createEdge_at_once hdebounce]
    exact h.takeEdge ht hen _
  · rw [createEdge_debounced hdebounce]
    exact h.modifyDetector ht .rfl (laneOk_of_enabled hen (h.engine.laneOk l).2)

theorem LineInv.rawChange (h : LineInv due back s) (l : Lane) : LineInv due back (rawChange l s) := by
  cases hmay : laneEnabled l s && tracking s with
  | false => rwa [rawChange_idle hmay]
  | true =>
    obtain ⟨hen, ht⟩ := Bool.and_eq_true_iff.1 hmay
    by_cases hedge : (detectorOf l s).edge = none
    · rw [rawChange_of_no_edge hmay hedge]
      exact h.createEdge ht hen
    · rw [rawChange_of_edge hmay hedge]
      exact h.modifyDetector ht .rfl (laneOk_of_enabled hen (h.engine.laneOk l).2)

/-! ### Gap end and overlength (R33, R34) -/

theorem EngineSound.enabled_of_state (h : EngineSound s) {l : Lane} (hstate : (detectorOf l s).state ≠ .clear) :
    laneEnabled l s = true := by
  by_contra hdisabled
  exact hstate ((h.laneOk l).1 (by simpa using hdisabled)).1

theorem LineInv.detectorAdvance (h : LineInv due back s) (ht : tracking s = true) (l : Lane) :
    LineInv due back (detectorAdvance l s) := by
  unfold Machine.detectorAdvance
  dsimp only
  split
  · next hstate _ =>
    split
    · have hen := h.engine.enabled_of_state (l := l) (by simp [hstate])
      exact h.modifyDetector ht (by simp [hstate]) (laneOk_of_enabled hen (by simp))
    · exact h
  · next slot e hstate hsome =>
    split
    · obtain ⟨hentry, hopening⟩ := openingEntry_entryAt h.table.wf hsome
      obtain ⟨_, hlane, _⟩ := openingEntry_spec hsome
      subst hlane
      have hen := h.engine.enabled_of_state (l := e.lane) (by simp [hstate])
      exact h.confirm ht hentry hopening hen hstate _ _ fun d => by simp
    · exact h
  · exact h

end Sys2Proof.Machine
end

section
set_option Elab.async false
/-! PROOFS. Decisions, exits, postings and verdict records keep the invariant of the line (R50 to R58, R66 to R74). -/

namespace Sys2Proof.Machine

variable {s t u : State} {due back : Channel → Prop}

/-! ### An entry that changes in its slot -/

/-- A confirmed live entry that keeps its identity. -/
theorem LineInv.revise (h : LineInv due back s) {slot : Slot} {d e : Entry} (hd : entryAt slot s = some d)
    (hidentity : e.lane = d.lane ∧ e.tag = d.tag ∧ e.epoch = d.epoch ∧ e.bank = d.bank)
    (hstates : d.state ≠ .opening ∧ e.state ≠ .opening ∧ isLive d = true ∧ isLive e = true)
    (hscheduled : d.state = .scheduled → e.state = .scheduled) (hfields : FieldsSound e) :
    LineInv due back (setEntry slot e s) := by
  obtain ⟨hlane, htag, hepoch, hbank⟩ := hidentity
  obtain ⟨hdopening, heopening, hdlive, helive⟩ := hstates
  have hentry (k : Slot) : entryAt k (setEntry slot e s) = if k = slot then some e else entryAt k s := entryAt_setEntry s slot k e
  have hothers (k : Slot) (hk : k ≠ slot) : coreAt k (setEntry slot e s) = coreAt k s := by
    rw [coreAt, coreAt, hentry, if_neg hk]
  have hwf : (setEntry slot e s).table.wf = true := setEntry_wf s slot e h.table.wf
  constructor
  case table =>
    refine h.table.rewrite hwf hd (by rw [hentry, if_pos rfl]) hothers hlane (by rw [helive, hdlive]) rfl rfl hfields
      (fun hne k x hk hx hxlane => ?_) (fun l => ?_) fun l => ?_
    · rw [htag] at hne ⊢
      exact fun heq => h.table.tags slot k d x hk.symm hd hx (by rw [hxlane, hlane]) hne heq.symm
    · have hshare : slotShare (isOpening l) (some e) = slotShare (isOpening l) (some d) := by
        simp [slotShare, isOpening, heopening, hdopening]
      rw [hshare]
      rfl
    · have hshare : slotShare (isConfirmed l) (some e) = slotShare (isConfirmed l) (some d) := by
        simp [slotShare, isConfirmed, heopening, hdopening, hlane]
      rw [hshare]
      rfl
  case epochs =>
    refine h.epochs.step (.of_eq rfl) (fun p => validate_congr p rfl fun _ => rfl) id fun k x hx hlive => .inl ?_
    rw [hentry] at hx
    split at hx
    · next hk => exact ⟨d, hk ▸ hd, hdlive, by rw [← Option.some.inj hx, hepoch], by rw [← Option.some.inj hx, hbank]⟩
    · exact ⟨x, hx, hlive, rfl, rfl⟩
  case schedule =>
    refine h.schedule.same (.refl _) rfl rfl id fun a _ k _ hlink => hlink.step rfl fun x hx hlive => ?_
    rw [hentry]
    split
    · next hk =>
      rw [hk, hd] at hx
      rw [← Option.some.inj hx]
      exact ⟨e, rfl, helive, hlane, hscheduled⟩
    · exact ⟨x, hx, hlive, rfl, id⟩
  case engine =>
    refine h.engine.same rfl rfl id id (fun hzero => ?_) rfl
    have hcount : liveEntries (setEntry slot e s) + _ = liveEntries s + _ :=
      slotCount_step (p := isLive) (fun _ => rfl) h.table.wf hwf hothers
    rw [hentry, if_pos rfl, hd] at hcount
    simp only [slotShare, Option.any_some, hdlive, helive] at hcount
    omega

/-! ### Decisions (R50, R113) -/

theorem decisionDue_state {e : Entry} (h : decisionDue e s = true) : e.state = .tracked ∨ e.state = .held := by
  simp only [decisionDue, Bool.and_eq_true, Bool.or_eq_true, decide_eq_true_eq] at h
  exact h.1

/-- R113: a VERDICT action never starts at a position that has been reached. -/
theorem verdictStart_not_reached (h d wanted : Word) : reached h (verdictStart h d wanted).1 = false := by
  simp only [verdictStart]
  generalize (if (!isAhead wanted d) = true then d + 1 else wanted) = start
  split
  · exact reached_succ h
  · next hreached => simpa using hreached

/-- The VERDICT actions of an entry with its decision taken (R112, R113, R116). -/
theorem LineInv.placeVerdictActions (h : LineInv due back s) (ht : tracking s = true) {slot : Slot} {e : Entry} (c : Class)
    (he : entryAt slot s = some e) (hstate : e.state = .scheduled)
    (hunlinked : ∀ a ∈ s.schedule, a.item = some slot → s.channels[a.channel].config.mode = .perItem) :
    LineInv due back (placeVerdictActions slot e c s) := by
  have hlive : isLive e = true := by simp [isLive, hstate]
  have hp := placeVerdictActions_placements slot e c s
  refine h.placements ht hp (placeVerdictActions_effects (sound := False) (posting := False) slot e c s).wf (fun a ha => ?_)
    (apart_of_channels ?_) fun a ha b hb hchannel hitem heq => ?_
  · simp only [List.mem_map, List.mem_filter, servesClass, Bool.and_eq_true, decide_eq_true_eq] at ha
    obtain ⟨n, ⟨⟨_, ⟨hmode, hlane⟩, _⟩, _⟩, rfl⟩ := ha
    refine ⟨newAction_sound (width_ne_zero (h.epochs.bank slot e he hlive) (by rw [hmode]; exact ChannelMode.noConfusion))
      (verdictStart_not_reached _ _ _) fun k hk => ?_, rfl⟩
    rw [← Option.some.inj hk]
    exact ⟨e, he, hlive, .inr ⟨hmode, hstate⟩, hlane⟩
  · have hnodup := nodup_choice_channels (choice := fun n => some (verdictChoice slot e n s)) (servesClass e c s)
      (fun n => !fullAt s.schedule.length (fun n => some (verdictChoice slot e n s)) (allChannels.filter (servesClass e c s)) n)
      fun n a ha => by rw [← Option.some.inj ha]; rfl
    simpa only [Option.map_some, List.filterMap_eq_map'] using hnodup
  · simp only [List.mem_map, List.mem_filter, servesClass, Bool.and_eq_true, decide_eq_true_eq] at hb
    obtain ⟨n, ⟨⟨_, ⟨hmode, _⟩, _⟩, _⟩, rfl⟩ := hb
    have hperItem := hunlinked a ha heq
    have hn : a.channel = n := hchannel
    subst hn
    exact absurd (hmode.symm.trans hperItem) ChannelMode.noConfusion

theorem LineInv.takeDecision (h : LineInv due back s) (ht : tracking s = true) (slot : Slot) :
    LineInv due back (takeDecision slot s) := by
  rcases takeDecision_cases s slot with ⟨_, heq⟩ | ⟨e, he, hdue, heq⟩
  · rwa [heq]
  · rw [heq]
    have hstate := decisionDue_state hdue
    have hne : e.state ≠ .opening ∧ e.state ≠ .scheduled ∧ isLive e = true := by
      rcases hstate with hs | hs <;> simp [isLive, hs]
    obtain ⟨hopening, hscheduled, hlive⟩ := hne
    have hfields := h.table.fields slot e he
    have hline := h.revise (e := { e with state := .scheduled, verdict := some (settledVerdict e s) }) he ⟨rfl, rfl, rfl, rfl⟩
      ⟨hopening, EntryState.noConfusion, hlive, rfl⟩ (fun _ => rfl)
      ⟨by simpa [hopening] using hfields.tag, by simpa [hopening] using hfields.length, by simp, by simp⟩
    refine hline.placeVerdictActions (s := setEntry slot _ s) ht _ (by rw [entryAt_setEntry, if_pos rfl]) rfl fun a ha hitem => ?_
    obtain ⟨x, hx, _, hmode, _⟩ := (h.schedule.actions a ha).link slot hitem
    rw [he] at hx
    rw [← Option.some.inj hx] at hmode
    exact hmode.resolve_right fun hm => hscheduled hm.2

theorem LineInv.takeDecisions (h : LineInv due back s) (ht : tracking s = true) (slots : List Slot) :
    LineInv due back (takeDecisions slots s) := by
  induction slots generalizing s with
  | nil => exact h
  | cons slot slots ih =>
    rw [takeDecisions_cons]
    exact ih (h.takeDecision ht slot) (by rw [tracking_congr (congrArg Engine.state (takeDecision_engine s slot)), ht])

/-! ### Exits (R52, R120) -/

theorem LineInv.takeExit (h : LineInv due back s) (ht : tracking s = true) {slot : Slot} {e : Entry}
    (he : entryAt slot s = some e) (hstate : e.state = .scheduled) : LineInv due back (takeExit slot e s) := by
  have hlive : isLive e = true := by simp [isLive, hstate]
  have hentry (k : Slot) : entryAt k (Machine.takeExit slot e s) = if k = slot then some (exitedEntry slot e s) else entryAt k s :=
    entryAt_takeExit slot k e s
  have hdone : isLive (exitedEntry slot e s) = false := rfl
  have hwf : (Machine.takeExit slot e s).table.wf = true :=
    (takeExit_effects (sound := False) (posting := True) trivial False.elim).wf h.table.wf
  have hengine : (Machine.takeExit slot e s).engine = s.engine := by rw [takeExit_eq]
  have hdetectors : (Machine.takeExit slot e s).detectors = s.detectors := by rw [takeExit_eq]
  have hchannels : (Machine.takeExit slot e s).channels = s.channels := by rw [takeExit_eq]
  have hdetector (l : Lane) : detectorOf l (Machine.takeExit slot e s) = detectorOf l s := by
    rw [detectorOf, detectorOf, hdetectors]
  have hfields := h.table.fields slot e he
  have hopening : e.state ≠ .opening := by simp [hstate]
  constructor
  case table =>
    refine h.table.step (slot := slot) hwf (fun k hk => by rw [coreAt, coreAt, hentry, if_neg hk]) (fun l => ?_) ?_ (fun x hx => ?_)
      (fun x hx => ?_) (fun l => ?_) fun l => ?_
    · obtain ⟨hnodup, hslot, hrest⟩ := h.table.leave he l
      rw [hentry, if_pos rfl, takeExit_eq]
      refine ⟨hnodup, ⟨fun hmem => absurd hmem hslot, ?_⟩, hrest⟩
      rintro ⟨x, hx, _, hxlive⟩
      rw [← Option.some.inj hx, hdone] at hxlive
      exact Bool.noConfusion hxlive
    · have hnot : slot ∉ s.table.doneList := fun hmem => by
        obtain ⟨x, hx, hxlive⟩ := (h.table.doneList slot).1 hmem
        rw [he] at hx
        rw [← Option.some.inj hx, hlive] at hxlive
        exact Bool.noConfusion hxlive
      rw [hentry, if_pos rfl, takeExit_eq]
      refine ⟨List.nodup_append.2 ⟨h.table.doneNodup, by simp, fun x hx y hy hxy => hnot ?_⟩,
        ⟨fun _ => ⟨_, rfl, hdone⟩, fun _ => by simp⟩, fun k hk => by simp [hk]⟩
      rwa [← List.mem_singleton.1 hy, ← hxy]
    · rw [hentry, if_pos rfl] at hx
      rw [← Option.some.inj hx]
      exact ⟨by simpa [exitedEntry, hopening] using hfields.tag, by simpa [exitedEntry, hopening] using hfields.length,
        by simp [exitedEntry], by simp [exitedEntry]⟩
    · rw [hentry, if_pos rfl] at hx
      rw [← Option.some.inj hx]
      exact fun htag k d hk hd hlane heq => h.table.tags slot k e d (Ne.symm hk) he hd hlane.symm htag heq.symm
    · rw [hentry, if_pos rfl, he, hdetector]
      simp [slotShare, isOpening, hopening, exitedEntry]
    · rw [hentry, if_pos rfl, he, takeExit_eq]
      have hshare : slotShare (isConfirmed l) (some (exitedEntry slot e s)) = slotShare (isConfirmed l) (some e) := by
        simp [slotShare, isConfirmed, exitedEntry, hopening]
      rw [hshare]
  case epochs =>
    refine h.epochs.step (.of_eq (by rw [takeExit_eq])) (validate_same hdetectors hchannels) (by rw [hengine]; exact id)
      fun k x hx hxlive => ?_
    rw [hentry] at hx
    split at hx
    · rw [← Option.some.inj hx, hdone] at hxlive
      exact Bool.noConfusion hxlive
    · exact .inl ⟨x, hx, hxlive, rfl, rfl⟩
  case schedule =>
    refine h.schedule.detach slot (by rw [takeExit_eq]) hchannels (by rw [takeExit_eq])
      (by rw [tracking_congr (congrArg Engine.state hengine)]; exact id) fun n k hk hlink =>
        hlink.step (by rw [hchannels]) fun d hd hdlive => ⟨d, by rw [hentry, if_neg hk, hd], hdlive, rfl, id⟩
  case engine => exact h.engine.track ht hengine (by rw [hdetectors]) fun l => .inl (hdetector l)

theorem exitDue_state {e : Entry} (h : exitDue e s = true) : e.state = .scheduled := by
  simp only [exitDue, Bool.and_eq_true, decide_eq_true_eq] at h
  exact h.1

theorem LineInv.foldl_takeExit (h : LineInv due back s) (ht : tracking s = true) (l : List (Slot × Entry))
    (hnodup : (l.map (·.1)).Nodup) (hl : ∀ x ∈ l, entryAt x.1 s = some x.2 ∧ x.2.state = .scheduled) :
    LineInv due back (l.foldl (fun s x => Machine.takeExit x.1 x.2 s) s) := by
  induction l generalizing s with
  | nil => exact h
  | cons x rest ih =>
    obtain ⟨hx, hstate⟩ := hl x (by simp)
    obtain ⟨hnot, hrest⟩ := List.nodup_cons.1 hnodup
    have ht' : tracking (Machine.takeExit x.1 x.2 s) = true := by rw [takeExit_eq]; exact ht
    refine ih (h.takeExit ht hx hstate) ht' hrest fun y hy => ?_
    have hne : y.1 ≠ x.1 := fun heq => hnot (List.mem_map.2 ⟨y, hy, heq⟩)
    rw [entryAt_takeExit, if_neg hne]
    exact hl y (List.mem_cons_of_mem _ hy)

theorem mem_leavingEntries_entryAt (hwf : s.table.wf = true) {x : Slot × Entry} (hx : x ∈ leavingEntries s) :
    entryAt x.1 s = some x.2 ∧ x.2.state = .scheduled :=
  ⟨entryAt_of_mem hwf (mem_leavingEntries.1 hx).1, exitDue_state (mem_leavingEntries.1 hx).2⟩

theorem LineInv.takeNextExit (h : LineInv due back s) (ht : tracking s = true) : LineInv due back (takeNextExit s) := by
  rcases takeNextExit_cases s with ⟨_, heq⟩ | ⟨x, rest, hx, heq⟩ <;> rw [heq]
  · exact h
  · obtain ⟨he, hstate⟩ := mem_leavingEntries_entryAt h.table.wf (x := x) (by simp [hx])
    exact h.takeExit ht he hstate

/-! ### Postings (R56) -/

theorem LineInv.postOutcome (h : LineInv due back s) : LineInv due back (postOutcome s) := by
  rcases postOutcome_cases s with ⟨_, heq⟩ | ⟨_, heq⟩ | ⟨slot, rest, hlist, _, ⟨hnone, _⟩ | ⟨e, he, heq⟩⟩
  · rwa [heq]
  · rwa [heq]
  · obtain ⟨e, he, _⟩ := (h.table.doneList slot).1 (by simp [hlist])
    simp [hnone] at he
  · obtain ⟨x, hx, hdone⟩ := (h.table.doneList slot).1 (by simp [hlist])
    obtain rfl : e = x := Option.some.inj (he.symm.trans hx)
    have hnodup := h.table.doneNodup
    rw [hlist] at hnodup
    obtain ⟨hnot, hrest⟩ := List.nodup_cons.1 hnodup
    have hopening : e.state ≠ .opening := fun hs => by simp [isLive, hs] at hdone
    set v := Machine.postOutcome s with hv
    have hentry (k : Slot) : entryAt k v = if k = slot then none else entryAt k s := by
      rw [heq]
      exact findEntry_dropEntry slot k _
    have hcounter (l : Lane) : v.table.counters[l] = if e.lane = l then
        { s.table.counters[e.lane] with outcomes := s.table.counters[e.lane].outcomes + 1 } else s.table.counters[l] := by
      rw [heq]
      exact updateAt_get _ e.lane _ l
    have hothers (k : Slot) (hk : k ≠ slot) : coreAt k v = coreAt k s := by rw [coreAt, coreAt, hentry, if_neg hk]
    have hwf : v.table.wf = true := postOutcome_wf s h.table.wf
    have hlanes : v.table.laneList = s.table.laneList := by rw [heq]
    have hlist' : v.table.doneList = rest := by rw [heq]
    constructor
    case table =>
      refine h.table.step (slot := slot) hwf hothers (fun l => ?_) ?_ (fun x hx => by simp [hentry] at hx)
        (fun x hx => by simp [hentry] at hx) (fun l => ?_) fun l => ?_
      · rw [hentry, if_pos rfl, hlanes]
        refine ⟨h.table.laneNodup l, ⟨fun hmem => ?_, by simp⟩, fun _ _ => .rfl⟩
        obtain ⟨x, hx, _, hlive⟩ := (h.table.laneList l slot).1 hmem
        rw [he] at hx
        rw [← Option.some.inj hx, hdone] at hlive
        exact Bool.noConfusion hlive
      · rw [hentry, if_pos rfl, hlist', hlist]
        exact ⟨hrest, ⟨fun hmem => absurd hmem hnot, by simp⟩, fun k hk => by simp [hk]⟩
      · have hdetector : detectorOf l v = detectorOf l s := by rw [hv, detectorOf, detectorOf, postOutcome_detectors]
        rw [hentry, if_pos rfl, he, hdetector]
        simp [slotShare, isOpening, hopening]
      · rw [hentry, if_pos rfl, he, hcounter]
        by_cases hl : e.lane = l
        · subst hl
          simp only [if_true, slotShare, isConfirmed, Option.any_none, Option.any_some, hopening, decide_true, Bool.true_and, ne_eq,
            not_false_eq_true, Bool.toNat_true, Bool.toNat_false]
          bv_omega
        · simp [slotShare, isConfirmed, hl]
    case epochs =>
      refine h.epochs.step (.of_eq (by simp [hv])) (validate_same (by simp [hv]) (by simp [hv])) (by simp [hv]) fun k x hx hlive => ?_
      rw [hentry] at hx
      split at hx
      · simp at hx
      · exact .inl ⟨x, hx, hlive, rfl, rfl⟩
    case schedule =>
      refine h.schedule.same (.of_eq (by simp [hv])) (by simp [hv]) (by simp [hv]) (by simp [hv, tracking]) fun a _ k _ hlink =>
        hlink.step (by simp [hv]) fun d hd hlive => ⟨d, ?_, hlive, rfl, id⟩
      rw [hentry, if_neg, hd]
      rintro rfl
      rw [he] at hd
      rw [← Option.some.inj hd, hdone] at hlive
      exact Bool.noConfusion hlive
    case engine =>
      refine h.engine.same (by simp [hv]) (by simp [hv]) (by simp [hv]) (by simp [hv]) (fun hzero => ?_) (by simp [hv])
      exact Nat.le_zero.1 (hzero ▸ postOutcome_liveEntries_le s)

theorem LineInv.serveDone (h : LineInv due back s) : LineInv due back (serveDone s) := by
  have key (n : Nat) : ∀ s, LineInv due back s → LineInv due back (postOutcomes n s) := by
    induction n with
    | zero => exact fun _ h => h
    | succ n ih => exact fun s h => ih _ h.postOutcome
  exact key _ s h

theorem LineInv.settlePosts (h : LineInv due back s) : LineInv due back (settlePosts s) := by
  rcases settlePosts_cases s with ⟨_, heq⟩ | ⟨_, heq⟩ <;> rw [heq]
  · exact h.serveDone
  · exact h

theorem LineInv.takeExits (h : LineInv due back s) (ht : tracking s = true) : LineInv due back (takeExits s) :=
  (h.foldl_takeExit ht _ (leavingEntries_nodup h.table.wf) fun _ hx => mem_leavingEntries_entryAt h.table.wf hx).settlePosts

/-! ### Verdict records (Table 4-2) -/

theorem verdictError_sameLine (code : ExceptionCode) (r : VerdictRecord) (s : State) : SameLine s (verdictError code r s) := by
  refine SameLine.trans (t := { s with verdicts := { s.verdicts with exceptionCount := satSucc s.verdicts.exceptionCount } }) ?_
    ((setFlag_sameLine _ _).trans (raise_sameLine _ _ _ _))
  exact .of_amends (.of_table rfl) id rfl rfl rfl rfl rfl rfl

theorem answerLate_sameLine (slot : Slot) (r : VerdictRecord) (s : State) : SameLine s (answerLate slot r s) :=
  (addFlags_sameLine slot setsFlags_lateVerdict s).trans (verdictError_sameLine _ _ _)

theorem LineInv.settleVerdict (h : LineInv due back s) (r : VerdictRecord) : LineInv due back (settleVerdict r s) := by
  unfold Machine.settleVerdict
  split
  · exact h.same (verdictError_sameLine _ _ _)
  · next slot e hnamed =>
    have he := entryAt_of_mem h.table.wf (namedEntry_spec hnamed).1
    split
    · next hverdict =>
      split
      · next hstate =>
        have hfields := h.table.fields slot e he
        exact h.revise he ⟨rfl, rfl, rfl, rfl⟩ ⟨by simp [hstate], EntryState.noConfusion, by simp [isLive, hstate], rfl⟩
          (fun hs => by simp [hstate] at hs)
          ⟨by simpa [appliedEntry, hstate] using hfields.tag, by simpa [appliedEntry, hstate] using hfields.length,
            by simp [appliedEntry], by simp [appliedEntry]⟩
      · exact h.same (answerLate_sameLine _ _ _)
    · split
      · exact h.same (verdictError_sameLine _ _ _)
      · exact h.same (verdictError_sameLine _ _ _)
      · exact h.same (answerLate_sameLine _ _ _)

theorem LineInv.takeVerdict (h : LineInv due back s) : LineInv due back (takeVerdict s) := by
  unfold Machine.takeVerdict
  split
  · exact h
  · refine LineInv.settlePosts (LineInv.settleVerdict (h.same ?_) _)
    exact .of_amends (.of_table rfl) id rfl rfl rfl rfl rfl rfl

end Sys2Proof.Machine
end

section
set_option Elab.async false
/-! PROOFS. The channels keep the invariant of the line: a newcomer settled under Table 7-4, and pulses that end (R128 to R137). -/

namespace Sys2Proof.Machine

variable {s t u : State} {due back due' back' : Channel → Prop} {n : Channel} {q : Action → Bool}

/-! ### One action of the schedule -/

/-- The first action that satisfies a test, and what a change or the removal of it leaves. -/
theorem perm_of_find? {α : Type} {p : α → Bool} {l : List α} {x : α} (h : l.find? p = some x) :
    ∃ rest, l.Perm (x :: rest) ∧ (l.eraseP p).Perm rest ∧ ∀ f, (modifyFirst p f l).Perm (f x :: rest) := by
  induction l with
  | nil => simp at h
  | cons y ys ih =>
    cases hy : p y with
    | true =>
      rw [List.find?_cons_of_pos hy] at h
      obtain rfl := Option.some.inj h
      exact ⟨ys, .refl _, by simp [hy], fun f => by simp [modifyFirst, hy]⟩
    | false =>
      rw [List.find?_cons_of_neg (by simp [hy])] at h
      obtain ⟨rest, hl, herase, hmodify⟩ := ih h
      refine ⟨y :: rest, (hl.cons y).trans (.swap _ _ _), ?_, fun f => ?_⟩
      · simpa [hy] using herase.cons y
      · simpa [modifyFirst, hy] using ((hmodify f).cons y).trans (.swap _ _ _)

/-- One action of the schedule changes in place or leaves it, and the state of a channel may change with it. -/
theorem ScheduleInv.replace (h : ScheduleInv due back s) {a : Action} {rest : List Action} {new : Option Action}
    (hold : s.schedule.Perm (a :: rest)) (hnew : t.schedule.Perm (new.toList ++ rest))
    (hkeeps : ∀ b ∈ new, b.channel = a.channel ∧ b.item = a.item ∧ ActionSound due back t b)
    (hrest : ∀ b ∈ rest, ActionSound due back s b → ActionSound due back t b)
    (hactive : ∀ n : Channel, (new.toList.countP (activeOn n)) + (if s.channels[n].state = .active then 1 else 0) =
      [a].countP (activeOn n) + if t.channels[n].state = .active then 1 else 0) : ScheduleInv due back t := by
  have hapart := (apart_perm hold).1 h.apart
  obtain ⟨ha, hpairs⟩ := List.pairwise_cons.1 hapart
  refine ⟨fun b hb => ?_, (apart_perm hnew).2 (List.pairwise_append.2 ⟨?_, hpairs, fun b hb c hc => ?_⟩), fun n => ?_⟩
  · rcases List.mem_append.1 (hnew.mem_iff.1 hb) with hb | hb
    · exact (hkeeps b (Option.mem_toList.1 hb)).2.2
    · exact hrest b hb (h.actions b (hold.mem_iff.2 (List.mem_cons_of_mem a hb)))
  · cases new <;> simp
  · obtain ⟨hchannel, hitem, _⟩ := hkeeps b (Option.mem_toList.1 hb)
    intro hc1 hc2
    rw [hitem] at hc2 ⊢
    exact ha c hc (hchannel ▸ hc1) hc2
  · have hcount := h.active n
    have hn := hactive n
    rw [activeCount, hold.countP_eq, ← List.singleton_append, List.countP_append] at hcount
    rw [activeCount, hnew.countP_eq, List.countP_append]
    omega

/-- An action on a channel that was neither IDLE nor ACTIVE, or that is about to take its deferred actions back, does not hang on
the channel's state; nor does an action that is not deferred. -/
theorem ActionSound.setChannel {a : Action} (h : ActionSound due back s a)
    (hconfig : ∀ m : Channel, t.channels[m].config = s.channels[m].config)
    (hothers : ∀ m : Channel, m ≠ n → t.channels[m].state = s.channels[m].state)
    (hbusy : s.channels[n].state = .idle ∨ s.channels[n].state = .active) (hh : t.motion.h = s.motion.h)
    (hstate : t.engine.state = s.engine.state) (hentries : ∀ k, coreAt k t = coreAt k s) : ActionSound due back t a := by
  refine h.step (hconfig _) (fun ht hd => ?_) (fun _ => by rw [hh]; exact id) fun slot _ hlink =>
    hlink.same (hconfig _) (hentries slot)
  have hs : tracking s = true := by rw [← tracking_congr hstate, ht]
  by_cases hb : back a.channel
  · exact .inl hb
  · refine .inr ⟨hs, hothers _ ?_, hb⟩
    rintro rfl
    obtain ⟨hidle, hactive⟩ := (h.waits hs hd).resolve_right hb
    exact hbusy.elim hidle hactive

/-! ### A newcomer settled (Table 7-4) -/

theorem onItem_sameLine (item : Option Slot) {f : Slot → State → State} (hf : ∀ slot s, SameLine s (f slot s)) (s : State) :
    SameLine s (onItem item f s) := by
  cases item with
  | none => exact .of_amends (.of_table rfl) id rfl rfl rfl rfl rfl rfl
  | some slot => exact hf slot s

/-- The schedule and the channels change, and nothing else. -/
theorem LineInv.withSchedule (h : LineInv due back s) (ht : tracking s = true) {l : List Action} {v : Vector OutputChannel 16}
    (hconfig : ∀ m : Channel, v[m].config = s.channels[m].config)
    (hschedule : ScheduleInv due back { s with schedule := l, channels := v }) :
    LineInv due back { s with schedule := l, channels := v } where
  table := h.table.same (.of_table rfl) fun _ => .rfl
  epochs := h.epochs.same (.of_eq rfl) (fun p => validate_congr p rfl hconfig) id fun _ => rfl
  schedule := hschedule
  engine := h.engine.track ht rfl rfl fun _ => .inl rfl

theorem setState_get (v : Vector OutputChannel 16) (n m : Channel) (c : ChannelState) :
    (updateAt v n fun ch => { ch with state := c })[m] = if n = m then { v[n] with state := c } else v[m] := updateAt_get v n _ m

theorem setState_config (v : Vector OutputChannel 16) (n m : Channel) (c : ChannelState) :
    (updateAt v n fun ch => { ch with state := c })[m].config = v[m].config := by
  rw [setState_get]
  split
  · next h => rw [h]
  · rfl

theorem setState_state (v : Vector OutputChannel 16) (n m : Channel) (c : ChannelState) :
    (updateAt v n fun ch => { ch with state := c })[m].state = if n = m then c else v[m].state := by
  rw [setState_get]
  split <;> rfl

theorem countP_activeOn_pending {a : Action} (h : a.isActive = false) (m : Channel) : [a].countP (activeOn m) = 0 := by
  simp [activeOn, h]

/-- R131: a newcomer fires on an IDLE channel. -/
theorem LineInv.fire (h : LineInv due back s) (ht : tracking s = true) (hq : Newcomers n q) {a : Action}
    (hfind : s.schedule.find? q = some a) (hidle : s.channels[n].state = .idle) : LineInv due back (fire q a s) := by
  obtain ⟨rfl, hpending⟩ := hq a (List.find?_some hfind)
  obtain ⟨rest, hold, _, hmodify⟩ := perm_of_find? hfind
  have ha := h.schedule.actions a (hold.mem_iff.2 (List.mem_cons_self))
  let b : Action := { a with state := .active (pulseEndNow a s) }
  have hline : LineInv due back { s with
      schedule := modifyFirst q (fun x => { x with state := .active (pulseEndNow a s) }) s.schedule,
      channels := updateAt s.channels a.channel fun ch => { ch with state := .active } } := by
    refine h.withSchedule ht (fun m => setState_config _ _ m _) (h.schedule.replace (new := some b) hold (hmodify _)
      (fun c hc => ?_) (fun c hc hsound => ?_) fun m => ?_)
    · rw [← Option.mem_some.1 hc]
      refine ⟨rfl, rfl, ⟨?_, ?_, ha.width, ?_, ?_, ?_, fun slot hslot => ?_⟩⟩
      · simp only [endInUnit, b, pulseEndNow]
        cases a.unit <;> rfl
      · exact ha.unit.trans (congrArg ChannelConfig.unit (setState_config s.channels a.channel a.channel .active)).symm
      · simp [b]
      · simp [b]
      · simp [b]
      · exact (ha.link slot hslot).same (setState_config _ _ _ _) rfl
    · exact hsound.setChannel (n := a.channel) (fun m => setState_config _ _ m _)
        (fun m hm => by rw [setState_state, if_neg hm.symm]) (.inl hidle) rfl rfl fun _ => rfl
    · rw [setState_state, countP_activeOn_pending hpending]
      by_cases hm : a.channel = m
      · subst hm
        rw [if_pos rfl, hidle]
        simp [activeOn, Action.isActive, b]
      · simp [activeOn, hm, b]
  exact hline.same (onItem_sameLine a.item (fun slot s => addFired_sameLine slot a.channel s) _)

/-- A newcomer leaves the schedule. -/
theorem LineInv.eraseNewcomer (h : LineInv due back s) (ht : tracking s = true) (hq : Newcomers n q) {a : Action}
    (hfind : s.schedule.find? q = some a) : LineInv due back { s with schedule := s.schedule.eraseP q } := by
  obtain ⟨rest, hold, herase, _⟩ := perm_of_find? hfind
  have hpending := (hq a (List.find?_some hfind)).2
  refine h.withSchedule (v := s.channels) ht (fun _ => rfl) (h.schedule.replace (new := none) hold herase (by simp)
    (fun c _ hsound => ?_) fun m => ?_)
  · exact hsound.same rfl rfl id fun slot _ hlink => hlink.same rfl rfl
  · rw [countP_activeOn_pending hpending]
    rfl

/-- The end of an ACTIVE action extended stays in the width unit (R132). -/
theorem extendEnd_finish {a b : Action} (ha : a.unit = b.unit) (hb : endInUnit b = true) :
    endInUnit (extendEnd s.motion.h (pulseEndNow a s) b) = true := by
  unfold endInUnit at hb
  split at hb
  · next x hstate hunit =>
    obtain ⟨y, hy⟩ : ∃ y, laterEnd s.motion.h (.position x) (pulseEndNow a s) = .position y := by
      simp only [pulseEndNow, ha, hunit, laterEnd]
      split <;> exact ⟨_, rfl⟩
    simp only [extendEnd, hstate, hy, endInUnit, hunit]
  · next x hstate hunit => simp only [extendEnd, hstate, pulseEndNow, ha, hunit, endInUnit, laterEnd]
  · next d hstate => simp [extendEnd, hstate, endInUnit]
  · simp at hb

theorem extendEnd_kept (h : Word) (f : PulseEnd) (b : Action) :
    (extendEnd h f b).channel = b.channel ∧ (extendEnd h f b).item = b.item ∧ (extendEnd h f b).unit = b.unit ∧
    (extendEnd h f b).width = b.width ∧ (extendEnd h f b).isActive = b.isActive := by
  unfold extendEnd
  split <;> simp [Action.isActive, *]

/-- R132: the pulse under way on a channel is extended. -/
theorem LineInv.extend (h : LineInv due back s) (ht : tracking s = true) {a : Action} (ha : a.unit = s.channels[n].config.unit) :
    LineInv due back { s with
      schedule := modifyFirst (activeOn n) (extendEnd s.motion.h (pulseEndNow a s)) s.schedule } := by
  cases hfind : s.schedule.find? (activeOn n) with
  | none =>
    rw [modifyFirst_of_none hfind]
    exact h
  | some b =>
    obtain ⟨rest, hold, _, hmodify⟩ := perm_of_find? hfind
    have hactive := List.find?_some hfind
    simp only [activeOn, Bool.and_eq_true, decide_eq_true_eq] at hactive
    obtain ⟨rfl, hactive⟩ := hactive
    have hb := h.schedule.actions b (hold.mem_iff.2 List.mem_cons_self)
    obtain ⟨hchannel, hitem, hunit, hwidth, hstill⟩ := extendEnd_kept s.motion.h (pulseEndNow a s) b
    rw [hactive] at hstill
    have hnot (d : Bool) : (extendEnd s.motion.h (pulseEndNow a s) b).state ≠ .pending d := fun hstate => by
      simp [Action.isActive, hstate] at hstill
    refine h.withSchedule (v := s.channels) ht (fun _ => rfl)
      (h.schedule.replace (new := some (extendEnd s.motion.h (pulseEndNow a s) b)) hold (hmodify _) (fun c hc => ?_)
        (fun c _ hsound => ?_) fun m => ?_)
    · rw [← Option.mem_some.1 hc]
      refine ⟨hchannel, hitem, extendEnd_finish (ha.trans hb.unit.symm) hb.finish, ?_, by rw [hwidth]; exact hb.width,
        fun hp => absurd hp (hnot _), fun _ hp => absurd hp (hnot _), fun hp => absurd hp (hnot _), fun slot hslot => ?_⟩
      · simp only [hunit, hchannel]
        exact hb.unit
      · rw [hchannel]
        exact (hb.link slot (hitem ▸ hslot)).same rfl rfl
    · exact hsound.same rfl rfl id fun slot _ hlink => hlink.same rfl rfl
    · have hsame : activeOn m (extendEnd s.motion.h (pulseEndNow a s) b) = activeOn m b := by
        simp only [activeOn, hchannel, hstill, hactive]
      simp [List.countP_cons, hsame]

/-- R132: a JOIN newcomer is joined into the pulse under way. -/
theorem LineInv.joinPulse (h : LineInv due back s) (ht : tracking s = true) (hq : Newcomers n q) {a : Action}
    (hfind : s.schedule.find? q = some a) : LineInv due back (joinPulse q a s) := by
  have ha := h.schedule.actions a (List.mem_of_find?_eq_some hfind)
  exact ((h.eraseNewcomer ht hq hfind).extend (n := a.channel) ht ha.unit).same (onItem_sameLine a.item
    (fun slot s => (addFlags_sameLine slot setsFlags_joined s).trans (addFired_sameLine slot a.channel _)) _)

/-- R133: a REFUSE newcomer is refused. -/
theorem LineInv.refuseNewcomer (h : LineInv due back s) (ht : tracking s = true) (hq : Newcomers n q) {a : Action}
    (hfind : s.schedule.find? q = some a) : LineInv due back (refuseNewcomer q a s) := by
  have hline := h.eraseNewcomer ht hq hfind
  unfold Machine.refuseNewcomer
  dsimp only
  split
  · exact hline.same (raise_sameLine _ _ _ _)
  · exact hline.same (addFlags_sameLine _ setsFlags_collision _)

/-- R134: a JOIN newcomer is deferred by a channel in RECOVERY. -/
theorem LineInv.deferNewcomer (h : LineInv due back s) (ht : tracking s = true) (hq : Newcomers n q) {a : Action}
    (hfind : s.schedule.find? q = some a) (hpolicy : a.policy = .join) (hrecovery : ∃ d, s.channels[n].state = .recovery d) :
    LineInv due back (deferNewcomer q a s) := by
  obtain ⟨rfl, hpending⟩ := hq a (List.find?_some hfind)
  obtain ⟨rest, hold, _, hmodify⟩ := perm_of_find? hfind
  have ha := h.schedule.actions a (hold.mem_iff.2 List.mem_cons_self)
  have hline : LineInv due back { s with schedule := modifyFirst q (fun x => { x with state := .pending true }) s.schedule } := by
    refine h.withSchedule (v := s.channels) ht (fun _ => rfl)
      (h.schedule.replace (new := some { a with state := .pending true }) hold (hmodify _) (fun c hc => ?_)
        (fun c _ hsound => ?_) fun m => ?_)
    · rw [← Option.mem_some.1 hc]
      refine ⟨rfl, rfl, rfl, ha.unit, ha.width, fun _ => hpolicy, fun _ _ => .inl ?_, fun hp => by simp at hp,
        fun slot hslot => (ha.link slot hslot).same rfl rfl⟩
      obtain ⟨d, hd⟩ := hrecovery
      exact ⟨fun hx => ChannelState.noConfusion (hd.symm.trans hx), fun hx => ChannelState.noConfusion (hd.symm.trans hx)⟩
    · exact hsound.same rfl rfl id fun slot _ hlink => hlink.same rfl rfl
    · rw [countP_activeOn_pending hpending]
      simp [activeOn, Action.isActive]
  exact hline.same (onItem_sameLine a.item (fun slot s => addFlags_sameLine slot setsFlags_deferred s) _)

theorem LineInv.settleFirst (h : LineInv due back s) (ht : tracking s = true) (hq : Newcomers n q) :
    LineInv due back (settleFirst q s) := by
  rcases settleFirst_cases s q with ⟨_, heq⟩ | ⟨a, hfind, hcases⟩
  · rwa [heq]
  · obtain rfl := (hq a (List.find?_some hfind)).1
    rcases hcases with ⟨hidle, heq⟩ | ⟨_, _, heq⟩ | ⟨_, _, heq⟩ | ⟨hrecovery, hpolicy, heq⟩ <;> rw [heq]
    · exact h.fire ht hq hfind hidle
    · exact h.joinPulse ht hq hfind
    · exact h.refuseNewcomer ht hq hfind
    · exact h.deferNewcomer ht hq hfind hpolicy hrecovery

theorem LineInv.settleAll (h : LineInv due back s) (ht : tracking s = true) (hq : Newcomers n q) (fuel : Nat) :
    LineInv due back (settleAll q fuel s) := by
  induction fuel generalizing s with
  | zero => exact h
  | succ fuel ih => exact ih (h.settleFirst ht hq) (by rw [tracking_congr (congrArg Engine.state (settleFirst_engine s q)), ht])

end Sys2Proof.Machine
end

section
set_option Elab.async false
/-! PROOFS. An advance keeps the invariant of the line: the channels' work, the pitch mark and its commit, and the induction over the
work that is left (R9, R17, R96, R114, R117, R135). -/

namespace Sys2Proof.Machine

variable {s t u : State} {due back due' back' : Channel → Prop} {n : Channel} {q : Action → Bool}

/-! ### Pulses that end (R135, R136) -/

theorem LineInv.endPulse (h : LineInv due back s) (n : Channel) : LineInv due back (endPulse n s) := by
  rcases endPulse_cases s n with ⟨_, heq⟩ | ⟨a, hfind, heq⟩
  · rwa [heq]
  · obtain ⟨rest, hold, herase, _⟩ := perm_of_find? hfind
    obtain ⟨hmem, rfl, f, hf⟩ := activeAction_spec hfind
    have hactive : s.channels[a.channel].state = .active := by
      by_contra hnot
      have hcount := h.schedule.active a.channel
      rw [if_neg hnot] at hcount
      have hnone := List.countP_eq_zero.1 hcount a hmem
      simp [activeOn, Action.isActive, hf] at hnone
    have hafter : afterPulse s.motion.tick a.recovery ≠ .active := by
      unfold afterPulse
      split <;> exact ChannelState.noConfusion
    rw [heq]
    refine ⟨h.table.same (.of_table rfl) fun _ => .rfl,
      h.epochs.same (.of_eq rfl) (fun p => validate_congr p rfl fun m => setState_config _ _ m _) id fun _ => rfl,
      h.schedule.replace (new := none) hold herase (by simp) (fun c _ hsound => ?_) fun m => ?_,
      h.engine.same rfl rfl (fun hnil => by rw [hnil]; rfl) (fun hall b hb => hall b (List.mem_of_mem_eraseP hb)) id rfl⟩
    · exact hsound.setChannel (n := a.channel) (fun m => setState_config _ _ m _)
        (fun m hm => by rw [setState_state, if_neg hm.symm]) (.inr hactive) rfl rfl fun _ => rfl
    · rw [setState_state]
      by_cases hm : a.channel = m
      · subst hm
        rw [if_pos rfl, if_neg hafter, hactive]
        simp [activeOn, Action.isActive, hf]
      · simp [activeOn, hm]

/-! ### No newcomer is left (R117, R137) -/

/-- A newcomer that is settled is one no more, where the channel does not defer it as one. -/
theorem settleFirst_filter (hq : Newcomers n q) (hfired : ∀ f x, q x = true → q { x with state := .active f } = false)
    (hdefer : (∀ x, q x = true → q { x with state := .pending true } = false) ∨
      s.channels[n].state = .idle ∨ s.channels[n].state = .active) :
    (settleFirst q s).schedule.filter q = (s.schedule.filter q).tail ∧
      ((s.channels[n].state = .idle ∨ s.channels[n].state = .active) →
        (settleFirst q s).channels[n].state = .idle ∨ (settleFirst q s).channels[n].state = .active) := by
  rcases settleFirst_cases s q with ⟨hnone, heq⟩ | ⟨a, hfind, hcases⟩
  · rw [heq, filter_eq_nil_of_find?_none hnone]
    exact ⟨rfl, id⟩
  · obtain rfl := (hq a (List.find?_some hfind)).1
    rcases hcases with ⟨_, heq⟩ | ⟨_, _, heq⟩ | ⟨_, _, heq⟩ | ⟨⟨d, hrecovery⟩, _, heq⟩ <;> rw [heq]
    · refine ⟨?_, fun _ => .inr ?_⟩
      · rw [fire_schedule]
        exact filter_modifyFirst_self fun x hx => hfired _ x hx
      · rw [fire_channels]
        simp
    · refine ⟨?_, by simp⟩
      rw [joinPulse_schedule, filter_modifyFirst, filter_eraseP]
      intro x hx
      refine ⟨hq.not_of_activeOn hx, hq.not_of_activeOn (extendEnd_activeOn hx).1⟩
    · exact ⟨by rw [refuseNewcomer_schedule, filter_eraseP], by simp⟩
    · have hnot : ∀ x, q x = true → q { x with state := .pending true } = false := by
        refine hdefer.resolve_right ?_
        rw [hrecovery]
        simp
      refine ⟨?_, by rw [hrecovery]; simp⟩
      have hschedule : (deferNewcomer q a s).schedule =
          modifyFirst q (fun x => { x with state := .pending true }) s.schedule := by
        unfold deferNewcomer onItem
        split <;> simp
      rw [hschedule, filter_modifyFirst_self hnot]

theorem settleAll_filter (hq : Newcomers n q) (hfired : ∀ f x, q x = true → q { x with state := .active f } = false)
    (hdefer : (∀ x, q x = true → q { x with state := .pending true } = false) ∨
      s.channels[n].state = .idle ∨ s.channels[n].state = .active) (fuel : Nat)
    (hfuel : (s.schedule.filter q).length ≤ fuel) : (settleAll q fuel s).schedule.filter q = [] := by
  induction fuel generalizing s with
  | zero => exact List.length_eq_zero_iff.1 (Nat.le_zero.1 hfuel)
  | succ fuel ih =>
    obtain ⟨hfilter, hchannel⟩ := settleFirst_filter hq hfired hdefer
    refine ih (s := settleFirst q s) (hdefer.imp_right hchannel) ?_
    rw [hfilter, List.length_tail]
    omega

theorem takeDue_filter (n : Channel) (s : State) : (takeDue n s).schedule.filter (dueOn n s.motion.h) = [] :=
  settleAll_filter (newcomers_dueOn n _) (fun f x _ => by simp [dueOn]) (.inl fun x _ => by simp [dueOn]) _
    (List.length_filter_le _ _)

theorem takeDeferred_filter {n : Channel} (hidle : s.channels[n].state = .idle) :
    (takeDeferred n s).schedule.filter (deferredOn n) = [] :=
  settleAll_filter (newcomers_deferredOn n) (fun f x _ => by simp [deferredOn, Action.isDeferred]) (.inr (.inl hidle)) _
    (List.length_filter_le _ _)

/-- Once a channel has taken its due actions none is left. -/
theorem LineInv.dropDue (h : LineInv due back s) (hnone : s.schedule.filter (dueOn n s.motion.h) = [])
    (hdue : ∀ m, m ≠ n → due m → due' m) : LineInv due' back s where
  table := h.table
  epochs := h.epochs
  schedule := ⟨fun a ha =>
    have hs := h.schedule.actions a ha
    ⟨hs.finish, hs.unit, hs.width, hs.joins, hs.waits, fun hp => (hs.ahead hp).imp_right fun ⟨hstart, hd⟩ =>
      ⟨hstart, hdue _ (fun heq => List.filter_eq_nil_iff.1 hnone a ha (by simp [dueOn, heq, hp, hstart])) hd⟩, hs.link⟩,
    h.schedule.apart, h.schedule.active⟩
  engine := h.engine

/-- Once a channel has taken its deferred actions back none is left. -/
theorem LineInv.dropBack (h : LineInv due back s) (hnone : s.schedule.filter (deferredOn n) = [])
    (hback : ∀ m, m ≠ n → back m → back' m) : LineInv due back' s where
  table := h.table
  epochs := h.epochs
  schedule := ⟨fun a ha =>
    have hs := h.schedule.actions a ha
    ⟨hs.finish, hs.unit, hs.width, hs.joins, fun ht hd => (hs.waits ht hd).imp_right
      (hback _ fun heq => List.filter_eq_nil_iff.1 hnone a ha (by simp [deferredOn, Action.isDeferred, heq, hd])), hs.ahead, hs.link⟩,
    h.schedule.apart, h.schedule.active⟩
  engine := h.engine

/-! ### The channels' work at an advance (R117, R135) -/

theorem LineInv.takeDue (h : LineInv due back s) (ht : tracking s = true) (n : Channel) : LineInv due back (takeDue n s) :=
  h.settleAll ht (newcomers_dueOn n _) _

theorem endPulse_frame (n : Channel) (s : State) : (endPulse n s).motion = s.motion ∧ (endPulse n s).engine = s.engine := by
  rcases endPulse_cases s n with ⟨_, heq⟩ | ⟨_, _, heq⟩ <;> rw [heq] <;> exact ⟨rfl, rfl⟩

theorem LineInv.channelAdvance (h : LineInv due back s) (ht : tracking s = true) (n : Channel)
    (hdue : ∀ m, m ≠ n → due m → due' m) : LineInv due' back (channelAdvance n s) := by
  have key {u : State} (hu : LineInv due back u) (htu : tracking u = true) : LineInv due' back (Machine.takeDue n u) := by
    refine (hu.takeDue htu n).dropDue (n := n) ?_ hdue
    rw [show (Machine.takeDue n u).motion = u.motion from settleAll_motion u _ _]
    exact takeDue_filter n u
  unfold Machine.channelAdvance
  split
  · exact key (h.endPulse n) (by rw [tracking_congr (congrArg Engine.state (endPulse_frame n s).2), ht])
  · exact key h ht

theorem LineInv.channelEvent (h : LineInv due back s) (ht : tracking s = true) (n : Channel) :
    LineInv due back (channelEvent n s) := by
  unfold Machine.channelEvent
  split
  · exact h.endPulse n
  · exact h.settleFirst ht (newcomers_dueOn n _)

/-! ### The pitch mark (R17, R96, R114) -/

/-- R96: a valid shadow set is committed where no entry is bound to the bank it is loaded into. -/
theorem LineInv.commit (h : LineInv due back s)
    (hbound : ∀ slot e, entryAt slot s = some e → isLive e = true → e.bank = s.epochUnit.current)
    (hvalid : validate s.epochUnit.shadow s = none) : LineInv due back (commit s) := by
  have hline : LineInv due back { s with epochUnit := s.epochUnit.commit } := by
    refine ⟨h.table.same (.of_table rfl) fun _ => .rfl, ⟨fun slot e he hlive => ?_, fun _ => ?_, fun slot e he hlive => ?_⟩,
      h.schedule.same (.refl _) rfl rfl id fun a _ slot _ hlink => hlink.same rfl rfl,
      h.engine.same rfl rfl id id id rfl⟩
    · have hbank := hbound slot e he hlive
      have hother : e.bank ≠ s.epochUnit.current.other := by
        rw [hbank]
        cases s.epochUnit.current <;> exact Bank.noConfusion
      have hepoch := h.epochs.epoch slot e he hlive
      rw [if_pos hbank] at hepoch
      simp only [EpochUnit.commit_eq]
      rw [if_neg hother, hepoch, BitVec.add_sub_cancel]
    · rw [currentBank_commit s rfl, ← hvalid]
      exact validate_congr _ rfl fun _ => rfl
    · have hsame : bankOf e.bank { s with epochUnit := s.epochUnit.commit } = bankOf e.bank s := by
        rw [hbound slot e he hlive]
        simp only [bankOf, EpochUnit.commit_eq]
        cases s.epochUnit.current <;> simp
      rw [hsame, ← h.epochs.bank slot e he hlive]
      exact validate_congr _ rfl fun _ => rfl
  exact hline.same ((setFlag_sameLine _ _).trans (offer_sameLine _ _))

theorem bound_of_liveCount (h : liveCount s.epochUnit.current.other s = 0) (slot : Slot) (e : Entry)
    (he : entryAt slot s = some e) (hlive : isLive e = true) : e.bank = s.epochUnit.current := by
  have hnot := List.countP_eq_zero.1 h (slot, e) (findEntry_mem he)
  simp only [hlive, Bool.true_and, decide_eq_true_eq] at hnot
  revert hnot
  cases e.bank <;> cases s.epochUnit.current <;> simp [Bank.other]

theorem deferCommit_sameLine (r : CommitResult) (s : State) : SameLine s (deferCommit r s) := by
  have hsame : SameLine s { s with epochUnit := { s.epochUnit with deferral := true, lastResult := r } } :=
    ⟨.of_table rfl, rfl, ⟨rfl, rfl, rfl, rfl⟩, rfl, rfl, rfl, rfl, rfl⟩
  unfold deferCommit
  dsimp only
  split
  · exact hsame
  · exact hsame.trans (setFlag_sameLine _ _)

theorem rejectShadow_sameLine (code : CheckCode) (s : State) : SameLine s (rejectShadow code s) :=
  SameLine.trans (t := { s with epochUnit :=
    { s.epochUnit with rejected := true, deferral := false, lastResult := .rejected, check := code } })
    ⟨.of_table rfl, rfl, ⟨rfl, rfl, rfl, rfl⟩, rfl, rfl, rfl, rfl, rfl⟩ (setFlag_sameLine _ _)

theorem LineInv.pitchMark (h : LineInv due back s) : LineInv due back (pitchMark s) := by
  have hattempt : LineInv due back (commitAttempt s) := by
    rcases commitAttempt_cases s with ⟨_, heq⟩ | ⟨_, _, heq⟩ | ⟨_, _, _, heq⟩ | ⟨_, _, hcount, ⟨code, _, heq⟩ | ⟨hvalid, heq⟩⟩ <;>
      rw [heq]
    · exact h
    · exact h.same (deferCommit_sameLine _ _)
    · exact h.same (deferCommit_sameLine _ _)
    · exact h.same (rejectShadow_sameLine _ _)
    · exact h.commit (bound_of_liveCount hcount) hvalid
  exact hattempt.same ⟨.of_table rfl, rfl, .of_eq rfl, rfl, rfl, rfl, rfl, rfl⟩

/-- R114: the PER_PITCH action of a channel. -/
theorem LineInv.placePitchAction (h : LineInv due back s) (ht : tracking s = true) (mark : Word) {n : Channel}
    (hmode : s.channels[n].config.mode = .perPitch) : LineInv due back (placePitchAction mark n s) := by
  unfold Machine.placePitchAction
  dsimp only
  split
  · exact h.same (raise_sameLine _ _ _ _)
  · generalize hstart : (if reached s.motion.h (mark + (currentBank s).channels[n].offset) = true then s.motion.h + 1
      else mark + (currentBank s).channels[n].offset) = start
    have hahead : reached s.motion.h start = false := by
      rw [← hstart]
      split
      · exact reached_succ _
      · next hreached => simpa using hreached
    refine h.withSchedule (v := s.channels) ht (fun _ => rfl) (h.schedule.append
      (l := [newAction n none start (currentBank s).channels[n] s]) ?_ rfl rfl id (fun _ => rfl) (fun a ha => ?_)
      (List.pairwise_singleton _ _) fun a _ b hb _ hitem heq => ?_)
    · exact (insertAction_perm _ _ _).trans (List.perm_append_singleton _ _).symm
    · rw [List.mem_singleton.1 ha]
      have hwidth := width_ne_zero (h.epochs.current (not_stopped_of_tracking ht)) (n := n)
        (by rw [hmode]; exact ChannelMode.noConfusion)
      exact ⟨newAction_sound hwidth hahead (by simp), rfl⟩
    · rw [List.mem_singleton.1 hb] at heq
      exact hitem heq

theorem LineInv.placePitchActions (h : LineInv due back s) (ht : tracking s = true) (mark : Word) :
    LineInv due back (placePitchActions mark s) := by
  have key (channels : List Channel) : ∀ u, LineInv due back u → tracking u = true →
      (∀ n ∈ channels, u.channels[n].config.mode = .perPitch) →
      LineInv due back (channels.foldl (fun s n => Machine.placePitchAction mark n s) u) := by
    induction channels with
    | nil => exact fun _ hu _ _ => hu
    | cons n channels ih =>
      intro u hu htu hmodes
      refine ih _ (hu.placePitchAction htu mark (hmodes n (by simp))) ?_ fun m hm => ?_
      · rw [tracking_congr (congrArg Engine.state (placePitchAction_engine u mark n)), htu]
      · rw [placePitchAction_channels]
        exact hmodes m (List.mem_cons_of_mem _ hm)
  refine key _ s h ht fun n hn => ?_
  simpa using (List.mem_filter.1 hn).2

end Sys2Proof.Machine
end

section
set_option Elab.async false
/-! PROOFS. An advance keeps the invariant of the line, whatever the order of its work (R9); and the completion of a drain (R149). -/

namespace Sys2Proof.Machine

variable {s t u : State} {due back : Channel → Prop}

/-! ### A drain completed (R149) -/

theorem LineInv.enterStopped (h : LineInv due back s) (hschedule : s.schedule = []) (hlive : liveEntries s = 0) :
    LineInv due back (enterStopped s) := by
  have hdetector (l : Lane) : detectorOf l (Machine.enterStopped s) = { detectorOf l s with edge := none } :=
    detectorOf_discardEdges s l
  have hok (l : Lane) := h.engine.laneOk l
  refine ⟨h.table.same (.of_table rfl) fun l => by rw [hdetector],
    h.epochs.same (.of_eq rfl) (fun p => validate_congr p rfl fun _ => rfl) (fun hrun => absurd rfl hrun) fun _ => rfl,
    h.schedule.same (.refl _) rfl rfl (fun ht => by simp [tracking] at ht) fun a _ slot _ hlink => hlink.same rfl rfl, ?_⟩
  refine ⟨by simp, fun _ => rfl, fun _ => ⟨hschedule, hlive⟩, fun h => EngineState.noConfusion h, fun _ l => by rw [hdetector],
    fun l hdisabled => ?_, fun l hgap => ?_⟩
  · rw [hdetector]
    obtain ⟨hclear, _, hgap⟩ := (hok l).1 hdisabled
    exact ⟨hclear, rfl, hgap⟩
  · rw [hdetector] at hgap ⊢
    exact (hok l).2 hgap

theorem LineInv.completeDrain (h : LineInv due back s) : LineInv due back (completeDrain s) := by
  rcases completeDrain_cases s with ⟨hdone, heq⟩ | ⟨_, heq⟩ <;> rw [heq]
  · obtain ⟨_, hlive, hschedule⟩ := (drainDone_iff s).1 hdone
    exact h.enterStopped hschedule hlive
  · exact h

theorem LineInv.settleDrain (h : LineInv due back s) : LineInv due back (settleDrain s) := by
  unfold Machine.settleDrain
  split
  · exact h.completeDrain
  · exact h

/-! ### One count (R9) -/

/-- A position not reached is reached at the next count, or is still ahead. -/
theorem reached_step {h a : Word} (hahead : reached h a = false) : reached (h + 1) a = false ∨ a = h + 1 := by
  simp only [reached, decide_eq_false_iff_not] at hahead ⊢
  by_cases ha : a = h + 1
  · exact .inr ha
  · left
    bv_omega

theorem LineInv.stepForward (h : LineInv noChannel noChannel s) : LineInv (fun _ => True) noChannel (stepForward s) where
  table := h.table.same (.of_table rfl) fun _ => .rfl
  epochs := h.epochs.same (.of_eq rfl) (fun p => validate_congr p rfl fun _ => rfl) id fun _ => rfl
  schedule := ⟨fun a ha => (h.schedule.actions a ha).step rfl (fun ht _ => .inr ⟨ht, rfl, id⟩)
      (fun _ hold => (reached_step (hold.resolve_right fun hd => hd.2)).imp_right fun heq => ⟨heq, trivial⟩)
      fun _ _ hlink => hlink.same rfl rfl,
    h.schedule.apart, h.schedule.active⟩
  engine := h.engine.same rfl rfl id id id rfl

/-! ### The work of an advance -/

/-- A channel whose work is still left. -/
def channelLeft (left : List AdvanceWork) (n : Channel) : Prop := .channel n ∈ left

theorem channelLeft_follows {left : List AdvanceWork} (fixed : Option (List Slot)) {w : AdvanceWork} {n : Channel}
    (hw : w ≠ .channel n) (h : channelLeft left n) : channelLeft (left.erase w ++ (doWork fixed w s).2) n :=
  List.mem_append_left _ ((List.mem_erase_of_ne hw.symm).2 h)

theorem LineInv.doWork {left : List AdvanceWork} (h : LineInv (channelLeft left) back s) (ht : tracking s = true)
    (fixed : Option (List Slot)) (w : AdvanceWork) :
    LineInv (channelLeft (left.erase w ++ (doWork fixed w s).2)) back (doWork fixed w s).1 := by
  have key (hw : ∀ n, w ≠ .channel n) (hline : LineInv (channelLeft left) back (Machine.doWork fixed w s).1) :
      LineInv (channelLeft (left.erase w ++ (Machine.doWork fixed w s).2)) back (Machine.doWork fixed w s).1 :=
    hline.mono (fun n hn => channelLeft_follows fixed (hw n) hn) fun _ => id
  cases w with
  | channel n =>
    exact h.channelAdvance ht n fun m hm hleft =>
      channelLeft_follows fixed (fun heq => hm (AdvanceWork.channel.inj heq).symm) hleft
  | channelEvent n => exact key (fun _ => AdvanceWork.noConfusion) (h.channelEvent ht n)
  | detector l => exact key (fun _ => AdvanceWork.noConfusion) (h.detectorAdvance ht l)
  | decisions => exact key (fun _ => AdvanceWork.noConfusion) (h.takeDecisions ht _)
  | decision => exact key (fun _ => AdvanceWork.noConfusion) (h.takeDecisions ht _)
  | exits => exact key (fun _ => AdvanceWork.noConfusion) (h.takeExits ht)
  | exit => exact key (fun _ => AdvanceWork.noConfusion) (h.takeNextExit ht)
  | posts => exact key (fun _ => AdvanceWork.noConfusion) h.serveDone
  | mark =>
    refine key (fun _ => AdvanceWork.noConfusion) ?_
    simp only [Machine.doWork]
    split
    · exact h.pitchMark
    · exact h
  | pitchActions => exact key (fun _ => AdvanceWork.noConfusion) (h.placePitchActions ht _)
  | levelChange l => exact key (fun _ => AdvanceWork.noConfusion) (h.rawChange l)
  | drainCompletion => exact key (fun _ => AdvanceWork.noConfusion) h.completeDrain

/-- With an empty schedule no channel has actions to take. -/
theorem LineInv.of_empty {due' back' : Channel → Prop} (h : LineInv due back s) (hempty : s.schedule = []) :
    LineInv due' back' s where
  table := h.table
  epochs := h.epochs
  schedule := ⟨by simp [hempty], h.schedule.apart, h.schedule.active⟩
  engine := h.engine

/-- An advance leaves the engine tracking or, with the drain complete, in STOPPED. -/
theorem doWork_tracking (ht : tracking s = true) (fixed : Option (List Slot)) (w : AdvanceWork) :
    tracking (doWork fixed w s).1 = true ∨ (doWork fixed w s).1.engine.state = .stopped := by
  by_cases hw : w = .drainCompletion
  · subst hw
    rcases completeDrain_cases s with ⟨_, heq⟩ | ⟨_, heq⟩
    · exact .inr (by rw [doWork, heq]; rfl)
    · exact .inl (by rw [doWork, heq]; exact ht)
  · exact .inl (by rw [tracking_congr (congrArg Engine.state (doWork_engine fixed hw s)), ht])

theorem LineInv.advanceOnce (h : LineInv noChannel noChannel s) (ht : tracking s = true) (first : List AdvanceWork) :
    LineInv noChannel noChannel (advanceOnce first s) := by
  obtain ⟨left, fixed, v, heq, ⟨hline, hstate⟩, hend⟩ := advanceOnce_induction (s := s) (first := first)
    (P := fun left _ v => LineInv (channelLeft left) noChannel v ∧ (tracking v = true ∨ v.engine.state = .stopped))
    ⟨h.stepForward.mono (fun n _ => List.mem_append_left _ (List.mem_append_left _
      (List.mem_map_of_mem (mem_allChannels n)))) fun _ => id, .inl ht⟩
    fun left fixed w v ht _ _ _ hv => ⟨hv.1.doWork ht fixed w, doWork_tracking ht fixed w⟩
  have hv : LineInv noChannel noChannel v := by
    rcases hend with hstill | ⟨hleft, _⟩
    · have hstopped := hstate.resolve_left (by simp [hstill])
      exact hline.of_empty (hline.engine.2.2.1 hstopped).1
    · exact hline.mono (fun n hn => by simp [channelLeft, hleft] at hn) fun _ => id
  rw [heq]
  exact hv.settlePosts.settleDrain

end Sys2Proof.Machine
end

section
set_option Elab.async false
/-! PROOFS. The part's own events and a RESUME keep the invariant of the line (R5 to R16, R136, R137, R150 to R152). -/

namespace Sys2Proof.Machine

variable {s t u : State} {due back due' back' : Channel → Prop}

/-! ### Time (R13) -/

theorem elapseTo_sameLine (k : Nat) (s : State) : SameLine s (elapseTo k s) :=
  ⟨.of_table rfl, rfl, .of_eq rfl, rfl, rfl, rfl, rfl, rfl⟩

theorem setDet_sameLine (l : Lane) (high : Bool) (s : State) : SameLine s (setDet l high s) :=
  ⟨.of_table rfl, rfl, .of_eq rfl, rfl, rfl, rfl, rfl, rfl⟩

theorem LineInv.debounceExpiry (h : LineInv due back s) {l : Lane} {ed : PendingEdge} (hedge : (detectorOf l s).edge = some ed)
    (ht : tracking s = true) : LineInv due back (Machine.settleDrain (Machine.takeEdge l ed (elapseTo ed.expires s))) := by
  have hen : laneEnabled l s = true := by
    by_contra hdisabled
    have hnone := ((h.engine.laneOk l).1 (by simpa using hdisabled)).2.1
    simp [hedge] at hnone
  exact ((h.same (elapseTo_sameLine _ s)).takeEdge ht hen ed).settleDrain

/-! ### Recovery (R137) -/

/-- While the line is not tracking no deferred action hangs on the state of its channel. -/
theorem LineInv.of_not_tracking (h : LineInv due back s) (ht : tracking s = false) : LineInv due back' s where
  table := h.table
  epochs := h.epochs
  schedule := ⟨fun a ha =>
    have hs := h.schedule.actions a ha
    ⟨hs.finish, hs.unit, hs.width, hs.joins, fun ht' _ => by simp [ht] at ht', hs.ahead, hs.link⟩,
    h.schedule.apart, h.schedule.active⟩
  engine := h.engine

/-- A channel that is not ACTIVE goes to IDLE, its deferred actions still to take back. -/
theorem LineInv.setIdle (h : LineInv due back s) {n : Channel} (hnot : s.channels[n].state ≠ .active) :
    LineInv due (fun m => back m ∨ m = n) (setChannelState n .idle s) where
  table := h.table.same (.of_table rfl) fun _ => .rfl
  epochs := h.epochs.same (.of_eq rfl) (fun p => validate_congr p rfl fun m => setState_config _ _ m _) id fun _ => rfl
  schedule := by
    refine ⟨fun a ha => (h.schedule.actions a ha).step (setState_config _ _ _ _) (fun ht _ => ?_) (fun _ => id)
      fun _ _ hlink => hlink.same (setState_config _ _ _ _) rfl, h.schedule.apart, fun m => ?_⟩
    · by_cases hb : back a.channel
      · exact .inl (.inl hb)
      · by_cases hn : a.channel = n
        · exact .inl (.inr hn)
        · exact .inr ⟨ht, (setState_state _ _ _ _).trans (if_neg (Ne.symm hn)), hb⟩
    · have hstate : (setChannelState n .idle s).channels[m].state = if n = m then .idle else s.channels[m].state :=
        setState_state _ _ _ _
      rw [hstate]
      split
      · next hm =>
        subst hm
        have hcount := h.schedule.active n
        rw [if_neg hnot] at hcount
        exact hcount
      · exact h.schedule.active m
  engine := h.engine.same rfl rfl id id id rfl

theorem takeDeferred_tracking (n : Channel) (s : State) : tracking (takeDeferred n s) = tracking s :=
  tracking_congr (congrArg Engine.state (settleAll_engine s (deferredOn n) _))

theorem LineInv.takeDeferred (h : LineInv due back s) (ht : tracking s = true) {n : Channel}
    (hidle : s.channels[n].state = .idle) (hback : ∀ m, m ≠ n → back m → back' m) : LineInv due back' (takeDeferred n s) :=
  (h.settleAll ht (newcomers_deferredOn n) _).dropBack (takeDeferred_filter hidle) hback

theorem LineInv.expireRecovery (h : LineInv due noChannel s) {n : Channel} (hnot : s.channels[n].state ≠ .active) :
    LineInv due noChannel (expireRecovery n s) := by
  have hidle := h.setIdle hnot
  unfold Machine.expireRecovery
  dsimp only
  split
  · next ht =>
    refine hidle.takeDeferred ht ((setState_state _ _ _ _).trans (if_pos rfl)) fun m hm hback => ?_
    exact hback.elim id hm
  · next ht => exact hidle.of_not_tracking (by simpa using ht)

/-! ### Faults (R150, R151) -/

theorem mem_cutPulses_schedule {a : Action} : a ∈ (cutPulses s).schedule ↔ a ∈ s.schedule ∧ a.isActive = false := by
  simp [cutPulses]

theorem cutPulses_config (n : Channel) (s : State) : (cutPulses s).channels[n].config = s.channels[n].config := by
  obtain ⟨_, _, _, _, _, hconfig⟩ := (cutPulses_effects (sound := False) (posting := False) s).stoppedOnlyKept
  exact hconfig n

/-- A channel whose pulse is stopped is no longer ACTIVE, and one with none was not. -/
theorem ScheduleInv.stoppedChannel_not_active (h : ScheduleInv due back s) (n : Channel) :
    (stoppedChannel s.motion.tick (activeAction n s) s.channels[n]).state ≠ .active := by
  have hcount := h.active n
  unfold stoppedChannel
  split
  · next hnone =>
    intro hactive
    rw [if_pos hactive] at hcount
    have hnot : activeCount n s = 0 := List.countP_eq_zero.2 fun a ha => List.find?_eq_none.1 hnone a ha
    exact absurd (hcount.symm.trans hnot) Nat.one_ne_zero
  · unfold afterPulse
    dsimp only
    split <;> exact ChannelState.noConfusion

/-- A freeze leaves no channel ACTIVE and removes no PENDING action (R122, R139). -/
theorem ScheduleInv.cutPulses (h : ScheduleInv due back s) (ht : tracking s = false) : ScheduleInv due back (cutPulses s) := by
  refine ⟨fun a ha => ?_, h.apart.filter _, fun n => ?_⟩
  · obtain ⟨hmem, hpending⟩ := mem_cutPulses_schedule.1 ha
    have hsound := h.actions a hmem
    refine ⟨hsound.finish, hsound.unit.trans (congrArg ChannelConfig.unit (cutPulses_config _ _)).symm, hsound.width, hsound.joins,
      fun ht' _ => ?_, by rw [cutPulses_motion]; exact hsound.ahead,
      fun slot hslot => (hsound.link slot hslot).same (cutPulses_config _ _) ((cutPulses_amends s).coreAt slot)⟩
    rw [tracking_congr (congrArg Engine.state (cutPulses_engine s)), ht] at ht'
    exact Bool.noConfusion ht'
  · have hzero : activeCount n (Machine.cutPulses s) = 0 := List.countP_eq_zero.2 fun a ha => by
      simp [activeOn, (mem_cutPulses_schedule.1 ha).2]
    rw [hzero, cutPulses_channel (by rw [h.active n]; split <;> omega), if_neg]
    exact h.stoppedChannel_not_active n

/-- The line after a freeze: no pulse, no pending edge (R24, R122, R139). -/
theorem LineInv.freeze (h : LineInv due back s) (ht : tracking s = true) (r : FaultReport) :
    LineInv due back (freeze r s) := by
  let u : State := discardEdges { s with engine := { s.engine with
    state := .frozen, frozenFrom := some s.engine.state,
    fault := { cause := r.cause, prior := s.engine.state, further := 0, p := r.p, h := r.h } } }
  have hengine : (cutPulses u).engine = u.engine := cutPulses_engine u
  have hdetectors : (cutPulses u).detectors = u.detectors := cutPulses_detectors u
  have hdetector (l : Lane) : detectorOf l u = { detectorOf l s with edge := none } := detectorOf_discardEdges _ l
  have hdetector' (l : Lane) : detectorOf l (cutPulses u) = detectorOf l u := by rw [detectorOf, detectorOf, hdetectors]
  have hamends := cutPulses_amends u
  have htable : TableInv u := h.table.same (.of_table rfl) fun l => by rw [hdetector]
  have hepochs : EpochInv u := h.epochs.same (.of_eq rfl) (fun p => validate_congr p rfl fun _ => rfl)
    (fun _ => not_stopped_of_tracking ht) fun _ => rfl
  have hschedule : ScheduleInv due back u := h.schedule.same (.refl _) rfl rfl (fun ht' => by simp [u, tracking] at ht')
    fun _ _ _ _ hlink => hlink.same rfl rfl
  have hline : LineInv due back (cutPulses u) := by
    refine ⟨htable.same (hamends.sameTable (cutPulses_effects (sound := False) (posting := False) u).wf) fun l => by rw [hdetector'],
      hepochs.same (.of_eq (cutPulses_epochUnit u)) (fun p => validate_congr p (by rw [hdetectors]) fun n => cutPulses_config n u)
        (by rw [hengine]; exact id) hamends.coreAt,
      hschedule.cutPulses (by simp [u, tracking]), ?_⟩
    have henabled (l : Lane) : laneEnabled l (cutPulses u) = laneEnabled l s := by
      rw [laneEnabled, hdetectors]
      rfl
    have hstate : (cutPulses u).engine.state = .frozen := congrArg Engine.state hengine
    unfold EngineSound
    simp only [hdetector', hdetector, henabled]
    refine ⟨⟨fun _ => ?_, fun _ => hstate⟩, fun hnot => absurd hstate hnot,
      fun hstop => EngineState.noConfusion (hstate.symm.trans hstop), fun _ a ha => (mem_cutPulses_schedule.1 ha).2, fun _ _ => trivial,
      fun l hdisabled => ?_, fun l => (h.engine.laneOk l).2⟩
    · rw [hengine]
      exact ((tracking_iff s).1 ht).imp (congrArg some) (congrArg some)
    · obtain ⟨hclear, _, hnone⟩ := (h.engine.laneOk l).1 hdisabled
      exact ⟨hclear, trivial, hnone⟩
  exact hline.same ((setFlag_sameLine _ _).trans (offer_sameLine _ _))

theorem LineInv.takeReport (h : LineInv due back s) (r : FaultReport) : LineInv due back (takeReport r s) := by
  unfold Machine.takeReport
  split
  · next hstate => exact h.freeze (by simp [tracking, hstate]) r
  · next hstate => exact h.freeze (by simp [tracking, hstate]) r
  · exact h.same ⟨.of_table rfl, rfl, .of_eq rfl, rfl, rfl, rfl, rfl, rfl⟩
  · exact h

/-! ### RESUME (R152) -/

theorem LineInv.resample (h : LineInv due back s) (ht : tracking s = true) (l : Lane) : LineInv due back (resample s l) := by
  unfold Machine.resample
  split
  · next hdiffers => exact h.createEdge ht (Bool.and_eq_true_iff.1 hdiffers).1
  · exact h

theorem LineInv.foldl_resample (h : LineInv due back s) (ht : tracking s = true) (ls : List Lane) :
    LineInv due back (ls.foldl Machine.resample s) ∧ tracking (ls.foldl Machine.resample s) = true ∧
      (ls.foldl Machine.resample s).channels = s.channels := by
  refine ⟨?_, ?_, foldl_field (fun s : State => s.channels) _ (fun s l => resample_channels s l) ls s⟩
  · induction ls generalizing s with
    | nil => exact h
    | cons l ls ih =>
      exact ih (h.resample ht l) (by rw [tracking_congr (congrArg Engine.state (resample_engine s l)), ht])
  · rw [tracking_congr (congrArg Engine.state (foldl_field (fun s : State => s.engine) _ (fun s l => resample_engine s l) ls s)), ht]

theorem settleAll_other_channel {n m : Channel} {q : Action → Bool} (hq : Newcomers n q) (hm : m ≠ n) (fuel : Nat) (s : State) :
    (settleAll q fuel s).channels[m] = s.channels[m] := by
  refine settleAll_keeps (fun u => u.channels[m] = s.channels[m]) q (fun u hu => ?_) fuel s rfl
  rw [← hu]
  rcases settleFirst_cases u q with ⟨_, heq⟩ | ⟨a, hfind, ⟨_, heq⟩ | ⟨_, _, heq⟩ | ⟨_, _, heq⟩ | ⟨_, _, heq⟩⟩ <;> rw [heq]
  · obtain rfl := (hq a (List.find?_some hfind)).1
    rw [fire_channels]
    exact Vector.getElem_set_ne _ _ fun heq => hm (Fin.ext heq.symm)
  · simp
  · simp
  · simp

/-- Channels that take their deferred actions back, one after another (R140). -/
theorem LineInv.foldl_takeBack (ns : List Channel) (hnodup : ns.Nodup) (h : LineInv due (· ∈ ns) s) (ht : tracking s = true)
    (hnot : ∀ n ∈ ns, s.channels[n].state ≠ .active) : LineInv due noChannel (ns.foldl takeBack s) := by
  induction ns generalizing s with
  | nil => exact h.mono (fun _ => id) fun n hn => absurd hn List.not_mem_nil
  | cons n ns ih =>
    obtain ⟨hn, hns⟩ := List.nodup_cons.1 hnodup
    have hdrop (m : Channel) (hm : m ≠ n) (hmem : m ∈ n :: ns) : m ∈ ns := (List.mem_cons.1 hmem).resolve_left hm
    rw [List.foldl_cons, takeBack]
    split
    · next hidle =>
      refine ih hns (h.takeDeferred ht hidle hdrop) (by rw [takeDeferred_tracking, ht]) fun m hm => ?_
      have hkept : (Machine.takeDeferred n s).channels[m] = s.channels[m] :=
        settleAll_other_channel (newcomers_deferredOn n) (fun heq => hn (heq ▸ hm)) _ s
      rw [hkept]
      exact hnot m (List.mem_cons_of_mem n hm)
    · next hbusy =>
      refine ih hns ⟨h.table, h.epochs, ⟨fun a ha => ?_, h.schedule.apart, h.schedule.active⟩, h.engine⟩ ht
        fun m hm => hnot m (List.mem_cons_of_mem n hm)
      have hs := h.schedule.actions a ha
      refine ⟨hs.finish, hs.unit, hs.width, hs.joins, fun ht hd => ?_, hs.ahead, hs.link⟩
      by_cases hm : a.channel = n
      · subst hm
        exact .inl ⟨hbusy, hnot _ List.mem_cons_self⟩
      · exact (hs.waits ht hd).imp_right (hdrop _ hm)

theorem LineInv.resumeRun (h : LineInv noChannel noChannel s) (hfrozen : s.engine.state = .frozen) (first : List Lane) :
    LineInv noChannel noChannel (resumeRun first s) := by
  set u : State := { s with
    engine := { s.engine with state := s.engine.frozenFrom.getD .running, frozenFrom := none }
    motion := { s.motion with phaseErrors := 0 } } with hu
  have hfrom := h.engine.1.1 hfrozen
  have ht : tracking u = true := by rcases hfrom with hf | hf <;> simp [hu, tracking, hf]
  have hline : LineInv noChannel (· ∈ allChannels) u := by
    refine ⟨h.table.same (.of_table rfl) fun _ => .rfl, h.epochs.same (.of_eq rfl) (fun p => validate_congr p rfl fun _ => rfl)
      (fun _ => by simp [hfrozen]) fun _ => rfl, ⟨fun a ha => ?_, h.schedule.apart, h.schedule.active⟩,
      (engineSound_tracking_iff ht).2 ⟨rfl, h.engine.laneOk⟩⟩
    exact (h.schedule.actions a ha).step rfl (fun _ _ => .inl (mem_allChannels _)) (fun _ => id) fun _ _ hlink => hlink.same rfl rfl
  obtain ⟨hsampled, htracking, hchannels⟩ := hline.foldl_resample ht (preferred first allLanes)
  refine (LineInv.foldl_takeBack allChannels (allChannels_sorted.imp fun h => ne_of_lt h) hsampled htracking fun n _ hactive => ?_).completeDrain
  rw [hchannels] at hactive
  have hcount := h.schedule.active n
  rw [if_pos (show s.channels[n].state = .active from hactive)] at hcount
  obtain ⟨a, ha, hon⟩ := List.countP_pos_iff.1 (hcount ▸ Nat.one_pos : 0 < activeCount n s)
  have hcut := h.engine.2.2.2.1 hfrozen a ha
  simp [activeOn, hcut] at hon

end Sys2Proof.Machine
end

section
set_option Elab.async false
/-! PROOFS. The data bytes of the window keep the invariant of the line: the commands (R145 to R155, R164) and the settings (R21, R127). -/

namespace Sys2Proof.Machine

variable {s t u : State} {due back due' back' : Channel → Prop}

/-! ### A line with nothing on it -/

theorem isLive_of_liveEntries (hwf : s.table.wf = true) (hlive : liveEntries s = 0) {slot : Slot} {e : Entry}
    (he : entryAt slot s = some e) : isLive e = false := by
  have hdone := (liveEntries_eq_zero_iff s).1 hlive _ ((findEntry_eq_some_iff hwf slot e).1 he)
  simp [isLive, show e.state = .done from hdone]

/-- With no live entry and no action there is nothing to say of the schedule, and of the epochs only that the run's bank is valid. -/
theorem LineInv.of_idle (htable : TableInv t) (hlive : liveEntries t = 0) (hschedule : t.schedule = [])
    (hchannels : ∀ n : Channel, t.channels[n].state ≠ .active)
    (hvalid : t.engine.state ≠ .stopped → validate (currentBank t) t = none) (hengine : EngineSound t) : LineInv due back t where
  table := htable
  epochs :=
    have hnone {slot : Slot} {e : Entry} (he : entryAt slot t = some e) (h : isLive e = true) : False :=
      Bool.noConfusion (h.symm.trans (isLive_of_liveEntries htable.wf hlive he))
    ⟨fun _ _ he h => (hnone he h).elim, hvalid, fun _ _ he h => (hnone he h).elim⟩
  schedule := ⟨by simp [hschedule], by simp [hschedule], fun n => by
    rw [activeCount, hschedule, if_neg (hchannels n)]
    rfl⟩
  engine := hengine

theorem EngineSound.of_stopped (hstate : t.engine.state = .stopped) (hfrom : t.engine.frozenFrom = none) (hschedule : t.schedule = [])
    (hlive : liveEntries t = 0) (hlanes : ∀ l, (detectorOf l t).edge = none ∧ LaneOk (laneEnabled l t) (detectorOf l t)) :
    EngineSound t := by
  refine ⟨⟨fun h => ?_, fun h => ?_⟩, fun _ => hfrom, fun _ => ⟨hschedule, hlive⟩, fun h => ?_, fun _ l => (hlanes l).1,
    fun l => (hlanes l).2.1, fun l => (hlanes l).2.2⟩
  · exact EngineState.noConfusion (hstate.symm.trans h)
  · simp [hfrom] at h
  · exact EngineState.noConfusion (hstate.symm.trans h)

/-- The line in STOPPED: nothing on it, no pulse, no item under a sensor. -/
structure Idle (s : State) : Prop where
  schedule : s.schedule = []
  live : liveEntries s = 0
  channels : ∀ n : Channel, s.channels[n].state ≠ .active
  covered : ∀ l : Lane, (detectorOf l s).state ≠ .covered
  from_none : s.engine.frozenFrom = none
  lanes : ∀ l, (detectorOf l s).edge = none ∧ LaneOk (laneEnabled l s) (detectorOf l s)

theorem LineInv.idle (h : LineInv due back s) (hstopped : s.engine.state = .stopped) : Idle s := by
  obtain ⟨_, hfrom, hempty, _, hedges, _⟩ := h.engine
  obtain ⟨hschedule, hlive⟩ := hempty hstopped
  refine ⟨hschedule, hlive, fun n hactive => ?_, fun l hcovered => ?_, hfrom (by simp [hstopped]),
    fun l => ⟨hedges (by simp [tracking, hstopped]) l, h.engine.laneOk l⟩⟩
  · have hcount := h.schedule.active n
    rw [activeCount, hschedule, if_pos hactive] at hcount
    exact absurd hcount Nat.zero_ne_one
  · have hcount := h.table.opening l
    rw [if_pos hcovered] at hcount
    obtain ⟨x, hx, hopening⟩ := List.countP_pos_iff.1 (hcount ▸ Nat.one_pos : 0 < slotCount (isOpening l) s)
    have hdone := (liveEntries_eq_zero_iff s).1 hlive x hx
    simp [isOpening, hdone] at hopening

/-! ### Commands that leave the line -/

theorem finishCommand_sameLine (code : Byte) (r : CommandResult) (s : State) : SameLine s (finishCommand code r s) := by
  rw [finishCommand_eq]
  exact ⟨.of_table rfl, rfl, .of_eq rfl, rfl, rfl, rfl, rfl, rfl⟩

theorem window_sameLine (w : Window) (s : State) : SameLine s { s with window := w } :=
  ⟨.of_table rfl, rfl, .of_eq rfl, rfl, rfl, rfl, rfl, rfl⟩

theorem refuseAccess_sameLine (a : Addr) (s : State) : SameLine s (refuseAccess a s) :=
  (window_sameLine _ s).trans (setFlag_sameLine _ _)

/-! ### START (R147), STOP (R148) and COMMIT_NOW (R101) -/

theorem LineInv.commit_idle (h : LineInv due back s) (hidle : Idle s) (hvalid : validate s.epochUnit.shadow s = none) :
    LineInv due back (Machine.commit s) :=
  h.commit (fun slot e he hlive => by simp [isLive_of_liveEntries h.table.wf hidle.live he] at hlive) hvalid

theorem inputState_ne (l : Lane) (s : State) : inputState l s ≠ .covered ∧ inputState l s ≠ .gap ∧
    (laneEnabled l s = false → inputState l s = .clear) := by
  unfold inputState
  split <;> simp_all

theorem currentBank_of_banksKept (h : BanksKept s t) : currentBank t = currentBank s := by
  obtain ⟨hbankA, hbankB, hcurrent, _⟩ := h
  rw [currentBank, currentBank, hcurrent]
  cases s.epochUnit.current
  · exact hbankA
  · exact hbankB

theorem LineInv.beginRun (h : LineInv due back s) (hidle : Idle s) (committing : Bool)
    (hvalid : validate (if committing then s.epochUnit.shadow else currentBank s) s = none) :
    LineInv due' back' (beginRun committing s) := by
  obtain ⟨_, hdetectors, _⟩ := loadedRun_frame committing s
  have henabled : (Machine.beginRun committing s).detectors.enabled = s.detectors.enabled :=
    (beginRun_effects (sound := False) (posting := False) committing s).settingsKept.1
  rw [beginRun_eq] at *
  set v := loadedRun committing s with hv
  set w : State := { v with
    motion := { v.motion with m := v.motion.h + (currentBank v).pitch, phaseErrors := 0, reports := [] },
    epochUnit := { v.epochUnit with deferral := false } } with hw
  have hvw : w.table = s.table ∧ w.schedule = s.schedule ∧ w.channels = s.channels ∧ w.detectors = s.detectors := by
    cases committing <;> simp [hw, hv, loadedRun]
  obtain ⟨htable, hschedule, hchannels, hdetectorsW⟩ := hvw
  set t := setEngineState .running (detectorsFromInputs w) with ht
  have hdetector (l : Lane) : detectorOf l t = { detectorOf l w with state := inputState l w, edge := none, gap := none } :=
    detectorOf_detectorsFromInputs l w
  have htracking : tracking t = true := rfl
  have hlane (l : Lane) : laneEnabled l t = laneEnabled l w := by
    rw [laneEnabled, henabled, laneEnabled, hdetectorsW]
  refine .of_idle (h.table.same (.of_table (by simp [ht, htable])) fun l => ?_) ?_ (by simp [ht, hschedule, hidle.schedule])
    (fun n => by simpa [ht, hchannels] using hidle.channels n) (fun _ => ?_) ((engineSound_tracking_iff htracking).2 ⟨?_, fun l => ?_⟩)
  · rw [hdetector]
    exact iff_of_false (inputState_ne l w).1 (hidle.covered l)
  · rw [liveEntries, show t.table = s.table by simp [ht, htable]]
    exact hidle.live
  · have hbank : currentBank t = if committing then s.epochUnit.shadow else currentBank s := by
      rw [← currentBank_loadedRun]
      exact currentBank_of_banksKept (by simp [ht, hw, hv, BanksKept])
    rw [hbank, validate_congr _ henabled fun n => by simp [ht, hchannels], hvalid]
  · have hengine : v.engine = s.engine := (loadedRun_frame committing s).1
    simp [ht, hw, hengine, setEngineState, hidle.from_none]
  · rw [hdetector, hlane]
    obtain ⟨_, hgap, hclear⟩ := inputState_ne l w
    exact ⟨fun hdisabled => ⟨hclear hdisabled, rfl, rfl⟩, fun h => absurd h hgap⟩

theorem LineInv.commandStart (h : LineInv noChannel noChannel s) : LineInv noChannel noChannel (commandStart s) := by
  unfold Machine.commandStart
  split
  · exact h.same (finishCommand_sameLine _ _ _)
  next hstate =>
  have hidle := h.idle (not_not.1 hstate)
  split
  · split
    · next hvalid => exact (h.beginRun hidle true hvalid).same (finishCommand_sameLine _ _ _)
    · exact (h.same (rejectShadow_sameLine _ s)).same (finishCommand_sameLine _ _ _)
  · split
    · next hvalid => exact (h.beginRun hidle false hvalid).same (finishCommand_sameLine _ _ _)
    · refine SameLine.trans (t := { s with epochUnit := { s.epochUnit with lastResult := .currentInvalid, check := _ } })
        ⟨.of_table rfl, rfl, ⟨rfl, rfl, rfl, rfl⟩, rfl, rfl, rfl, rfl, rfl⟩ (finishCommand_sameLine _ _ _) |> h.same

theorem LineInv.commandStop (h : LineInv noChannel noChannel s) : LineInv noChannel noChannel (commandStop s) := by
  unfold Machine.commandStop
  split
  · next hrunning =>
    have ht : tracking s = true := by simp [tracking, hrunning]
    have hdraining : LineInv noChannel noChannel (setEngineState .draining s) :=
      ⟨h.table.same (.of_table rfl) fun _ => .rfl,
        h.epochs.same (.of_eq rfl) (fun p => validate_congr p rfl fun _ => rfl) (fun _ => not_stopped_of_tracking ht) fun _ => rfl,
        h.schedule.same (.refl _) rfl rfl (fun _ => ht) fun _ _ _ _ hlink => hlink.same rfl rfl,
        (engineSound_tracking_iff rfl).2 ((engineSound_tracking_iff ht).1 h.engine)⟩
    exact hdraining.completeDrain.same (finishCommand_sameLine _ _ _)
  · exact h.same (finishCommand_sameLine _ _ _)

theorem LineInv.commandCommit (h : LineInv noChannel noChannel s) : LineInv noChannel noChannel (commandCommit s) := by
  unfold Machine.commandCommit
  split
  · exact h.same (finishCommand_sameLine _ _ _)
  next hstate =>
  split
  · exact h.same (finishCommand_sameLine _ _ _)
  split
  · exact h.same (finishCommand_sameLine _ _ _)
  split
  · next hvalid => exact (h.commit_idle (h.idle (not_not.1 hstate)) hvalid).same (finishCommand_sameLine _ _ _)
  · exact (h.same (rejectShadow_sameLine _ s)).same (finishCommand_sameLine _ _ _)

/-! ### RESUME (R152), ENGINE_RESET (R155) and POP (R164) -/

theorem LineInv.commandResume (h : LineInv noChannel noChannel s) (first : List Lane) :
    LineInv noChannel noChannel (commandResume first s) := by
  unfold Machine.commandResume
  split
  · exact h.same (finishCommand_sameLine _ _ _)
  next hstate =>
  split
  · exact (h.resumeRun (not_not.1 hstate) first).same (finishCommand_sameLine _ _ _)
  · exact h.same (finishCommand_sameLine _ _ _)

theorem lineInv_commandReset (s : State) : LineInv noChannel noChannel (commandReset s) := by
  have hreset := (lineSound_iff.1 (lineSound_afterPinReset Machine.InputLevels.atReset [] 0)).2.2
  have hdetector (l : Lane) : detectorOf l (commandReset s) = Detector.reset := Vector.getElem_replicate l.isLt
  have hdetector' (l : Lane) : detectorOf l (State.afterPinReset Machine.InputLevels.atReset) = Detector.reset :=
    Vector.getElem_replicate l.isLt
  refine .of_idle (hreset.table.same ⟨fun _ => rfl, fun _ => rfl, rfl, rfl, fun _ => ⟨rfl, rfl⟩⟩ fun l => ?_) rfl rfl
    (fun n => by simp [commandReset, resetChannels]) (fun hrun => absurd rfl hrun)
    (.of_stopped rfl rfl rfl rfl fun l => ?_)
  · rw [hdetector]
    exact iff_of_false (fun h => DetectorState.noConfusion h) fun h => DetectorState.noConfusion ((congrArg _ (hdetector' l)).symm.trans h)
  · rw [hdetector]
    exact ⟨rfl, fun _ => ⟨rfl, rfl, rfl⟩, fun h => DetectorState.noConfusion h⟩

theorem LineInv.commandPop (h : LineInv noChannel noChannel s) : LineInv noChannel noChannel (commandPop s) := by
  unfold Machine.commandPop
  split
  · exact h.same (finishCommand_sameLine _ _ _)
  · next rest _ =>
    have hpopped : LineInv noChannel noChannel { s with queue := { s.queue with records := rest } } :=
      h.same ⟨.of_table rfl, rfl, .of_eq rfl, rfl, rfl, rfl, rfl, rfl⟩
    exact hpopped.serveDone.same (finishCommand_sameLine _ _ _)

end Sys2Proof.Machine
end

section
set_option Elab.async false
/-! PROOFS. FLUSH (R153) and the settings of the window (R21, R87, R127) keep the invariant of the line. -/

namespace Sys2Proof.Machine

variable {s t u : State} {due back : Channel → Prop}

/-! ### FLUSH -/

/-- The postings of OUTCOME records read neither the detectors nor the engine. -/
theorem postOutcome_detectors_engine (d : Detectors) (e : Engine) (s : State) :
    postOutcome { s with detectors := d, engine := e } = { postOutcome s with detectors := d, engine := e } := by
  have hoffer (r : Report) (s : State) : offer r { s with detectors := d, engine := e } =
      { offer r s with detectors := d, engine := e } := by
    unfold offer
    split
    · next h => exact (if_pos h).symm ▸ rfl
    · next h => exact (if_neg h).symm ▸ rfl
  have hpost (slot : Slot) (x : Entry) (s : State) : postEntry slot x { s with detectors := d, engine := e } =
      { postEntry slot x s with detectors := d, engine := e } := by
    unfold postEntry
    rw [hoffer]
    rfl
  unfold postOutcome
  dsimp only
  split
  · rfl
  · next slot rest _ =>
    by_cases hdepth : depth s < 64
    · rw [if_pos hdepth, if_pos (show depth { s with detectors := d, engine := e } < 64 from hdepth)]
      have hentry (slot : Slot) : entryAt slot { s with detectors := d, engine := e } = entryAt slot s := rfl
      rw [hentry]
      split
      · rfl
      · next x _ => exact hpost slot x { s with table := { s.table with doneList := rest } }
    · rw [if_neg hdepth, if_neg (show ¬ depth { s with detectors := d, engine := e } < 64 from hdepth)]

theorem settlePosts_detectors_engine (d : Detectors) (e : Engine) (s : State) :
    settlePosts { s with detectors := d, engine := e } = { settlePosts s with detectors := d, engine := e } := by
  have key (n : Nat) : ∀ s : State, postOutcomes n { s with detectors := d, engine := e } =
      { postOutcomes n s with detectors := d, engine := e } := by
    induction n with
    | zero => exact fun _ => rfl
    | succ n ih => exact fun s => by rw [postOutcomes, postOutcomes, postOutcome_detectors_engine, ih]
  unfold settlePosts
  dsimp only
  split
  · exact key _ s
  · rfl

theorem flushedEntry_sound {e : Entry} (h : FieldsSound e) (hopening : e.state ≠ .opening) : FieldsSound (flushedEntry e) := by
  unfold flushedEntry
  split
  · exact ⟨iff_of_false EntryState.noConfusion (mt h.tag.2 hopening), iff_of_false EntryState.noConfusion (mt h.length.2 hopening),
      fun hs => hs.elim EntryState.noConfusion EntryState.noConfusion, fun hs => hs.elim EntryState.noConfusion EntryState.noConfusion⟩
  · exact h

theorem flushedEntry_fields (e : Entry) : (flushedEntry e).lane = e.lane ∧ (flushedEntry e).tag = e.tag ∧
    isLive (flushedEntry e) = false := by
  unfold flushedEntry
  split
  · exact ⟨rfl, rfl, by simp [isLive]⟩
  · next h => exact ⟨rfl, rfl, by simpa using h⟩

theorem isConfirmed_flushedEntry (l : Lane) (e : Entry) (hopening : e.state ≠ .opening) :
    isConfirmed l (flushedEntry e) = isConfirmed l e := by
  unfold flushedEntry
  split <;> simp [isConfirmed, hopening]

/-- The table of a FLUSH before its postings: every confirmed entry waits in the DONE list. -/
theorem TableInv.flushedLine (h : TableInv s) (hcovered : ∀ l, (detectorOf l t).state ≠ .covered)
    (ht : t.table = (flushedLine s).table) : TableInv t := by
  have htable : TableSound s := (tableInv_iff.1 h).1
  have hentry (slot : Slot) : entryAt slot t = entryAt slot (Machine.flushedLine s) := by rw [entryAt, entryAt, ht]
  have hfrom {slot : Slot} {e : Entry} (he : entryAt slot t = some e) :
      ∃ d, entryAt slot s = some d ∧ d.state ≠ .opening ∧ e = flushedEntry d := by
    rw [hentry] at he
    obtain ⟨d, hmem, hopening, heq⟩ := (entryAt_flushedLine h.wf).1 he
    exact ⟨d, entryAt_of_mem h.wf hmem, hopening, heq⟩
  have hlist (l : Lane) : t.table.laneList[l] = [] := by
    rw [ht]
    exact Vector.getElem_replicate l.isLt
  refine ⟨by rw [ht]; exact flushedEntries_rising h.wf, fun l => by rw [hlist]; exact .nil, fun l slot => ?_,
    by rw [ht]; exact flushedLine_doneList_nodup htable, fun slot => ?_, fun l => ?_, fun slot e he => ?_, fun k j d e hkj hd he hlane => ?_,
    fun l => ?_⟩
  · rw [hlist, iff_false_left List.not_mem_nil]
    rintro ⟨e, he, _, hlive⟩
    obtain ⟨d, _, _, rfl⟩ := hfrom he
    exact Bool.noConfusion ((flushedEntry_fields d).2.2.symm.trans hlive)
  · rw [ht, ← (waiting_flushedLine htable).slots]
    constructor
    · intro hmem
      obtain ⟨x, hx, rfl⟩ := List.mem_map.1 hmem
      have he := (hentry x.1).trans ((mem_flushWaiting htable).1 hx)
      obtain ⟨d, _, _, heq⟩ := hfrom he
      exact ⟨x.2, he, by rw [heq]; exact (flushedEntry_fields d).2.2⟩
    · rintro ⟨e, he, _⟩
      exact List.mem_map.2 ⟨(slot, e), (mem_flushWaiting htable).2 ((hentry slot).symm.trans he), rfl⟩
  · rw [if_neg (hcovered l), slotCount, List.countP_eq_zero]
    intro x hx
    have hwf : t.table.wf = true := by rw [ht]; exact flushedEntries_rising h.wf
    obtain ⟨d, _, hopening, heq⟩ := hfrom (entryAt_of_mem hwf hx)
    have hdone : isLive x.2 = false := by rw [heq]; exact (flushedEntry_fields d).2.2
    rintro hopen
    simp only [isOpening, Bool.and_eq_true, decide_eq_true_eq] at hopen
    simp [isLive, hopen.2] at hdone
  · obtain ⟨d, hd, hopening, rfl⟩ := hfrom he
    exact flushedEntry_sound (h.fields slot d hd) hopening
  · obtain ⟨x, hx, _, rfl⟩ := hfrom hd
    obtain ⟨y, hy, _, rfl⟩ := hfrom he
    obtain ⟨hxlane, hxtag, _⟩ := flushedEntry_fields x
    obtain ⟨hylane, hytag, _⟩ := flushedEntry_fields y
    rw [hxtag, hytag]
    exact h.tags k j x y hkj hx hy (by rw [← hxlane, hlane, hylane])
  · have hcount : slotCount (isConfirmed l) t = slotCount (isConfirmed l) s := by
      rw [slotCount, ht]
      refine List.countP_map.trans (List.countP_filter.trans (List.countP_congr fun x _ => ?_))
      by_cases hopening : x.2.state = .opening
      · simp [isConfirmed, hopening]
      · simp [isConfirmed_flushedEntry l x.2 hopening, hopening]
    rw [hcount, ht]
    exact h.counters l

theorem LineInv.commandFlush (h : LineInv noChannel noChannel s) : LineInv noChannel noChannel (commandFlush s) := by
  unfold Machine.commandFlush
  split
  · exact h.same (finishCommand_sameLine _ _ _)
  set v := Machine.flushedLine (flushSchedule s) with hv
  set t := flushLine s with ht
  have heq : t = Machine.enterStopped (detectorsFromInputs (Machine.settlePosts v)) := rfl
  have hdetector (l : Lane) : detectorOf l t =
      { detectorOf l (Machine.settlePosts v) with state := inputState l (Machine.settlePosts v), edge := none, gap := none } := by
    refine (detectorOf_discardEdges _ l).trans ?_
    rw [detectorOf_detectorsFromInputs]
    rfl
  have henabled (l : Lane) : laneEnabled l t = laneEnabled l (Machine.settlePosts v) := by
    have hkept := (detectorsFromInputs_effects (sound := False) (posting := False) (Machine.settlePosts v)).enterStopped.settingsKept.1
    rw [laneEnabled, laneEnabled, heq, hkept]
  have hchannel (n : Channel) : (flushSchedule s).channels[n].state ≠ .active := by
    rw [flushSchedule_channel ((scheduleInv_iff h.table.wf).1 h.schedule).1]
    exact h.schedule.stoppedChannel_not_active n
  let w : State := { v with detectors := t.detectors, engine := t.engine }
  have hdetectorW (l : Lane) : detectorOf l w = detectorOf l t := rfl
  have htable : TableInv w := by
    have hflushed : TableInv (flushSchedule s) := h.table.same (.of_table (flushSchedule_table s)) fun l => by
      rw [detectorOf, detectorOf, flushSchedule_detectors]
    exact hflushed.flushedLine (fun l => by rw [hdetectorW, hdetector]; exact (inputState_ne l _).1) rfl
  have hlive : liveEntries w = 0 := (liveEntries_eq_zero_iff w).2 fun x hx => by
    obtain ⟨d, _, _, hd⟩ := (entryAt_flushedLine (s := flushSchedule s) (by rw [flushSchedule_table]; exact h.table.wf)).1
      (entryAt_of_mem htable.wf hx)
    have hdone := (flushedEntry_fields d).2.2
    rw [← hd] at hdone
    simpa [isLive] using hdone
  have hline : LineInv noChannel noChannel w := by
    refine .of_idle htable hlive rfl hchannel (fun hrun => absurd rfl hrun) (.of_stopped rfl rfl rfl hlive fun l => ?_)
    obtain ⟨_, hgap, hclear⟩ := inputState_ne l (Machine.settlePosts v)
    rw [hdetectorW, hdetector, show laneEnabled l w = laneEnabled l t from rfl, henabled]
    exact ⟨rfl, fun hdisabled => ⟨hclear hdisabled, rfl, rfl⟩, fun h => absurd h hgap⟩
  have hposted := hline.settlePosts
  rw [settlePosts_detectors_engine] at hposted
  refine (hposted.same (t := t) ⟨.of_table ?_, rfl, .of_eq ?_, ?_, ?_, ?_, rfl, rfl⟩).same (finishCommand_sameLine _ _ _)
  all_goals simp [heq]

/-! ### Settings of the window -/

theorem SameTable.of_inspection {x : Inspection} (h : t.table = { s.table with inspection := x }) : SameTable s t where
  wf hs := by rwa [h]
  entries k := by rw [coreAt, coreAt, entryAt, entryAt, h]
  laneList := by rw [h]
  doneList := by rw [h]
  counters l := by rw [h]; exact ⟨rfl, rfl⟩

theorem LineInv.setLaneMask (h : LineInv due back s) (hstopped : s.engine.state = .stopped) (mask : BitVec 4) :
    LineInv due back (setLaneMask mask s) := by
  have hidle := h.idle hstopped
  set v : State := { s with detectors := { s.detectors with enabled := mask } } with hv
  obtain ⟨hdetectors, hframe⟩ := foldl_maskLane mask allLanes v
  set t := Machine.setLaneMask mask s with ht
  have hframe' : t = { v with detectors := { v.detectors with lane := t.detectors.lane } } := hframe
  have hdetector (l : Lane) : detectorOf l t = if mask.getLsbD l.val = false then
      { detectorOf l s with state := .clear, edge := none, gap := none } else detectorOf l s :=
    (hdetectors l).trans (ite_congr (propext (and_iff_right (List.mem_finRange l))) (fun _ => rfl) fun _ => rfl)
  have htable : t.table = s.table := by rw [hframe']
  have hlane (l : Lane) : (detectorOf l t).state ≠ .covered ∧ (detectorOf l t).edge = none ∧
      LaneOk (laneEnabled l t) (detectorOf l t) := by
    obtain ⟨hedge, _, hgap⟩ := hidle.lanes l
    have henabled : laneEnabled l t = mask.getLsbD l.val := by rw [hframe']; rfl
    rw [hdetector, henabled]
    split
    · exact ⟨DetectorState.noConfusion, rfl, fun _ => ⟨rfl, rfl, rfl⟩, fun hs => DetectorState.noConfusion hs⟩
    · next hbit => exact ⟨hidle.covered l, hedge, fun hd => absurd hd hbit, hgap⟩
  have hschedule : t.schedule = [] := by rw [hframe']; exact hidle.schedule
  have hlive : liveEntries t = 0 := by rw [liveEntries, htable]; exact hidle.live
  have hengine : t.engine = s.engine := by rw [hframe']
  exact .of_idle (h.table.same (.of_table htable) fun l => iff_of_false (hlane l).1 (hidle.covered l)) hlive hschedule
    (fun n => by rw [hframe']; exact hidle.channels n) (fun hrun => absurd (hengine ▸ hstopped) hrun)
    (.of_stopped (by rw [hengine, hstopped]) (by rw [hengine, hidle.from_none]) hschedule hlive fun l => (hlane l).2)

/-- In STOPPED no action hangs on a channel's configuration. -/
theorem LineInv.setConfig (h : LineInv due back s) (hstopped : s.engine.state = .stopped) (n : Channel) (c : ChannelConfig) :
    LineInv due back { s with channels := updateAt s.channels n fun ch => { ch with config := c } } := by
  have hidle := h.idle hstopped
  refine .of_idle (h.table.same (.of_table rfl) fun _ => .rfl) hidle.live hidle.schedule (fun m => ?_) (fun hrun => absurd hstopped hrun)
    (.of_stopped hstopped hidle.from_none hidle.schedule hidle.live hidle.lanes)
  have hstate : (updateAt s.channels n fun ch => { ch with config := c })[m].state = s.channels[m].state := by
    rw [updateAt_get]
    split
    · next hm => rw [← hm]
    · rfl
  exact fun hactive => hidle.channels m (hstate.symm.trans hactive)

theorem LineInv.stoppedOnly (h : LineInv due back s) (a : Addr) {effect : State → State}
    (heffect : s.engine.state = .stopped → LineInv due back (effect s)) : LineInv due back (stoppedOnly a effect s) := by
  unfold Machine.stoppedOnly
  split
  · next hstopped => exact heffect hstopped
  · exact h.same (refuseAccess_sameLine a s)

theorem LineInv.writeAddress (h : LineInv due back s) {a : Addr} (v : Byte) (hcommand : target a ≠ .command) :
    LineInv due back (writeAddress a v s) := by
  have hline := writeAddress_line v s hcommand
  have hbanks := writeAddress_banksKept (s := s) v hcommand
  by_cases hmask : target a = .laneMask
  · simp only [Machine.writeAddress, hmask, writeLaneMask]
    exact h.stoppedOnly _ fun hstopped => h.setLaneMask hstopped _
  by_cases hconfig : ∃ n which, target a = .channelConfig n which
  · obtain ⟨n, which, hconfig⟩ := hconfig
    simp only [Machine.writeAddress, hconfig, writeConfig]
    refine h.stoppedOnly _ fun hstopped => ?_
    split
    · exact h.setConfig hstopped n _
    · exact h.same (refuseAccess_sameLine _ s)
  obtain ⟨htable, hschedule, _, hengine⟩ := hline
  have hrest : (Machine.writeAddress a v s).detectors = s.detectors ∧ (Machine.writeAddress a v s).channels = s.channels ∧
      (Machine.writeAddress a v s).motion.h = s.motion.h := by
    unfold Machine.writeAddress
    cases htarget : target a with
    | command => exact absurd htarget hcommand
    | laneMask => exact absurd htarget hmask
    | channelConfig n which => exact absurd ⟨n, which, htarget⟩ hconfig
    | decodeMode | invert | backlash | phaseLimit =>
      simp only [writeDecodeMode, writeInvert, writeBacklash, writePhaseLimit, Machine.stoppedOnly]
      (repeat' split) <;> simp
    | _ => simp
  obtain ⟨hdetectors, hchannels, hh⟩ := hrest
  exact h.same ⟨.of_inspection htable, hdetectors, hbanks, hschedule, hchannels, hh, congrArg _ hengine, congrArg _ hengine⟩

/-! ### A byte of the command register -/

theorem LineInv.writeCommand (h : LineInv noChannel noChannel s) (v : Byte) : LineInv noChannel noChannel (writeCommand v s) := by
  unfold Machine.writeCommand
  (repeat' split)
  · exact h.commandStart
  · exact h.commandStop
  · exact h.commandResume _
  · exact h.commandFlush
  · exact h.commandCommit
  · exact lineInv_commandReset s
  · exact h.commandPop
  · exact h.same (refuseAccess_sameLine _ s)

/-- Every data byte of the window keeps the line (R145, R172). -/
theorem LineInv.exec_write (h : LineInv noChannel noChannel s) {c : Instr} {a : Addr} {v : Byte}
    (hbyte : c.byteWritten = some (a, v)) (hexec : exec c s = .next t) : LineInv noChannel noChannel t := by
  rcases exec_write_cases hbyte hexec with rfl | ⟨u, w, rfl, ⟨ha, _, rfl⟩ | ⟨first, _, rfl⟩ | ⟨_, _, rfl⟩⟩
  · exact h
  · exact (h.writeAddress v (mt target_eq_command ha)).same (window_sameLine w _)
  · exact (h.commandResume first).same (window_sameLine w _)
  · exact (h.writeCommand v).same (window_sameLine w _)

end Sys2Proof.Machine
end

section
set_option Elab.async false
/-! PROOFS. Every step keeps the invariant of the line: the part's own events, the frame of the window, and the data bytes. -/

namespace Sys2Proof.Machine

variable {s t : State} {c : Instr}

/-! ### The line through the part's own events -/

/-- The motion unit at an encoder transition: H stays (R5, R8). -/
theorem motion_sameLine {m : Motion} (hh : m.h = s.motion.h) : SameLine s { s with motion := m } :=
  ⟨.of_table rfl, rfl, .of_eq rfl, rfl, rfl, hh, rfl, rfl⟩

theorem SameLine.of_blocks (htable : t.table = s.table) (hdetectors : t.detectors = s.detectors) (hunit : t.epochUnit = s.epochUnit)
    (hschedule : t.schedule = s.schedule) (hchannels : t.channels = s.channels) (hmotion : t.motion = s.motion)
    (hengine : t.engine = s.engine) : SameLine s t :=
  ⟨.of_table htable, hdetectors, .of_eq hunit, hschedule, hchannels, congrArg _ hmotion, congrArg _ hengine, congrArg _ hengine⟩

theorem LineInv.microsecondsPulseEnd (h : LineInv noChannel noChannel s) (n : Channel) (d : Nat) :
    LineInv noChannel noChannel (Machine.settleDrain (Machine.endPulse n (elapseTo d s))) :=
  ((h.same (elapseTo_sameLine d s)).endPulse n).settleDrain

/-- Every event of the part keeps the line. -/
theorem LineInv.exec_event (h : LineInv noChannel noChannel s) (hbyte : c.byteWritten = none) (hexec : exec c s = .next t) :
    LineInv noChannel noChannel t := by
  cases c with
  | pinReset levels =>
    obtain rfl := Host.Outcome.next.inj ((exec_pinReset levels s).symm.trans hexec)
    exact (lineSound_iff.1 (lineSound_afterPinReset levels s.pending s.freeCount)).2.2
  | legalTransition phase =>
    cases hexec
    exact h.same ⟨.of_table (by simp), by simp, .of_eq (by simp), by simp, by simp, by rw [legalSample_motion], by simp, by simp⟩
  | illegalTransition =>
    cases hexec
    rw [illegalSample_eq]
    exact h.same (motion_sameLine rfl)
  | advance first =>
    cases hexec
    split
    · next hmay => exact h.advanceOnce (Bool.and_eq_true_iff.1 hmay).1 first
    · exact h
  | microsecondsPulseEnd n =>
    cases hexec
    split
    · exact h
    · split
      · exact h.microsecondsPulseEnd n _
      · exact h
  | recoveryExpiry n =>
    cases hexec
    split
    · next d hstate =>
      exact (h.same (elapseTo_sameLine d s)).expireRecovery (by rw [elapseTo_channels, hstate]; exact ChannelState.noConfusion)
    · exact h
  | speedWindowEnd =>
    cases hexec
    exact (h.same (elapseTo_sameLine _ s)).same (motion_sameLine rfl)
  | rawInputChange l high =>
    cases hexec
    split
    · exact h
    · exact ((h.same (setDet_sameLine l high s)).rawChange l).settleDrain
  | debounceExpiry l =>
    by_cases hidle : (detectorOf l s).edge = none ∨ tracking s = false
    · obtain rfl := Host.Outcome.next.inj ((exec_debounceExpiry_idle hidle).symm.trans hexec)
      exact h
    · obtain ⟨hedge, ht⟩ := not_or.1 hidle
      obtain ⟨ed, hed⟩ := Option.ne_none_iff_exists'.1 hedge
      have ht : tracking s = true := by simpa using ht
      obtain rfl := Host.Outcome.next.inj ((exec_debounceExpiry hed ht).symm.trans hexec)
      exact h.debounceExpiry hed ht
  | faultReport =>
    cases hexec
    split
    · exact h
    · next r rest _ => exact (h.same (motion_sameLine (m := { s.motion with reports := rest }) rfl)).takeReport r
  | verdictTake => cases hexec; exact h.takeVerdict
  | outcomePost => cases hexec; exact h.serveDone
  | drainComplete => cases hexec; exact h.completeDrain
  | frameBegin | controlByte | frameEnd | snapshotRead | addressByte =>
    cases hexec
    exact h.same (.of_blocks (by simp) (by simp) (by simp) (by simp) (by simp) (by simp) (by simp))
  | _ => cases hbyte

/-! ### The window (R170, R175) -/

/-- What a data byte may do to the window before the window moves on: the frame stays, and the marker sets only in a frame in DATA. -/
structure FrameKept (s t : State) : Prop where
  csn : t.window.csn = s.window.csn
  frame : t.window.frame = s.window.frame
  marker : t.window.frameOpen = true → s.window.frameOpen = true ∨ inData s.window.frame = true

theorem FrameKept.of_window (h : t.window = s.window) : FrameKept s t := ⟨by rw [h], by rw [h], fun ht => .inl (h ▸ ht)⟩

theorem refuseAccess_frameKept (a : Addr) (s : State) : FrameKept s (refuseAccess a s) := ⟨rfl, rfl, .inl⟩

theorem writeStaged_frameKept (a : Addr) (v : Byte) (s : State) : FrameKept s (writeStaged a v s) := by
  unfold writeStaged
  split
  · exact ⟨rfl, rfl, fun h => by simpa [storeStaged] using h⟩
  · exact refuseAccess_frameKept a s

theorem writeCommand_frameKept (v : Byte) (s : State) : FrameKept s (writeCommand v s) := by
  unfold writeCommand
  split
  · exact .of_window (by simp)
  split
  · exact .of_window (by simp)
  split
  · exact .of_window (by simp)
  split
  · exact .of_window (by simp)
  split
  · exact .of_window (by simp)
  split
  · exact .of_window rfl
  split
  · exact .of_window (by simp)
  · exact refuseAccess_frameKept _ s

theorem stoppedOnly_frameKept (a : Addr) {effect : State → State} (heffect : FrameKept s (effect s)) :
    FrameKept s (stoppedOnly a effect s) := by
  unfold stoppedOnly
  split
  · exact heffect
  · exact refuseAccess_frameKept a s

theorem writeConfig_frameKept (n : Channel) (which : ConfigByte) (v : Byte) (s : State) : FrameKept s (writeConfig n which v s) := by
  refine stoppedOnly_frameKept _ ?_
  split
  · exact .of_window rfl
  · exact refuseAccess_frameKept _ s

theorem writeAddress_frameKept (a : Addr) (v : Byte) (s : State) : FrameKept s (writeAddress a v s) := by
  unfold writeAddress
  cases htarget : target a with
  | command => exact writeCommand_frameKept v s
  | pitch | laneBlock | channelBlock => exact writeStaged_frameKept a v s
  | channelConfig n which => exact writeConfig_frameKept n which v s
  | laneMask => exact stoppedOnly_frameKept _ (.of_window (by simp))
  | invert | backlash => exact stoppedOnly_frameKept _ (.of_window rfl)
  | decodeMode | phaseLimit =>
    refine stoppedOnly_frameKept _ ?_
    dsimp only
    split
    · exact .of_window rfl
    · exact refuseAccess_frameKept _ s
  | stageHold | viewSelect | threshold | verdictClass =>
    simp only [writeHold, writeView, writeThreshold, writeClass]
    split
    · exact .of_window (by simp)
    · exact refuseAccess_frameKept _ s
  | flags | enables | verdictLane | verdictTagLow | verdictTagHigh | inspectionSelect => exact .of_window rfl
  | _ => exact refuseAccess_frameKept a s

theorem hostWrite_windowSound {a : Addr} {effect : State → State} (h : WindowSound s) (heffect : FrameKept s (effect s)) :
    WindowSound (hostWrite a effect s) := by
  obtain ⟨hidle, hmarker⟩ := h
  obtain ⟨hcsn, hframe, hopen⟩ := heffect
  unfold hostWrite
  split
  · next m d hdata =>
    split
    · next hhere =>
      have hwrite : m.read = false := by simpa using (Bool.and_eq_true_iff.1 hhere).1
      rw [hdata] at hframe
      unfold stepAddress
      rw [hframe]
      refine ⟨fun h => ?_, fun _ => by simp [setFrame, inWriteData, hwrite]⟩
      have hframe' := hidle (hcsn.symm.trans h)
      rw [hdata] at hframe'
      exact Frame.noConfusion hframe'
    · exact ⟨hidle, hmarker⟩
  · next hidleFrame =>
    split
    · refine ⟨fun _ => hframe.trans hidleFrame, fun h => ?_⟩
      rcases hopen h with h | h
      · exact (congrArg inWriteData hframe).trans (hmarker h)
      · rw [hidleFrame] at h
        exact Bool.noConfusion h
    · exact ⟨hidle, hmarker⟩
  · exact ⟨hidle, hmarker⟩

/-- A read takes its snapshot and its value, and the frame stays (R171, R174). -/
theorem readAddress_window (a : Addr) (s : State) : (readAddress a s).window.csn = s.window.csn ∧
    (readAddress a s).window.frame = s.window.frame ∧ (readAddress a s).window.frameOpen = s.window.frameOpen := by
  unfold readAddress takeSnapshot
  dsimp only
  split <;> exact ⟨rfl, rfl, rfl⟩

theorem readAddress_windowSound (h : WindowSound s) (a : Addr) : WindowSound (readAddress a s) := by
  obtain ⟨hcsn, hframe, hopen⟩ := readAddress_window a s
  rw [WindowSound, hcsn, hframe, hopen]
  exact h

/-- A frame under way moves on; before DATA of a WRITE frame the marker is clear, and stays so. -/
theorem windowSound_of_underWay (h : WindowSound s) (hframe : s.window.frame ≠ .idle) (hcsn : t.window.csn = s.window.csn)
    (hopen : t.window.frameOpen = s.window.frameOpen) (hdata : inWriteData s.window.frame = true → inWriteData t.window.frame = true) :
    WindowSound t := by
  obtain ⟨hidle, hmarker⟩ := h
  rw [WindowSound, hcsn, hopen]
  exact ⟨fun h => absurd (hidle h) hframe, fun h => hdata (hmarker h)⟩

theorem hostRead_windowSound (h : WindowSound s) (a : Addr) : WindowSound (hostRead a s) := by
  unfold hostRead
  split
  · next m d hdata =>
    split
    · have hsound : WindowSound (setFrame (.data m a) s) :=
        windowSound_of_underWay h (by simp [hdata]) rfl rfl fun hwrite => by rwa [hdata] at hwrite
      exact readAddress_windowSound hsound a
    · exact h
  · split
    · exact readAddress_windowSound h a
    · exact h
  · exact h

theorem takeAddress_windowSound (h : WindowSound s) (v : Byte) : WindowSound (takeAddress v s) := by
  have key {f : Frame} (hframe : s.window.frame ≠ .idle) (hnot : inWriteData s.window.frame = false) : WindowSound (setFrame f s) :=
    windowSound_of_underWay h hframe rfl rfl fun hwrite => Bool.noConfusion (hnot.symm.trans hwrite)
  unfold takeAddress
  split
  · next hframe => exact key (by simp [hframe]) (by simp [hframe, inWriteData])
  · next hframe =>
    have hsound {f : Frame} : WindowSound (setFrame f s) := key (by simp [hframe]) (by simp [hframe, inWriteData])
    dsimp only
    split
    · exact readAddress_windowSound hsound _
    · exact hsound
  · exact h

theorem takeControl_windowSound (h : WindowSound s) (v : Byte) : WindowSound (takeControl v s) := by
  unfold takeControl
  split
  · next hframe =>
    split <;> exact windowSound_of_underWay h (by simp [hframe]) rfl rfl fun hwrite => by simp [hframe, inWriteData] at hwrite
  · exact h

theorem beginFrame_windowSound (h : WindowSound s) : WindowSound (beginFrame s) := by
  unfold beginFrame
  split
  · exact ⟨fun h => Bool.noConfusion h, fun h => Bool.noConfusion h⟩
  · exact h

theorem exec_event_windowSound (h : WindowSound s) (hbyte : c.byteWritten = none) (hexec : exec c s = .next t) : WindowSound t := by
  have hkept (hw : t.window = s.window) : WindowSound t := by rwa [WindowSound, hw]
  cases c with
  | pinReset levels =>
    obtain rfl := Host.Outcome.next.inj ((exec_pinReset levels s).symm.trans hexec)
    exact (lineSound_iff.1 (lineSound_afterPinReset levels s.pending s.freeCount)).2.1
  | advance first =>
    cases hexec
    exact hkept (by split <;> simp [advanceOnce_window])
  | microsecondsPulseEnd n => cases hexec; exact hkept (by (repeat' split) <;> simp)
  | recoveryExpiry n =>
    cases hexec
    refine hkept ?_
    split
    · simp only [expireRecovery]
      split <;> simp
    · rfl
  | rawInputChange l high => cases hexec; exact hkept (by split <;> simp)
  | debounceExpiry l => cases hexec; exact hkept (by (repeat' split) <;> simp)
  | faultReport => cases hexec; exact hkept (by split <;> simp)
  | legalTransition | illegalTransition | speedWindowEnd | verdictTake | outcomePost | drainComplete => cases hexec; exact hkept (by simp)
  | frameBegin => cases hexec; exact beginFrame_windowSound h
  | controlByte v => cases hexec; exact takeControl_windowSound h v
  | frameEnd => cases hexec; exact ⟨fun _ => rfl, fun h => Bool.noConfusion h⟩
  | snapshotRead a => cases hexec; exact hostRead_windowSound h a
  | addressByte v => cases hexec; exact takeAddress_windowSound h v
  | _ => cases hbyte

theorem exec_windowSound (h : WindowSound s) (hexec : exec c s = .next t) : WindowSound t := by
  cases hbyte : c.byteWritten with
  | some byte =>
    obtain ⟨a, v⟩ := byte
    rcases exec_of_byteWritten s hbyte with heq | ⟨first, rfl, rfl, rfl⟩
    · obtain rfl := Host.Outcome.next.inj (heq.symm.trans hexec)
      exact hostWrite_windowSound h (writeAddress_frameKept a v s)
    · obtain rfl : hostWrite 0x0004 (commandResume first) s = t := Host.Outcome.next.inj hexec
      exact hostWrite_windowSound h (.of_window (by simp))
  | none =>
    exact exec_event_windowSound h hbyte hexec

/-! ### The step -/

theorem exec_lineSound (h : LineSound s) (hexec : exec c s = .next t) : LineSound t := by
  obtain ⟨hbounded, hwindow, hline⟩ := lineSound_iff.1 h
  refine lineSound_iff.2 ⟨exec_bounded hbounded hexec, exec_windowSound hwindow hexec, ?_⟩
  cases hbyte : c.byteWritten with
  | some byte => exact hline.exec_write hbyte hexec
  | none => exact hline.exec_event hbyte hexec

theorem idleStep_lineSound (h : LineSound s) : LineSound (idleStep s) := by
  obtain ⟨hbounded, hwindow, hline⟩ := lineSound_iff.1 h
  refine lineSound_iff.2 ⟨idleStep_bounded hbounded, ?_, ?_⟩
  · unfold idleStep
    dsimp only
    split <;> exact hwindow
  · unfold idleStep
    dsimp only
    split
    · exact (hline.same (elapseTo_sameLine _ s)).same ⟨.of_table rfl, rfl, .of_eq rfl, rfl, rfl, rfl, rfl, rfl⟩
    · exact hline.same ⟨.of_table rfl, rfl, .of_eq rfl, rfl, rfl, rfl, rfl, rfl⟩

/-- Settles O59: the step on an empty queue passes a tick or queues events, and every command keeps the bounds, the window and,
slot by slot and action by action, the line. -/
theorem everyStepKeepsTheLineSound : Obligations.EveryStepKeepsTheLineSound := by
  intro s t hs h
  cases hpending : s.pending with
  | nil =>
    obtain rfl : idleStep s = t := Host.Outcome.next.inj ((step_nil s hpending).symm.trans h)
    exact idleStep_lineSound hs
  | cons c rest =>
    rw [step_cons s c rest hpending] at h
    have hqueued : LineSound { s with pending := rest } := by
      obtain ⟨hbounded, hwindow, hline⟩ := lineSound_iff.1 hs
      exact lineSound_iff.2 ⟨hbounded, hwindow, hline.same ⟨.of_table rfl, rfl, .of_eq rfl, rfl, rfl, rfl, rfl, rfl⟩⟩
    exact exec_lineSound hqueued h

end Sys2Proof.Machine
end

section
set_option Elab.async false
/-! PROOFS. The walk through the work of an advance in whatever order it is taken (R9), with what holds all along it; the detectors
along it, and the end of a gap (R33). -/

namespace Sys2Proof.Machine

variable {s t u : State} {first left : List AdvanceWork} {fixed : Option (List Slot)} {w : AdvanceWork}

/-! ### The walk -/

/-- How an advance ends: with nothing left but a drain that is not over, or with its drain completed. -/
def WalkEnd (left : List AdvanceWork) (u t : State) : Prop :=
  left = [.drainCompletion] ∧ drainOpen u = true ∧ t = settleDrain (settlePosts u) ∨
    drainDone u = true ∧ t = settlePosts (enterStopped u)

/-- What holds at the start of an advance and through each piece or part of its work, but for the completion of a drain, holds
before its last posting. -/
theorem advance_walk {P : List AdvanceWork → Option (List Slot) → State → Prop} (hmay : canAdvance s = true)
    (first : List AdvanceWork) (start : P advanceWork none (stepForward s))
    (step : ∀ left fixed w u, AdvanceState s left u → u.engine = s.engine → Leftover left → workReady u left w = true →
      w ≠ .drainCompletion → (w ∈ first ∨ w ∈ left) → P left fixed u →
      P (left.erase w ++ (doWork fixed w u).2) (fixDecisions fixed w u) (doWork fixed w u).1) :
    ∃ left fixed u t, exec (.advance first) s = .next t ∧ AdvanceState s left u ∧ u.engine = s.engine ∧ P left fixed u ∧
      WalkEnd left u t := by
  have ht : tracking s = true := (Bool.and_eq_true_iff.1 hmay).1
  obtain ⟨left, fixed, v, heq, hP, hend⟩ := advanceOnce_induction (s := s) (first := first)
    (P := fun left fixed v => (AdvanceState s left v ∧ v.engine = s.engine ∧ P left fixed v) ∨
      ∃ left fixed u, AdvanceState s left u ∧ u.engine = s.engine ∧ P left fixed u ∧ drainDone u = true ∧ v = enterStopped u)
    (.inl ⟨AdvanceState.start s, rfl, start⟩) fun left fixed w v htv hleft hready hnamed hP => by
      rcases hP with ⟨hstate, hengine, hP⟩ | ⟨_, _, u, _, _, _, _, rfl⟩
      · by_cases hw : w = .drainCompletion
        · subst hw
          have hdone : drainDone v = true := by
            simp [workReady, wholeWork] at hready
            exact hready.1.2
          exact .inr ⟨left, fixed, v, hstate, hengine, hP, hdone, by simp [doWork, completeDrain, hdone]⟩
        · exact .inl ⟨hstate.step hleft fixed htv hready, (doWork_engine fixed hw v).trans hengine,
            step left fixed w v hstate hengine hleft hready hw hnamed hP⟩
      · simp [tracking] at htv
  have hexec : exec (.advance first) s = .next (settleDrain (settlePosts v)) := by rw [exec_advance, if_pos hmay, heq]
  rcases hP with ⟨hstate, hengine, hP⟩ | ⟨left, fixed, u, hstate, hengine, hP, hdone, rfl⟩
  · have htv : tracking v = true := by rw [tracking_congr (congrArg Engine.state hengine), ht]
    obtain ⟨hlast, hopen⟩ := hend.resolve_left (by simp [htv])
    exact ⟨left, fixed, v, _, hexec, hstate, hengine, hP, .inl ⟨hlast, hopen, rfl⟩⟩
  · rw [settleDrain_of_state (by simp)] at hexec
    exact ⟨left, fixed, u, _, hexec, hstate, hengine, hP, .inr ⟨hdone, rfl⟩⟩

/-- The end of an advance out of STOPPED: nothing is left, and the last posting is all that follows. -/
theorem WalkEnd.of_running (h : WalkEnd left u t) (hrun : t.engine.state ≠ .stopped) :
    left = [.drainCompletion] ∧ t = settlePosts u := by
  rcases h with ⟨hlast, _, rfl⟩ | ⟨_, rfl⟩
  · refine ⟨hlast, ?_⟩
    unfold settleDrain at hrun ⊢
    split
    · next hreports =>
      rw [if_pos hreports] at hrun
      rcases completeDrain_cases (settlePosts u) with ⟨_, heq⟩ | ⟨_, heq⟩ <;> rw [heq] at hrun ⊢
      exact absurd rfl hrun
    · rfl
  · exact absurd (by simp) hrun

/-! ### What is left of the work -/

theorem not_mem_follows {x : AdvanceWork} (hpitch : x ≠ .pitchActions) (hlevel : ∀ l, x ≠ .levelChange l)
    (fixed : Option (List Slot)) (w : AdvanceWork) (s : State) : x ∉ (doWork fixed w s).2 := by
  intro hx
  rcases doWork_follows fixed w s with hnone | ⟨_, _, _, hfollows⟩
  · simp [hnone] at hx
  · rcases hfollows x hx with h | ⟨l, h⟩
    · exact hpitch h
    · exact hlevel l h

/-- A piece of work that follows from no other is left until it is taken. -/
theorem mem_left_iff {x : AdvanceWork} (hx : x ≠ w) (hnot : x ∉ (doWork fixed w u).2) :
    x ∈ left.erase w ++ (doWork fixed w u).2 ↔ x ∈ left := by
  rw [List.mem_append, or_iff_left hnot, List.mem_erase_of_ne hx]

theorem not_mem_left_self (hleft : Leftover left) (hnot : w ∉ (doWork fixed w u).2) :
    w ∉ left.erase w ++ (doWork fixed w u).2 := by
  rw [List.mem_append, not_or]
  exact ⟨hleft.nodup.not_mem_erase, hnot⟩

/-! ### The detectors along the walk -/

theorem confirm_detector_other {l : Lane} (slot : Slot) {e : Entry} (hne : e.lane ≠ l) (length : Half) (overlength : Option Class)
    (s : State) : detectorOf l (confirm slot e length overlength s) = detectorOf l s := by
  rw [confirm_eq, detectorOf_modifyDetector, if_neg hne]
  simp [detectorOf]

/-- An edge taken on one lane leaves the detectors of the others (R22 to R32). -/
theorem takeEdge_detector_other {k l : Lane} (hne : k ≠ l) (ed : PendingEdge) (s : State) :
    detectorOf l (takeEdge k ed s) = detectorOf l s := by
  have hmodify (f : Detector → Detector) (u : State) : detectorOf l (modifyDetector k f u) = detectorOf l u := by
    rw [detectorOf_modifyDetector, if_neg hne]
  unfold takeEdge
  dsimp only
  split
  · rw [takeTrailing, openGap, hmodify]
    split
    · next slot x _ hopening =>
      unfold measure
      dsimp only
      split
      · exact (congrArg (·.lane[l]) ((raise_detectors _ _ _ _).trans (discardEntry_detectors _ slot x))).trans (hmodify _ s)
      · rw [confirm_detector_other slot (by rw [(openingEntry_spec hopening).2.1]; exact hne), hmodify]
    · rw [hmodify]
  · unfold takeLeading
    split
    · rw [hmodify]
      exact (congrArg (·.lane[l]) (raise_detectors _ _ _ _)).trans (hmodify _ s)
    split
    · rw [goTo, hmodify]
      exact (congrArg (·.lane[l]) (raise_detectors _ _ _ _)).trans (hmodify _ s)
    split
    · rw [goTo, hmodify]
      exact (congrArg (·.lane[l]) ((modifyCounters_detectors _ _ _).trans (raise_detectors _ _ _ _))).trans (hmodify _ s)
    · refine (congrArg (·.lane[l]) (openEntry_detectors _ _ _ _)).trans ?_
      exact (hmodify _ _).trans (hmodify _ s)

theorem rawChange_detector_other {k l : Lane} (hne : k ≠ l) (s : State) : detectorOf l (rawChange k s) = detectorOf l s := by
  have hmodify (f : Detector → Detector) : detectorOf l (modifyDetector k f s) = detectorOf l s := by
    rw [detectorOf_modifyDetector, if_neg hne]
  unfold rawChange
  split
  · rfl
  · split
    · exact hmodify _
    · unfold createEdge
      dsimp only
      split
      · exact takeEdge_detector_other hne _ s
      · exact hmodify _

theorem detectorAdvance_detector_other {k l : Lane} (hne : k ≠ l) (s : State) :
    detectorOf l (detectorAdvance k s) = detectorOf l s := by
  have hmodify (f : Detector → Detector) (u : State) : detectorOf l (modifyDetector k f u) = detectorOf l u := by
    rw [detectorOf_modifyDetector, if_neg hne]
  unfold detectorAdvance
  dsimp only
  split
  · split
    · exact hmodify _ s
    · rfl
  · next slot e _ hopening =>
    split
    · rw [takeOverlength, goTo, hmodify, confirm_detector_other slot (by rw [(openingEntry_spec hopening).2.1]; exact hne)]
    · rfl
  · rfl

/-- Only its own work and its own level change touch the detector of a lane, but for a completed drain. -/
theorem doWork_detector {l : Lane} (fixed : Option (List Slot)) (hdetector : w ≠ .detector l) (hlevel : w ≠ .levelChange l)
    (hdrain : w ≠ .drainCompletion) (s : State) : detectorOf l (doWork fixed w s).1 = detectorOf l s := by
  cases w with
  | detector k => exact detectorAdvance_detector_other (fun h => hdetector (by rw [h])) s
  | levelChange k => exact rawChange_detector_other (fun h => hlevel (by rw [h])) s
  | drainCompletion => exact absurd rfl hdrain
  | mark =>
    simp only [doWork]
    split
    · exact congrArg (·.lane[l]) (pitchMark_detectors s)
    · rfl
  | _ => simp [doWork, detectorOf]

theorem detector_ready {l : Lane} (h : workReady s left (.detector l) = true) : .detector l ∈ left := by
  simpa [workReady, wholeWork] using h

theorem levelChange_ready {l : Lane} (h : workReady s left (.levelChange l) = true) : .levelChange l ∈ left := by
  simpa [workReady, wholeWork] using h

/-- The work of a detector is done once, with no other work touching it where the lane has no level change. -/
theorem detector_walk {l : Lane} {d d' : Detector} (hleft : Leftover left) (hready : workReady u left w = true)
    (hdrain : w ≠ .drainCompletion) (hlevel : .levelChange l ∉ left)
    (hwork : detectorOf l u = d → detectorOf l (detectorAdvance l u) = d')
    (hd : detectorOf l u = if .detector l ∈ left then d else d') :
    detectorOf l (doWork fixed w u).1 = if .detector l ∈ left.erase w ++ (doWork fixed w u).2 then d else d' := by
  have hfollow := not_mem_follows (x := .detector l) (by simp) (by simp) fixed w u
  by_cases hw : w = .detector l
  · subst hw
    rw [if_pos (detector_ready hready)] at hd
    rw [if_neg (not_mem_left_self hleft hfollow)]
    exact hwork hd
  · rw [doWork_detector fixed hw (fun h => hlevel (levelChange_ready (h ▸ hready))) hdrain, hd]
    exact ite_congr (propext (mem_left_iff (Ne.symm hw) hfollow).symm) (fun _ => rfl) fun _ => rfl

/-! ### The level changes of a mark (R20) -/

theorem currentBank_pitchMark (s : State) : currentBank (pitchMark s) = currentBank s ∨
    attemptDue s = true ∧ currentBank (pitchMark s) = s.epochUnit.shadow := by
  rcases pitchMark_banks s with hkept | ⟨_, hrejected, hpending, hhold, _, hcurrent, _, hbank, _⟩
  · exact .inl (currentBank_of_banksKept hkept)
  · exact .inr ⟨by simp [attemptDue, hpending, hhold, hrejected], hbank⟩

theorem mem_lanesWithNewLevel {l : Lane} : l ∈ lanesWithNewLevel s t ↔
    (currentBank s).lanes[l].activeHigh ≠ (currentBank t).lanes[l].activeHigh := by
  simp [lanesWithNewLevel, show l ∈ allLanes from List.mem_finRange l]

theorem levelChange_mem_follows {l : Lane} : .levelChange l ∈ (doWork fixed w s).2 ↔
    w = .mark ∧ s.motion.h = s.motion.m ∧ l ∈ lanesWithNewLevel s (pitchMark s) := by
  cases w with
  | mark =>
    simp only [doWork]
    split
    · next hmark =>
      simp only [List.mem_append, List.mem_map, AdvanceWork.levelChange.injEq, exists_eq_right, hmark, true_and]
      refine or_iff_right fun h => ?_
      split at h <;> simp at h
    · next hmark => simp [hmark]
  | _ => simp [doWork]

/-- A mark whose commit attempt, if it makes one, leaves the active level of a lane, gives that lane no level change. -/
theorem AdvanceState.no_levelChange (h : AdvanceState s left u) (hready : workReady u left w = true) {l : Lane}
    (hlevel : s.motion.h + 1 = s.motion.m → attemptDue s = true →
      s.epochUnit.shadow.lanes[l].activeHigh = (currentBank s).lanes[l].activeHigh)
    (hnone : .levelChange l ∉ left) : .levelChange l ∉ left.erase w ++ (doWork fixed w u).2 := by
  rw [List.mem_append, not_or]
  refine ⟨fun hmem => hnone (List.mem_of_mem_erase hmem), fun hmem => ?_⟩
  obtain ⟨rfl, hat, hchanged⟩ := levelChange_mem_follows.1 hmem
  have hin : .mark ∈ left := by simpa [workReady, wholeWork] using hready
  have hmark : s.motion.h + 1 = s.motion.m := by rw [← h.h, hat, h.kept (.inr hin)]
  have hunit := h.unmarked hmark hin
  rw [mem_lanesWithNewLevel] at hchanged
  rcases currentBank_pitchMark u with hkept | ⟨hdue, hbank⟩
  · rw [hkept] at hchanged
    exact hchanged rfl
  · have hdue' : attemptDue s = true := by rw [← hdue, attemptDue, attemptDue, hunit]
    rw [hbank, hunit, currentBank_congr hunit] at hchanged
    exact hchanged (hlevel hmark hdue').symm

/-! ### The end of a gap (R33) -/

/-- A detector that is not COVERED, after its work at an advance. -/
def gapEnded (h : Word) (d : Detector) : Detector :=
  match d.state, d.gap with
  | .gap, some g => if reached h (gapEnd g) then { d with state := .clear, gap := none } else d
  | _, _ => d

theorem detectorAdvance_detector {l : Lane} (hnot : (detectorOf l s).state ≠ .covered) :
    detectorOf l (detectorAdvance l s) = gapEnded s.motion.h (detectorOf l s) := by
  unfold detectorAdvance gapEnded
  dsimp only
  split
  · next hstate hgap =>
    rw [hstate, hgap]
    dsimp only
    split
    · rw [detectorOf_modifyDetector, if_pos rfl]
    · rfl
  · next hstate _ => exact absurd hstate hnot
  · next hgap _ =>
    split
    · next hstate hsome => exact absurd hsome (hgap _ hstate)
    · rfl

/-- Settles O17: the lane's own work is taken once, and no other work touches its detector. -/
theorem gapEndsAtItsPosition : Obligations.GapEndsAtItsPosition := by
  intro first s l hmay hlevel hnot
  obtain ⟨left, fixed, u, t, hexec, _, _, ⟨hdetector, _⟩, hend⟩ := advance_walk (P := fun left _ u =>
      detectorOf l u = (if .detector l ∈ left then detectorOf l s else gapEnded (s.motion.h + 1) (detectorOf l s)) ∧
      .levelChange l ∉ left) hmay first
    ⟨(if_pos (by fin_cases l <;> decide)).symm, by fin_cases l <;> decide⟩
    fun left fixed w u hstate _ hleft hready hdrain _ ⟨hd, hnone⟩ =>
      ⟨detector_walk hleft hready hdrain hnone (fun hd => by
        rw [detectorAdvance_detector (by rw [hd]; exact hnot), hd, hstate.h]) hd, hstate.no_levelChange hready hlevel hnone⟩
  refine ⟨_, hexec, fun hrun => ?_⟩
  obtain ⟨rfl, rfl⟩ := hend.of_running hrun
  rw [if_neg (by simp)] at hdetector
  rw [detectorOf, settlePosts_detectors, ← detectorOf, hdetector]
  obtain ⟨state, edge, gap, nextTag⟩ := detectorOf l s
  cases gap with
  | none => cases state <;> rfl
  | some g =>
    cases state with
    | gap => exact ite_congr (propext decide_eq_true_iff) (fun _ => rfl) fun _ => rfl
    | _ => rfl

end Sys2Proof.Machine
end

section
set_option Elab.async false
/-! PROOFS. What becomes of one entry in the work of an advance: a live entry keeps its slot and its record, and gains no more than
flags and fired channels, but for its own confirmation, decision and exit. -/

namespace Sys2Proof.Machine

variable {s t u : State} {slot : Slot} {e d : Entry}

/-! ### Entries that gain flags and fired channels alone -/

/-- An entry has only gained flags and fired channels, and neither of the flags that a placement gives it. -/
structure Retouched (d e : Entry) : Prop where
  entry : e = { d with flags := e.flags, fired := e.fired }
  gains : Gains d.flags e.flags d.fired e.fired
  placed : e.flags.lateStart = d.flags.lateStart ∧ e.flags.scheduleFull = d.flags.scheduleFull

theorem Retouched.refl (e : Entry) : Retouched e e := ⟨rfl, Gains.refl _ _, rfl, rfl⟩

theorem Retouched.trans {c : Entry} (h : Retouched c d) (h' : Retouched d e) : Retouched c e where
  entry := by rw [h'.entry, h.entry]
  gains := h.gains.trans h'.gains
  placed := ⟨h'.placed.1.trans h.placed.1, h'.placed.2.trans h.placed.2⟩

theorem Retouched.same (h : Retouched d e) : e.state = d.state ∧ e.lane = d.lane ∧ e.tag = d.tag ∧ e.epoch = d.epoch ∧
    e.bank = d.bank ∧ e.leading = d.leading ∧ e.length = d.length ∧ e.verdict = d.verdict := by
  rw [h.entry]
  exact ⟨rfl, rfl, rfl, rfl, rfl, rfl, rfl, rfl⟩

/-- The entry in a slot goes on in its slot, with no more than flags and fired channels gained. -/
def SlotKept (slot : Slot) (s t : State) : Prop := ∀ d, entryAt slot s = some d → ∃ e, entryAt slot t = some e ∧ Retouched d e

theorem SlotKept.of_entry (h : entryAt slot t = entryAt slot s) : SlotKept slot s t := fun d hd => ⟨d, by rw [h, hd], .refl d⟩

theorem SlotKept.of_table (h : t.table = s.table) : SlotKept slot s t := .of_entry (by rw [entryAt, entryAt, h])

theorem SlotKept.trans (h : SlotKept slot s t) (h' : SlotKept slot t u) : SlotKept slot s u := fun d hd => by
  obtain ⟨e, he, hde⟩ := h d hd
  obtain ⟨c, hc, hec⟩ := h' e he
  exact ⟨c, hc, hde.trans hec⟩

theorem modifyEntry_slotKept (k : Slot) {f : Entry → Entry} (hf : ∀ e, Retouched e (f e)) (s : State) :
    SlotKept slot s (modifyEntry k f s) := fun d hd => by
  rw [entryAt_modifyEntry, hd]
  split
  · exact ⟨f d, rfl, hf d⟩
  · exact ⟨d, rfl, .refl d⟩

theorem addFlags_slotKept (k : Slot) {f : EntryFlags → EntryFlags} (hf : SetsFlags f)
    (hplaced : ∀ x, (f x).lateStart = x.lateStart ∧ (f x).scheduleFull = x.scheduleFull) (s : State) :
    SlotKept slot s (addFlags k f s) :=
  modifyEntry_slotKept k (f := fun e => { e with flags := f e.flags })
    (fun e => ⟨rfl, ⟨hf e.flags, BitVec.and_self⟩, hplaced e.flags⟩) s

theorem addFired_slotKept (k : Slot) (n : Channel) (s : State) : SlotKept slot s (addFired k n s) :=
  modifyEntry_slotKept k (f := fun e => { e with fired := e.fired ||| (1#16 <<< n.val) })
    (fun _ => ⟨rfl, ⟨BitVec.and_self, and_or_self_right _ _⟩, rfl, rfl⟩) s

theorem onItem_slotKept (item : Option Slot) {f : Slot → State → State} (hf : ∀ k s, SlotKept slot s (f k s))
    (h : t.table = s.table) : SlotKept slot s (onItem item f t) := by
  cases item with
  | none => exact .of_table h
  | some k => exact (SlotKept.of_table h).trans (hf k t)

/-! ### The channels' work -/

theorem settleFirst_slotKept (q : Action → Bool) (s : State) : SlotKept slot s (settleFirst q s) := by
  rcases settleFirst_cases s q with ⟨_, heq⟩ | ⟨a, _, ⟨_, heq⟩ | ⟨_, _, heq⟩ | ⟨_, _, heq⟩ | ⟨_, _, heq⟩⟩ <;> rw [heq]
  · exact .of_entry rfl
  · exact onItem_slotKept a.item (fun k s => addFired_slotKept k a.channel s) rfl
  · exact onItem_slotKept a.item (fun k s =>
      (addFlags_slotKept k setsFlags_joined (fun _ => ⟨rfl, rfl⟩) s).trans (addFired_slotKept k a.channel _)) rfl
  · unfold refuseNewcomer
    dsimp only
    split
    · exact .of_table (raise_table _ _ _ _)
    · next k _ => exact onItem_slotKept (some k) (fun k s => addFlags_slotKept k setsFlags_collision (fun _ => ⟨rfl, rfl⟩) s) rfl
  · exact onItem_slotKept a.item (fun k s => addFlags_slotKept k setsFlags_deferred (fun _ => ⟨rfl, rfl⟩) s) rfl

theorem settleAll_slotKept (q : Action → Bool) (fuel : Nat) (s : State) : SlotKept slot s (settleAll q fuel s) := by
  induction fuel generalizing s with
  | zero => exact .of_entry rfl
  | succ fuel ih => exact (settleFirst_slotKept q s).trans (ih _)

theorem channelAdvance_slotKept (n : Channel) (s : State) : SlotKept slot s (channelAdvance n s) := by
  unfold channelAdvance
  split
  · exact .trans (.of_table (endPulse_table s n)) (settleAll_slotKept _ _ _)
  · exact settleAll_slotKept _ _ _

theorem channelEvent_slotKept (n : Channel) (s : State) : SlotKept slot s (channelEvent n s) := by
  unfold channelEvent
  split
  · exact .of_table (endPulse_table s n)
  · exact settleFirst_slotKept _ _

/-! ### The detectors' work -/

theorem placeItemActions_entryAt_other {k : Slot} (hne : slot ≠ k) (e : Entry) (s : State) :
    entryAt slot (placeItemActions k e s) = entryAt slot s := (placeItemActions_placements k e s).others slot hne

theorem openEntry_entryAt_other {k : Slot} (hne : slot ≠ k) (l : Lane) (leading : Word) (s : State) :
    entryAt slot (openEntry k l leading s) = entryAt slot s := by
  rw [openEntry, placeItemActions_entryAt_other hne]
  exact (entryAt_setEntry s k slot _).trans (if_neg hne)

theorem lowestFreeSlot_entryAt {k : Slot} (h : lowestFreeSlot s.table.entries = some k) : entryAt k s = none :=
  (lowestFreeSlot_some h).1

theorem takeLeading_slotKept (l : Lane) (ed : PendingEdge) (s : State) : SlotKept slot s (takeLeading l ed s) := by
  unfold takeLeading
  split
  · exact .of_table (raise_table _ _ _ _)
  split
  · exact .of_table (raise_table _ _ _ _)
  split
  · refine .of_entry ?_
    show findEntry slot (raise .tableFull (some l) none s).table.entries = entryAt slot s
    rw [raise_table, entryAt]
  · next k hfree =>
    intro d hd
    have hne : slot ≠ k := fun h => by
      rw [h, lowestFreeSlot_entryAt hfree] at hd
      cases hd
    exact SlotKept.of_entry (openEntry_entryAt_other hne l _ _) d hd

theorem confirm_entryAt_other {k : Slot} (hne : slot ≠ k) (e : Entry) (length : Half) (overlength : Option Class) (s : State) :
    entryAt slot (confirm k e length overlength s) = entryAt slot s := by
  rw [entryAt, confirm, offer_table]
  exact (entryAt_setEntry _ k slot _).trans (if_neg hne)

theorem measure_entryAt_other {k : Slot} (hne : slot ≠ k) (l : Lane) (e : Entry) (trailing : Word) (s : State) :
    entryAt slot (measure l k e trailing s) = entryAt slot s := by
  unfold measure
  dsimp only
  split
  · rw [entryAt, raise_table, ← entryAt, entryAt_discardEntry, if_neg hne]
  · exact confirm_entryAt_other hne e _ _ s

/-- The entry in a slot is not the OPENING entry of a lane. -/
def NotOpening (slot : Slot) (l : Lane) (s : State) : Prop :=
  ∀ d, entryAt slot s = some d → d.lane = l → d.state ≠ .opening

theorem NotOpening.ne (h : NotOpening slot l s) (hwf : s.table.wf = true) {k : Slot} {e : Entry}
    (hopening : openingEntry l s = some (k, e)) : slot ≠ k := fun hk => by
  obtain ⟨hat, hstate⟩ := openingEntry_entryAt hwf hopening
  exact h e (hk ▸ hat) (openingEntry_spec hopening).2.1 hstate

variable {l : Lane}

theorem takeTrailing_entryAt_other (hwf : s.table.wf = true) (hnot : NotOpening slot l s) (ed : PendingEdge) :
    entryAt slot (takeTrailing l ed s) = entryAt slot s := by
  unfold takeTrailing
  dsimp only
  split
  · next k x _ hopening => exact measure_entryAt_other (hnot.ne hwf hopening) l x ed.latched s
  · rfl

theorem takeEdge_slotKept (hwf : s.table.wf = true) (hnot : NotOpening slot l s) (ed : PendingEdge) :
    SlotKept slot s (takeEdge l ed s) := by
  unfold takeEdge
  dsimp only
  split
  · exact .of_entry (takeTrailing_entryAt_other (s := modifyDetector l _ s) hwf hnot ed)
  · exact fun d hd => takeLeading_slotKept l ed (modifyDetector l _ s) d hd

theorem rawChange_slotKept (hwf : s.table.wf = true) (hnot : NotOpening slot l s) : SlotKept slot s (rawChange l s) := by
  unfold rawChange
  split
  · exact .of_entry rfl
  split
  · exact .of_table rfl
  · unfold createEdge
    dsimp only
    split
    · exact takeEdge_slotKept hwf hnot _
    · exact .of_table rfl

theorem detectorAdvance_entryAt_other (hwf : s.table.wf = true) (hnot : NotOpening slot l s) :
    entryAt slot (detectorAdvance l s) = entryAt slot s := by
  unfold detectorAdvance
  dsimp only
  split
  · split <;> rfl
  · next k x _ hopening =>
    split
    · exact confirm_entryAt_other (hnot.ne hwf hopening) x _ _ s
    · rfl
  · rfl

/-! ### Decisions, exits and postings -/

theorem placeVerdictActions_entryAt_other {k : Slot} (hne : slot ≠ k) (e : Entry) (c : Class) (s : State) :
    entryAt slot (placeVerdictActions k e c s) = entryAt slot s := (placeVerdictActions_placements k e c s).others slot hne

theorem takeDecision_entryAt_other {k : Slot} (hne : slot ≠ k) (s : State) : entryAt slot (takeDecision k s) = entryAt slot s := by
  rcases takeDecision_cases s k with ⟨_, heq⟩ | ⟨x, _, _, heq⟩ <;> rw [heq]
  rw [placeVerdictActions_entryAt_other hne, entryAt_setEntry, if_neg hne]

theorem decisionDue_congr (hunit : t.epochUnit = s.epochUnit) (hh : t.motion.h = s.motion.h) (e : Entry) :
    decisionDue e t = decisionDue e s := by
  rw [decisionDue, decisionDue, decisionPosition, decisionPosition, laneProfileOf, laneProfileOf, bankOf_congr e.bank hunit, hh]

/-- Decisions leave an entry that is not among those taken, or whose decision is not due. -/
theorem takeDecisions_entryAt_other (slots : List Slot) {s : State}
    (hnot : slot ∉ slots ∨ ∀ e, entryAt slot s = some e → decisionDue e s = false) :
    entryAt slot (takeDecisions slots s) = entryAt slot s := by
  induction slots generalizing s with
  | nil => rfl
  | cons k slots ih =>
    have hone : entryAt slot (takeDecision k s) = entryAt slot s := by
      by_cases hne : slot = k
      · subst hne
        rcases takeDecision_cases s slot with ⟨_, heq⟩ | ⟨x, hx, hdue, _⟩
        · rw [heq]
        · rcases hnot with hnot | hnot
          · exact absurd List.mem_cons_self hnot
          · rw [hnot x hx] at hdue
            cases hdue
      · exact takeDecision_entryAt_other hne s
    rw [takeDecisions_cons, ih, hone]
    rcases hnot with hnot | hnot
    · exact .inl fun h => hnot (List.mem_cons_of_mem _ h)
    · refine .inr fun e he => ?_
      rw [decisionDue_congr (takeDecision_epochUnit s k) (congrArg Motion.h (takeDecision_motion s k))]
      exact hnot e (hone ▸ he)

theorem foldl_takeExit_entryAt_other (l : List (Slot × Entry)) (hnot : slot ∉ l.map (·.1)) (s : State) :
    entryAt slot (l.foldl (fun s x => takeExit x.1 x.2 s) s) = entryAt slot s := by
  induction l generalizing s with
  | nil => rfl
  | cons x l ih =>
    rw [List.map_cons, List.mem_cons, not_or] at hnot
    rw [List.foldl_cons, ih hnot.2, entryAt_takeExit, if_neg hnot.1]

theorem foldl_takeExit_doneList (l : List (Slot × Entry)) (s : State) :
    (l.foldl (fun s x => takeExit x.1 x.2 s) s).table.doneList = s.table.doneList ++ l.map (·.1) := by
  induction l generalizing s with
  | nil => simp
  | cons x l ih => rw [List.foldl_cons, ih, takeExit_eq, List.map_cons, List.append_assoc, List.singleton_append]

theorem postOutcome_entryAt_other (hnot : slot ∉ s.table.doneList) :
    entryAt slot (postOutcome s) = entryAt slot s ∧ slot ∉ (postOutcome s).table.doneList := by
  rcases postOutcome_cases s with ⟨_, heq⟩ | ⟨_, heq⟩ | ⟨k, rest, hdone, _, ⟨_, heq⟩ | ⟨x, _, heq⟩⟩ <;> rw [heq]
  · exact ⟨rfl, hnot⟩
  · exact ⟨rfl, hnot⟩
  all_goals
    rw [hdone, List.mem_cons, not_or] at hnot
    refine ⟨?_, hnot.2⟩
  · rfl
  · exact (findEntry_dropEntry k slot _).trans (if_neg hnot.1)

theorem serveDone_entryAt_other (hnot : slot ∉ s.table.doneList) : entryAt slot (serveDone s) = entryAt slot s := by
  have key : ∀ (n : Nat) (u : State), slot ∉ u.table.doneList → entryAt slot (postOutcomes n u) = entryAt slot u := by
    intro n
    induction n with
    | zero => exact fun _ _ => rfl
    | succ n ih =>
      intro u hu
      obtain ⟨hat, hdone⟩ := postOutcome_entryAt_other hu
      exact (ih _ hdone).trans hat
  exact key _ s hnot

theorem settlePosts_entryAt_other (hnot : slot ∉ s.table.doneList) : entryAt slot (settlePosts s) = entryAt slot s := by
  rcases settlePosts_cases s with ⟨_, heq⟩ | ⟨_, heq⟩ <;> rw [heq]
  exact serveDone_entryAt_other hnot

theorem not_mem_leavingEntries (hwf : s.table.wf = true) (hnot : ∀ d, entryAt slot s = some d → exitDue d s = false) :
    slot ∉ (leavingEntries s).map (·.1) := fun h => by
  obtain ⟨x, hx, rfl⟩ := List.mem_map.1 h
  obtain ⟨hmem, hdue⟩ := mem_leavingEntries.1 hx
  rw [hnot x.2 (entryAt_of_mem hwf hmem)] at hdue
  cases hdue

theorem takeExits_entryAt_other (hwf : s.table.wf = true) (hnot : ∀ d, entryAt slot s = some d → exitDue d s = false)
    (hdone : slot ∉ s.table.doneList) : entryAt slot (takeExits s) = entryAt slot s := by
  have hleaving := not_mem_leavingEntries hwf hnot
  rw [takeExits, settlePosts_entryAt_other, foldl_takeExit_entryAt_other _ hleaving]
  rw [foldl_takeExit_doneList, List.mem_append, not_or]
  exact ⟨hdone, hleaving⟩

theorem takeNextExit_entryAt_other (hwf : s.table.wf = true) (hnot : ∀ d, entryAt slot s = some d → exitDue d s = false) :
    entryAt slot (takeNextExit s) = entryAt slot s := by
  have hleaving := not_mem_leavingEntries hwf hnot
  rcases takeNextExit_cases s with ⟨_, heq⟩ | ⟨x, rest, hlist, heq⟩ <;> rw [heq]
  rw [hlist, List.map_cons, List.mem_cons, not_or] at hleaving
  rw [entryAt_takeExit, if_neg hleaving.1]

/-! ### A piece of work and the entry in a slot -/

/-- The decisions that a piece of work takes. -/
def decisionsTaken (fixed : Option (List Slot)) (w : AdvanceWork) (s : State) : List Slot :=
  match w with
  | .decisions => decisionsLeft fixed s
  | .decision => (decisionsLeft fixed s).take 1
  | _ => []

theorem doWork_of_decisions {fixed : Option (List Slot)} {w : AdvanceWork} (h : w = .decisions ∨ w = .decision) (s : State) :
    (doWork fixed w s).1 = takeDecisions (decisionsTaken fixed w s) s := by
  rcases h with rfl | rfl <;> rfl

/-- An entry that a piece of work does not confirm, decide or retire goes on in its slot. -/
theorem doWork_slotKept {w : AdvanceWork} (fixed : Option (List Slot)) (hwf : s.table.wf = true)
    (hdetector : ∀ l, w = .detector l ∨ w = .levelChange l → NotOpening slot l s)
    (hdecision : slot ∉ decisionsTaken fixed w s ∨ ∀ d, entryAt slot s = some d → decisionDue d s = false)
    (hexit : w = .exits ∨ w = .exit → ∀ d, entryAt slot s = some d → exitDue d s = false)
    (hdone : w = .exits ∨ w = .posts → slot ∉ s.table.doneList) : SlotKept slot s (doWork fixed w s).1 := by
  cases w with
  | channel n => exact channelAdvance_slotKept n s
  | channelEvent n => exact channelEvent_slotKept n s
  | detector l => exact .of_entry (detectorAdvance_entryAt_other hwf (hdetector l (.inl rfl)))
  | decisions => exact .of_entry (takeDecisions_entryAt_other _ hdecision)
  | decision => exact .of_entry (takeDecisions_entryAt_other _ hdecision)
  | exits => exact .of_entry (takeExits_entryAt_other hwf (hexit (.inl rfl)) (hdone (.inl rfl)))
  | exit => exact .of_entry (takeNextExit_entryAt_other hwf (hexit (.inr rfl)))
  | posts => exact .of_entry (serveDone_entryAt_other (hdone (.inr rfl)))
  | mark =>
    simp only [doWork]
    split
    · exact .of_table (pitchMark_table s)
    · exact .of_entry rfl
  | pitchActions => exact .of_table (placePitchActions_table s _)
  | levelChange l => exact rawChange_slotKept hwf (hdetector l (.inr rfl))
  | drainCompletion =>
    rcases completeDrain_cases s with ⟨_, heq⟩ | ⟨_, heq⟩ <;> rw [doWork, heq]
    · exact .of_table rfl
    · exact .of_entry rfl

/-- A live entry keeps its bank: a commit loads a bank that no live entry is bound to (R94, R96). -/
theorem doWork_bankOf {w : AdvanceWork} (fixed : Option (List Slot)) (he : entryAt slot s = some e) (hlive : isLive e = true) :
    bankOf e.bank (doWork fixed w s).1 = bankOf e.bank s := by
  by_cases hw : w = .mark
  · subst hw
    simp only [doWork]
    split
    · have hunit : bankOf e.bank (pitchMark s) = bankOf e.bank (commitAttempt s) := by cases e.bank <;> rfl
      rw [hunit]
      rcases commitAttempt_cases s with ⟨_, h⟩ | ⟨_, _, h⟩ | ⟨_, _, _, h⟩ | ⟨_, _, hnone, ⟨code, _, h⟩ | ⟨_, h⟩⟩ <;> rw [h]
      · unfold deferCommit
        split <;> cases e.bank <;> rfl
      · unfold deferCommit
        split <;> cases e.bank <;> rfl
      · cases e.bank <;> rfl
      · rw [bound_of_liveCount hnone slot e he hlive]
        have hcommit : (commit s).epochUnit = s.epochUnit.commit := offer_epochUnit _ _
        unfold bankOf
        rw [hcommit, EpochUnit.commit_eq]
        cases s.epochUnit.current <;> simp
    · rfl
  · exact bankOf_congr e.bank (doWork_m fixed hw s).2

end Sys2Proof.Machine
end

section
set_option Elab.async false
/-! PROOFS. The decision of an entry at an advance (R50, R51): one that waits for its decision stays as it is until the table takes
it, once, with the verdict settled then. -/

namespace Sys2Proof.Machine

variable {s t u : State} {slot : Slot} {e d : Entry} {first left : List AdvanceWork} {fixed : Option (List Slot)} {w : AdvanceWork}

/-! ### The walk of a sound line -/

/-- Along the walk of an advance of a sound line the invariant of the line holds, the due actions of the channels whose work is
left excepted. -/
theorem advance_walk_sound {P : List AdvanceWork → Option (List Slot) → State → Prop} (hs : LineSound s)
    (hmay : canAdvance s = true) (first : List AdvanceWork) (start : P advanceWork none (stepForward s))
    (step : ∀ left fixed w u, AdvanceState s left u → u.engine = s.engine → LineInv (channelLeft left) noChannel u → Leftover left →
      workReady u left w = true → w ≠ .drainCompletion → (w ∈ first ∨ w ∈ left) → P left fixed u →
      P (left.erase w ++ (doWork fixed w u).2) (fixDecisions fixed w u) (doWork fixed w u).1) :
    ∃ left fixed u t, exec (.advance first) s = .next t ∧ AdvanceState s left u ∧ u.engine = s.engine ∧
      LineInv (channelLeft left) noChannel u ∧ P left fixed u ∧ WalkEnd left u t := by
  have ht : tracking s = true := (Bool.and_eq_true_iff.1 hmay).1
  obtain ⟨left, fixed, u, t, hexec, hstate, hengine, ⟨hline, hP⟩, hend⟩ := advance_walk hmay first
    (P := fun left fixed u => LineInv (channelLeft left) noChannel u ∧ P left fixed u)
    ⟨(lineSound_iff.1 hs).2.2.stepForward.mono (fun n _ => List.mem_append_left _ (List.mem_append_left _
      (List.mem_map_of_mem (mem_allChannels n)))) fun _ => id, start⟩
    fun left fixed w u hstate hengine hleft hready hdrain hnamed ⟨hline, hP⟩ =>
      ⟨hline.doWork (by rw [tracking_congr (congrArg Engine.state hengine), ht]) fixed w,
        step left fixed w u hstate hengine hline hleft hready hdrain hnamed hP⟩
  exact ⟨left, fixed, u, t, hexec, hstate, hengine, hline, hP, hend⟩

theorem TableInv.not_done (h : TableInv s) (he : entryAt slot s = some e) (hlive : isLive e = true) : slot ∉ s.table.doneList := by
  rw [h.doneList]
  rintro ⟨d, hd, hdone⟩
  rw [Option.some.inj (hd.symm.trans he), hlive] at hdone
  cases hdone

/-- A live entry outlasts what ends an advance: no drain is over while it lives, and the posting is for entries in DONE. -/
theorem WalkEnd.of_live (h : WalkEnd left u t) (htable : TableInv u) (he : entryAt slot u = some e) (hlive : isLive e = true) :
    left = [.drainCompletion] ∧ t = settlePosts u ∧ entryAt slot t = some e := by
  have hposts : entryAt slot (settlePosts u) = some e := (settlePosts_entryAt_other (htable.not_done he hlive)).trans he
  rcases h with ⟨hleft, _, rfl⟩ | ⟨hdone, _⟩
  · rw [settleDrain_of_drainOpen (drainOpen_of_live (findEntry_mem hposts) hlive)]
    exact ⟨hleft, rfl, hposts⟩
  · have hnone := (liveEntries_eq_zero_iff u).1 ((drainDone_iff u).1 hdone).2.1 _ (findEntry_mem he)
    exact absurd hnone (by simpa [isLive] using hlive)

/-! ### The positions of an entry -/

/-- The positions of an entry are told by its bank, its lane and its leading position. -/
theorem positions_congr (hbank : d.bank = e.bank) (hlane : d.lane = e.lane) (hleading : d.leading = e.leading)
    (hkept : bankOf e.bank u = bankOf e.bank s) :
    laneProfileOf d u = laneProfileOf e s ∧ decisionPosition d u = decisionPosition e s ∧ exitPosition d u = exitPosition e s := by
  have hprofile : laneProfileOf d u = laneProfileOf e s := by
    unfold laneProfileOf
    rw [hbank, hkept]
    exact congrArg (fun l : Lane => (bankOf e.bank s).lanes[l]) hlane
  rw [decisionPosition, decisionPosition, exitPosition, exitPosition, hprofile, hleading]
  exact ⟨rfl, rfl, rfl⟩

theorem Retouched.positions (h : Retouched e d) (hkept : bankOf e.bank u = bankOf e.bank s) :
    laneProfileOf d u = laneProfileOf e s ∧ decisionPosition d u = decisionPosition e s ∧ exitPosition d u = exitPosition e s := by
  obtain ⟨_, hlane, _, _, hbank, hleading, _⟩ := h.same
  exact positions_congr hbank hlane hleading hkept

/-! ### Waiting for a decision -/

/-- The table has still to take the decision of the entry in a slot. -/
def DecisionWaits (slot : Slot) (left : List AdvanceWork) (fixed : Option (List Slot)) : Prop :=
  .decisions ∈ left ∧ ∀ l, fixed = some l → slot ∈ l

theorem DecisionWaits.start (slot : Slot) : DecisionWaits slot advanceWork none := ⟨by decide, fun _ h => nomatch h⟩

theorem DecisionWaits.mem (h : DecisionWaits slot left fixed) (htable : TableInv u) (he : entryAt slot u = some e)
    (hdue : decisionDue e u = true) : slot ∈ decisionsLeft fixed u := by
  cases fixed with
  | some l => exact h.2 l rfl
  | none =>
    refine (mem_dueDecisions u slot).2 ⟨List.mem_flatMap.2 ⟨e.lane, List.mem_finRange e.lane, ?_⟩, e, he, hdue⟩
    refine (htable.laneList e.lane slot).2 ⟨e, he, rfl, ?_⟩
    rcases decisionDue_state hdue with h | h <;> simp [isLive, h]

/-- A decision that a piece of work does not take is still to be taken after it. -/
theorem DecisionWaits.step (h : DecisionWaits slot left fixed) (hmem : slot ∈ decisionsLeft fixed u)
    (hnot : slot ∉ decisionsTaken fixed w u) :
    DecisionWaits slot (left.erase w ++ (doWork fixed w u).2) (fixDecisions fixed w u) := by
  have hw : w ≠ .decisions := fun hw => hnot (by rwa [hw])
  refine ⟨(mem_left_iff (Ne.symm hw) (not_mem_follows (by simp) (by simp) fixed w u)).2 h.1, ?_⟩
  by_cases hone : w = .decision
  · subst hone
    cases hlist : decisionsLeft fixed u with
    | nil => simp [hlist] at hmem
    | cons k rest =>
      rw [(fixDecisions_decision u hlist).1]
      intro l hl
      obtain rfl := Option.some.inj hl
      rw [hlist] at hmem
      simp only [decisionsTaken, hlist, List.take_succ_cons, List.take_zero, List.mem_singleton] at hnot
      exact (List.mem_cons.1 hmem).resolve_left hnot
  · rw [fixDecisions_other u fixed hone]
    exact h.2

/-! ### The decision itself (R50) -/

/-- An entry has had its decision, with LATE_START and SCHEDULE_FULL as its placements give them. -/
structure Decided (v : Verdict) (late full : Bool) (e d : Entry) : Prop where
  entry : d = { e with state := .scheduled, verdict := some v, flags := d.flags, fired := d.fired }
  gains : Gains e.flags d.flags e.fired d.fired
  placed : d.flags.lateStart = (e.flags.lateStart || late) ∧ d.flags.scheduleFull = (e.flags.scheduleFull || full)

theorem Decided.retouched {v : Verdict} {late full : Bool} {c : Entry} (h : Decided v late full e d) (h' : Retouched d c) :
    Decided v late full e c where
  entry := by rw [h'.entry, h.entry]
  gains := h.gains.trans h'.gains
  placed := ⟨h'.placed.1.trans h.placed.1, h'.placed.2.trans h.placed.2⟩

theorem Retouched.decided {v : Verdict} {late full : Bool} {c : Entry} (h : Retouched e d) (h' : Decided v late full d c) :
    Decided v late full e c where
  entry := by rw [h'.entry, h.entry]
  gains := h.gains.trans h'.gains
  placed := ⟨by rw [h'.placed.1, h.placed.1], by rw [h'.placed.2, h.placed.2]⟩

theorem Decided.same {v : Verdict} {late full : Bool} (h : Decided v late full e d) : d.state = .scheduled ∧ d.verdict = some v ∧
    d.lane = e.lane ∧ d.tag = e.tag ∧ d.epoch = e.epoch ∧ d.bank = e.bank ∧ d.leading = e.leading ∧ d.length = e.length := by
  rw [h.entry]
  exact ⟨rfl, rfl, rfl, rfl, rfl, rfl, rfl, rfl⟩

theorem Decided.positions {v : Verdict} {late full : Bool} (h : Decided v late full e d)
    (hkept : bankOf e.bank u = bankOf e.bank s) :
    laneProfileOf d u = laneProfileOf e s ∧ decisionPosition d u = decisionPosition e s ∧ exitPosition d u = exitPosition e s := by
  obtain ⟨_, _, hlane, _, _, hbank, hleading, _⟩ := h.same
  exact positions_congr hbank hlane hleading hkept

theorem Placements.entryAt {late missed full : Bool} {l : List Action} (h : Placements slot late missed full l s t)
    (he : entryAt slot s = some e) : Machine.entryAt slot t = some { e with flags := { e.flags with
      lateStart := e.flags.lateStart || late, missed := e.flags.missed || missed,
      scheduleFull := e.flags.scheduleFull || full } } := by
  rw [h.entry, he]
  rfl

theorem setsFlags_placed (late full : Bool) : SetsFlags (fun f => { f with
    lateStart := f.lateStart || late, scheduleFull := f.scheduleFull || full }) := fun x =>
  EntryFlags.bits_subset id id (by simp +contextual) id id id id id (by simp +contextual) id

/-- The entry that a decision makes, its actions still to place. -/
def scheduledEntry (e : Entry) (s : State) : Entry := { e with state := .scheduled, verdict := some (settledVerdict e s) }

theorem takeDecision_eq (he : entryAt slot s = some e) (hdue : decisionDue e s = true) :
    takeDecision slot s = placeVerdictActions slot (scheduledEntry e s) (settledVerdict e s).cls
      (setEntry slot (scheduledEntry e s) s) := by
  rcases takeDecision_cases s slot with ⟨hnot, _⟩ | ⟨x, hx, _, heq⟩
  · rw [hnot e he] at hdue
    cases hdue
  · obtain rfl := Option.some.inj (hx.symm.trans he)
    exact heq

theorem takeDecision_decided (he : entryAt slot s = some e) (hdue : decisionDue e s = true) :
    ∃ late full d, entryAt slot (takeDecision slot s) = some d ∧ Decided (settledVerdict e s) late full e d := by
  have hset : entryAt slot (setEntry slot (scheduledEntry e s) s) = some (scheduledEntry e s) :=
    (entryAt_setEntry _ _ _ _).trans (if_pos rfl)
  have hplaced := (placeVerdictActions_placements slot (scheduledEntry e s) (settledVerdict e s).cls
    (setEntry slot (scheduledEntry e s) s)).entryAt hset
  rw [Bool.or_false] at hplaced
  rw [takeDecision_eq he hdue]
  exact ⟨_, _, _, hplaced, rfl, ⟨setsFlags_placed _ _ e.flags, BitVec.and_self⟩, rfl, rfl⟩

theorem Decided.not_due {v : Verdict} {late full : Bool} (h : Decided v late full e d) (s : State) : decisionDue d s = false := by
  simp [decisionDue, h.same.1]

theorem settledVerdict_congr (hunit : t.epochUnit = s.epochUnit) (e : Entry) : settledVerdict e t = settledVerdict e s := by
  rw [settledVerdict, settledVerdict, laneProfileOf, laneProfileOf, bankOf_congr e.bank hunit]

theorem takeDecisions_decided {slots : List Slot} (hmem : slot ∈ slots) (he : entryAt slot s = some e)
    (hdue : decisionDue e s = true) :
    ∃ late full d, entryAt slot (takeDecisions slots s) = some d ∧ Decided (settledVerdict e s) late full e d := by
  induction slots generalizing s with
  | nil => cases hmem
  | cons k slots ih =>
    rw [takeDecisions_cons]
    by_cases hne : slot = k
    · subst hne
      obtain ⟨late, full, d, hd, hdecided⟩ := takeDecision_decided he hdue
      refine ⟨late, full, d, ?_, hdecided⟩
      rw [takeDecisions_entryAt_other slots (.inr fun c hc => ?_), hd]
      rw [Option.some.inj (hc.symm.trans hd)]
      exact hdecided.not_due _
    · have hunit := takeDecision_epochUnit s k
      have hmotion := congrArg Motion.h (takeDecision_motion s k)
      have h := ih ((List.mem_cons.1 hmem).resolve_left hne) ((takeDecision_entryAt_other hne s).trans he)
        (by rw [decisionDue_congr hunit hmotion, hdue])
      rwa [settledVerdict_congr hunit] at h

/-! ### An entry that waits, through one piece of work -/

theorem doWork_decided (hmem : slot ∈ decisionsTaken fixed w u) (he : entryAt slot u = some e) (hdue : decisionDue e u = true) :
    ∃ late full d, entryAt slot (doWork fixed w u).1 = some d ∧ Decided (settledVerdict e u) late full e d := by
  have hw : w = .decisions ∨ w = .decision := by
    cases w with
    | decisions => exact .inl rfl
    | decision => exact .inr rfl
    | _ => simp [decisionsTaken] at hmem
  rw [doWork_of_decisions hw]
  exact takeDecisions_decided hmem he hdue

/-- A confirmed entry whose exit is not due goes on in its slot where its decision is not taken. -/
theorem doWork_kept (htable : TableInv u) (he : entryAt slot u = some e) (hopening : e.state ≠ .opening) (hlive : isLive e = true)
    (hdecision : slot ∉ decisionsTaken fixed w u ∨ decisionDue e u = false) (hexit : exitDue e u = false) :
    ∃ d, entryAt slot (doWork fixed w u).1 = some d ∧ Retouched e d := by
  have honly {c : Entry} (hc : entryAt slot u = some c) : c = e := Option.some.inj (hc.symm.trans he)
  exact doWork_slotKept fixed htable.wf (fun l _ c hc _ => by rwa [honly hc])
    (hdecision.imp_right fun h c hc => by rw [honly hc, h]) (fun _ c hc => by rw [honly hc, hexit]) (fun _ => htable.not_done he hlive) e he

/-- A piece of work takes the decision of an entry that waits for it, or leaves the entry waiting. -/
theorem doWork_waiting (htable : TableInv u) (he : entryAt slot u = some e) (hstate : e.state = .tracked ∨ e.state = .held)
    (hwaits : decisionDue e u = true → DecisionWaits slot left fixed) :
    (∃ d, entryAt slot (doWork fixed w u).1 = some d ∧ Retouched e d ∧
      (decisionDue e u = true → DecisionWaits slot (left.erase w ++ (doWork fixed w u).2) (fixDecisions fixed w u))) ∨
    slot ∈ decisionsTaken fixed w u ∧ decisionDue e u = true ∧
      ∃ late full d, entryAt slot (doWork fixed w u).1 = some d ∧ Decided (settledVerdict e u) late full e d := by
  by_cases htaken : slot ∈ decisionsTaken fixed w u ∧ decisionDue e u = true
  · exact .inr ⟨htaken.1, htaken.2, doWork_decided htaken.1 he htaken.2⟩
  · have hnot : slot ∉ decisionsTaken fixed w u ∨ decisionDue e u = false := by
      rw [← Bool.not_eq_true]
      exact not_and_or.1 htaken
    obtain ⟨d, hd, hkept⟩ := doWork_kept htable he (by rcases hstate with h | h <;> simp [h])
      (by rcases hstate with h | h <;> simp [isLive, h]) hnot (by rcases hstate with h | h <;> simp [exitDue, h])
    exact .inl ⟨d, hd, hkept, fun hdue => (hwaits hdue).step ((hwaits hdue).mem htable he hdue) fun hmem => htaken ⟨hmem, hdue⟩⟩

/-- Settles O19: the entry waits until the table takes its decision, and nothing else touches its verdict. -/
theorem decisionSettlesTheVerdict : Obligations.DecisionSettlesTheVerdict := by
  intro first s slot e hs hmay hmem hstate hstays
  have hat : entryAt slot s = some e := entryAt_of_mem hs.table.1 hmem
  have hdueAt {d : Entry} {u : State} {left : List AdvanceWork} (hadvance : AdvanceState s left u) (hd : Retouched e d)
      (hkept : bankOf e.bank u = bankOf e.bank s) :
      decisionDue d u = reached (s.motion.h + 1) (decisionPosition e s) := by
    rw [decisionDue, hd.same.1, hadvance.h, (hd.positions hkept).2.1]
    rcases hstate with h | h <;> simp [h]
  obtain ⟨left, fixed, u, t, hexec, hadvance, _, hline, ⟨hkept, hphase⟩, hend⟩ := advance_walk_sound hs hmay first
    (P := fun left fixed u => bankOf e.bank u = bankOf e.bank s ∧ ∃ d, entryAt slot u = some d ∧
      (Retouched e d ∧ (reached (s.motion.h + 1) (decisionPosition e s) = true → DecisionWaits slot left fixed) ∨
        reached (s.motion.h + 1) (decisionPosition e s) = true ∧ ∃ late full, Decided (settledVerdict e s) late full e d))
    ⟨by cases e.bank <;> rfl, e, hat, .inl ⟨.refl e, fun _ => .start slot⟩⟩
    fun left fixed w u hadvance _ hline hleft hready hdrain _ ⟨hkept, d, hd, hphase⟩ => by
      rcases hphase with ⟨hsame, hwaits⟩ | ⟨hreached, late, full, hdecided⟩
      · obtain ⟨hdstate, _, _, _, hbank, _⟩ := hsame.same
        have hlive : isLive d = true := by rcases hstate with h | h <;> simp [isLive, hdstate, h]
        refine ⟨by rw [← hbank, doWork_bankOf fixed hd hlive, hbank, hkept], ?_⟩
        rw [← hdueAt hadvance hsame hkept] at hwaits ⊢
        rcases doWork_waiting hline.table hd (by rwa [hdstate]) hwaits with ⟨c, hc, hdc, hwaits⟩ | ⟨_, hdue, late, full, c, hc, hdc⟩
        · exact ⟨c, hc, .inl ⟨hsame.trans hdc, hwaits⟩⟩
        · refine ⟨c, hc, .inr ⟨hdue, late, full, ?_⟩⟩
          have hverdict : settledVerdict d u = settledVerdict e s := by
            rw [settledVerdict, settledVerdict, (hsame.positions hkept).1, hsame.same.2.2.2.2.2.2.2]
          exact hverdict ▸ hsame.decided hdc
      · obtain ⟨hdstate, _, _, _, _, hbank, _⟩ := hdecided.same
        have hlive : isLive d = true := by simp [isLive, hdstate]
        obtain ⟨c, hc, hdc⟩ := doWork_kept (fixed := fixed) (w := w) hline.table hd (by simp [hdstate]) hlive
          (.inr (hdecided.not_due u))
          (by rw [exitDue, hadvance.h, (hdecided.positions hkept).2.2, hstays, Bool.and_false])
        exact ⟨by rw [← hbank, doWork_bankOf fixed hd hlive, hbank, hkept], c, hc, .inr ⟨hreached, late, full, hdecided.retouched hdc⟩⟩
  obtain ⟨d, hd, hphase⟩ := hphase
  rcases hphase with ⟨hsame, hwaits⟩ | ⟨hreached, late, full, hdecided⟩
  · obtain ⟨hdstate, hlane, htag, hepoch, hbank, hleading, hlength, hverdict⟩ := hsame.same
    obtain ⟨hleft, _, hdt⟩ := hend.of_live hline.table hd (by rcases hstate with h | h <;> simp [isLive, hdstate, h])
    exact ⟨t, d, hexec, hdt, hlane, htag, hlength, hepoch, hbank, hleading,
      fun hreached => absurd (hwaits hreached).1 (by simp [hleft]), fun _ => ⟨hdstate, hverdict⟩⟩
  · obtain ⟨hdstate, hverdict, hlane, htag, hepoch, hbank, hleading, hlength⟩ := hdecided.same
    obtain ⟨_, _, hdt⟩ := hend.of_live hline.table hd (by simp [isLive, hdstate])
    refine ⟨t, d, hexec, hdt, hlane, htag, hlength, hepoch, hbank, hleading, fun _ => ⟨hdstate, ?_⟩,
      fun hnot => by rw [hreached] at hnot; cases hnot⟩
    rw [hverdict, settledVerdict]
    cases e.verdict <;> rfl

end Sys2Proof.Machine
end

section
set_option Elab.async false
/-! PROOFS. Where the entries of the table come from in the work of an advance: an entry there after a piece of work was there
before it, with its identity, or has opened at the present H on the lane whose edge was taken. -/

namespace Sys2Proof.Machine

variable {s t u : State} {slot : Slot} {e d : Entry} {lanes : Lane → Prop} {h : Word} {bank : Bank}

/-! ### Entries and where they come from -/

/-- The entry has its decision still before it. -/
def Undecided (e : Entry) : Prop := e.state = .opening ∨ e.state = .tracked ∨ e.state = .held

/-- An entry goes on as another; it takes a tag only on one of the lanes named. -/
structure Succeeds (lanes : Lane → Prop) (d e : Entry) : Prop where
  lane : d.lane = e.lane
  bank : d.bank = e.bank
  leading : d.leading = e.leading
  undecided : Undecided e → Undecided d
  opening : e.state = .opening → d.state = .opening
  live : isLive e = true → isLive d = true
  tag : d.tag = e.tag ∨ lanes e.lane

theorem Succeeds.refl (e : Entry) : Succeeds lanes e e := ⟨rfl, rfl, rfl, id, id, id, .inl rfl⟩

/-- Where an entry of a state comes from: an entry that the slot held, or an opening on one of the lanes named, at H and bound to
the bank given. -/
def ComesFrom (lanes : Lane → Prop) (h : Word) (bank : Bank) (s : State) (k : Slot) (e : Entry) : Prop :=
  (∃ d, entryAt k s = some d ∧ Succeeds lanes d e) ∨ lanes e.lane ∧ e.leading = h ∧ e.bank = bank

/-- From s to t entries have come from those of s or have opened, and confirmed counts have changed, on the lanes named alone. -/
structure Ages (lanes : Lane → Prop) (h : Word) (bank : Bank) (s t : State) : Prop where
  entries : ∀ k e, entryAt k t = some e → ComesFrom lanes h bank s k e
  confirmed : ∀ l : Lane, lanes l ∨ t.table.counters[l].confirmed = s.table.counters[l].confirmed

theorem ComesFrom.of_same {k : Slot} (he : entryAt k s = some e) : ComesFrom lanes h bank s k e := .inl ⟨e, he, .refl e⟩

theorem Ages.of_entries (hentries : ∀ k e, entryAt k t = some e → entryAt k s = some e)
    (hcounters : t.table.counters = s.table.counters) : Ages lanes h bank s t where
  entries k e he := .of_same (hentries k e he)
  confirmed l := .inr (by rw [hcounters])

theorem Ages.of_table (htable : t.table = s.table) : Ages lanes h bank s t :=
  .of_entries (fun k e he => by rwa [entryAt, ← htable]) (by rw [htable])

theorem Ages.refl (s : State) : Ages lanes h bank s s := .of_table rfl

theorem Succeeds.trans {c : Entry} (h : Succeeds lanes c d) (h' : Succeeds lanes d e) : Succeeds lanes c e where
  lane := h.lane.trans h'.lane
  bank := h.bank.trans h'.bank
  leading := h.leading.trans h'.leading
  undecided := h.undecided ∘ h'.undecided
  opening := h.opening ∘ h'.opening
  live := h.live ∘ h'.live
  tag := by
    rcases h'.tag with htag | hlane
    · rw [← htag, ← h'.lane]
      exact h.tag
    · exact .inr hlane

theorem Ages.trans (hst : Ages lanes h bank s t) (htu : Ages lanes h bank t u) : Ages lanes h bank s u where
  entries k e he := by
    rcases htu.entries k e he with ⟨d, hd, hde⟩ | hnew
    · rcases hst.entries k d hd with ⟨c, hc, hcd⟩ | ⟨hlane, hleading, hbank⟩
      · exact .inl ⟨c, hc, hcd.trans hde⟩
      · exact .inr ⟨hde.lane ▸ hlane, hde.leading.symm.trans hleading, hde.bank.symm.trans hbank⟩
    · exact .inr hnew
  confirmed l := by
    rcases htu.confirmed l with hl | hl
    · exact .inl hl
    · rw [hl]
      exact hst.confirmed l

theorem Ages.of_amends (hst : Amends s t) : Ages lanes h bank s t where
  entries k e he := by
    cases hd : entryAt k s with
    | none =>
      rw [hst.absent k hd] at he
      cases he
    | some d =>
      obtain ⟨f, fired, hat, _⟩ := hst.present k d hd
      obtain rfl := Option.some.inj (hat.symm.trans he)
      exact .inl ⟨d, hd, rfl, rfl, rfl, id, id, id, .inl rfl⟩
  confirmed l := .inr (by rw [hst.table])

theorem Ages.of_placements {late missed full : Bool} {l : List Action} (hst : Placements slot late missed full l s t) :
    Ages lanes h bank s t where
  entries k e he := by
    by_cases hk : k = slot
    · subst hk
      rw [hst.entry] at he
      obtain ⟨d, hd, rfl⟩ := Option.map_eq_some_iff.1 he
      exact .inl ⟨d, hd, rfl, rfl, rfl, id, id, id, .inl rfl⟩
    · exact .of_same (by rw [← hst.others k hk, he])
  confirmed l := .inr (by rw [hst.frame])

/-- One slot is written and the others keep their entries. -/
theorem Ages.of_slot (hothers : ∀ k ≠ slot, entryAt k t = entryAt k s)
    (hslot : ∀ e, entryAt slot t = some e → ComesFrom lanes h bank s slot e)
    (hconfirmed : ∀ l : Lane, lanes l ∨ t.table.counters[l].confirmed = s.table.counters[l].confirmed) : Ages lanes h bank s t where
  entries k e he := by
    by_cases hk : k = slot
    · exact hk ▸ hslot e (hk ▸ he)
    · exact .of_same (by rw [← hothers k hk, he])
  confirmed := hconfirmed

theorem Ages.setEntry (hd : entryAt slot s = some d) (hde : Succeeds lanes d e) : Ages lanes h bank s (setEntry slot e s) :=
  .of_slot (fun k hk => (entryAt_setEntry s slot k e).trans (if_neg hk))
    (fun x hx => by
      rw [entryAt_setEntry, if_pos rfl] at hx
      exact Option.some.inj hx ▸ .inl ⟨d, hd, hde⟩)
    fun l => .inr rfl

theorem Ages.modifyCounters (l : Lane) {f : LaneCounters → LaneCounters} (hf : lanes l ∨ ∀ c, (f c).confirmed = c.confirmed)
    (s : State) : Ages lanes h bank s (modifyCounters l f s) where
  entries k e he := .of_same he
  confirmed k := by
    have hget : (Machine.modifyCounters l f s).table.counters[k] = if l = k then f s.table.counters[l] else s.table.counters[k] :=
      updateAt_get s.table.counters l f k
    rw [hget]
    split
    · next heq =>
      subst heq
      exact hf.imp_right fun hf => hf _
    · exact .inr rfl

/-! ### The work of the blocks -/

theorem channelAdvance_ages (n : Channel) (s : State) : Ages lanes h bank s (channelAdvance n s) := by
  unfold channelAdvance
  split
  · exact .trans (.of_table (endPulse_table s n)) (.of_amends (settleAll_amends _ _ _))
  · exact .of_amends (settleAll_amends _ _ _)

theorem channelEvent_ages (n : Channel) (s : State) : Ages lanes h bank s (channelEvent n s) := by
  unfold channelEvent
  split
  · exact .of_table (endPulse_table s n)
  · exact .of_amends (settleFirst_amends _ _)

theorem confirm_ages (he : entryAt slot s = some e) (hopening : e.state = .opening) (hlane : lanes e.lane) (length : Half)
    (overlength : Option Class) : Ages lanes h bank s (confirm slot e length overlength s) := by
  rw [confirm_eq]
  have hsucceeds (tag : Half) : Succeeds lanes e (confirmedEntry e tag length overlength) := by
    obtain ⟨hl, _, _, hbank, hnot, _⟩ := confirmedEntry_kept e tag length overlength
    exact ⟨hl.symm, hbank.symm, by cases overlength <;> rfl, fun _ => .inl hopening, fun h => absurd h hnot,
      fun _ => by simp [isLive, hopening], .inr (by rwa [hl])⟩
  exact ((Ages.setEntry he (hsucceeds (confirmTag e.lane s))).trans
    (Ages.modifyCounters e.lane (f := fun c => { c with confirmed := c.confirmed + 1 }) (.inl hlane) _)).trans
    (.of_table (offer_table _ _))

theorem discardEntry_ages (k : Slot) (e : Entry) (s : State) : Ages lanes h bank s (discardEntry k e s) :=
  .of_entries (fun j x hx => by
    rw [entryAt_discardEntry] at hx
    split at hx
    · cases hx
    · exact hx) rfl

theorem measure_ages (he : entryAt slot s = some e) (hopening : e.state = .opening) (hlane : lanes e.lane) (l : Lane)
    (trailing : Word) : Ages lanes h bank s (measure l slot e trailing s) := by
  unfold measure
  dsimp only
  split
  · exact (discardEntry_ages slot e s).trans (.of_table (raise_table _ _ _ _))
  · exact confirm_ages he hopening hlane _ _

variable {l : Lane}

theorem takeTrailing_ages (hwf : s.table.wf = true) (hlane : lanes l) (ed : PendingEdge) :
    Ages lanes h bank s (takeTrailing l ed s) := by
  unfold takeTrailing
  dsimp only
  split
  · next k x _ hopening =>
    obtain ⟨hat, hstate⟩ := openingEntry_entryAt hwf hopening
    have hmeasure : Ages lanes h bank s (measure l k x ed.latched s) :=
      measure_ages hat hstate ((openingEntry_spec hopening).2.1.symm ▸ hlane) l ed.latched
    exact hmeasure.trans (.of_table rfl)
  · exact .of_table rfl

theorem withOpening_ages (hlane : lanes l) {k : Slot} (leading : Word) (s : State) :
    Ages lanes leading s.epochUnit.current s (withOpening k l leading s) :=
  .of_slot (fun j hj => by rw [entryAt_withOpening, if_neg hj])
    (fun x hx => by
      rw [entryAt_withOpening, if_pos rfl] at hx
      exact Option.some.inj hx ▸ .inr ⟨hlane, rfl, rfl⟩)
    fun k => .inr rfl

theorem takeLeading_ages (hlane : lanes l) (ed : PendingEdge) (s : State) :
    Ages lanes ed.latched s.epochUnit.current s (takeLeading l ed s) := by
  have hraise (code : ExceptionCode) : Ages lanes ed.latched s.epochUnit.current s (raise code (some l) none s) :=
    .of_table (raise_table _ _ _ _)
  unfold takeLeading
  split
  · exact (hraise .gapShort).trans (.of_table rfl)
  split
  · exact (hraise .edgeWhileDraining).trans (.of_table rfl)
  split
  · exact ((hraise .tableFull).trans
      (Ages.modifyCounters l (f := fun c => { c with dropped := c.dropped + 1 }) (.inr fun _ => rfl) _)).trans (.of_table rfl)
  · next k _ =>
    rw [openEntry_eq]
    exact (withOpening_ages hlane ed.latched s).trans (.of_placements (placeItemActions_placements k _ _))

theorem takeEdge_ages (hwf : s.table.wf = true) (hlane : lanes l) (ed : PendingEdge) :
    Ages lanes ed.latched s.epochUnit.current s (takeEdge l ed s) := by
  have hclear : Ages lanes ed.latched s.epochUnit.current s (modifyDetector l ({ · with edge := none }) s) := .of_table rfl
  unfold takeEdge
  dsimp only
  split
  · exact hclear.trans (takeTrailing_ages (s := modifyDetector l ({ · with edge := none }) s) hwf hlane ed)
  · exact hclear.trans (takeLeading_ages hlane ed (modifyDetector l ({ · with edge := none }) s))

theorem rawChange_ages (hwf : s.table.wf = true) (hlane : lanes l) :
    Ages lanes s.motion.h s.epochUnit.current s (rawChange l s) := by
  unfold rawChange
  split
  · exact .refl s
  split
  · exact .of_table rfl
  · unfold createEdge
    dsimp only
    split
    · exact takeEdge_ages hwf hlane (newEdge l s)
    · exact .of_table rfl

theorem detectorAdvance_ages (hwf : s.table.wf = true) (hlane : lanes l) : Ages lanes h bank s (detectorAdvance l s) := by
  unfold detectorAdvance
  dsimp only
  split
  · split
    · exact .of_table rfl
    · exact .refl s
  · next k x _ hopening =>
    obtain ⟨hat, hstate⟩ := openingEntry_entryAt hwf hopening
    split
    · have hconfirm : Ages lanes h bank s (confirm k x (laneProfileOf x s).maxLength (some (laneProfileOf x s).overlengthClass) s) :=
        confirm_ages hat hstate ((openingEntry_spec hopening).2.1.symm ▸ hlane) _ _
      exact hconfirm.trans (.of_table rfl)
    · exact .refl s
  · exact .refl s

theorem takeDecision_ages (k : Slot) (s : State) : Ages lanes h bank s (takeDecision k s) := by
  rcases takeDecision_cases s k with ⟨_, heq⟩ | ⟨x, hx, hdue, _⟩
  · rw [heq]
    exact .refl s
  · rw [takeDecision_eq hx hdue]
    have hlive : isLive x = true := by rcases decisionDue_state hdue with h | h <;> simp [isLive, h]
    exact (Ages.setEntry (e := scheduledEntry x s) hx
      ⟨rfl, rfl, rfl, fun _ => .inr (decisionDue_state hdue), (fun h => nomatch h), fun _ => hlive, .inl rfl⟩).trans
      (.of_placements (placeVerdictActions_placements k (scheduledEntry x s) _ _))

theorem takeDecisions_ages (slots : List Slot) (s : State) : Ages lanes h bank s (takeDecisions slots s) := by
  induction slots generalizing s with
  | nil => exact .refl s
  | cons k slots ih => exact (takeDecision_ages k s).trans (ih _)

theorem not_undecided_of_state (hstate : e.state = .scheduled ∨ e.state = .done) : ¬ Undecided e := by
  rintro (h | h | h) <;> rcases hstate with h' | h' <;> rw [h] at h' <;> cases h'

theorem takeExit_ages (he : entryAt slot s = some e) : Ages lanes h bank s (takeExit slot e s) :=
  .of_slot (fun k hk => by rw [entryAt_takeExit, if_neg hk])
    (fun x hx => by
      rw [entryAt_takeExit, if_pos rfl] at hx
      obtain rfl := Option.some.inj hx
      exact .inl ⟨e, he, rfl, rfl, rfl, fun hnot => absurd hnot (not_undecided_of_state (.inr rfl)), (fun h => nomatch h),
        (fun h => nomatch h), .inl rfl⟩)
    fun l => .inr (by rw [takeExit_eq])

theorem foldl_takeExit_ages (l : List (Slot × Entry)) (hnodup : (l.map (·.1)).Nodup) (s : State)
    (hl : ∀ x ∈ l, entryAt x.1 s = some x.2) : Ages lanes h bank s (l.foldl (fun s x => takeExit x.1 x.2 s) s) := by
  induction l generalizing s with
  | nil => exact .refl s
  | cons x l ih =>
    rw [List.map_cons, List.nodup_cons] at hnodup
    refine (takeExit_ages (hl x List.mem_cons_self)).trans (ih hnodup.2 _ fun y hy => ?_)
    rw [entryAt_takeExit, if_neg fun heq => hnodup.1 (List.mem_map.2 ⟨y, hy, heq⟩)]
    exact hl y (List.mem_cons_of_mem _ hy)

theorem postOutcome_ages (s : State) : Ages lanes h bank s (postOutcome s) := by
  rcases postOutcome_cases s with ⟨_, heq⟩ | ⟨_, heq⟩ | ⟨k, rest, _, _, ⟨_, heq⟩ | ⟨x, _, heq⟩⟩ <;> rw [heq]
  · exact .refl s
  · exact .refl s
  · exact .of_entries (fun _ _ => id) rfl
  · have hdrop : Ages lanes h bank s { s with table := { s.table with entries := dropEntry k s.table.entries } } :=
      .of_entries (fun j y hy => by
        have hget := findEntry_dropEntry k j s.table.entries
        rw [entryAt, hget] at hy
        split at hy
        · cases hy
        · exact hy) rfl
    exact (hdrop.trans (Ages.modifyCounters x.lane (f := fun c => { c with outcomes := c.outcomes + 1 }) (.inr fun _ => rfl) _)).trans
      (.of_entries (fun _ _ => id) rfl)

theorem serveDone_ages (s : State) : Ages lanes h bank s (serveDone s) := by
  have key : ∀ (n : Nat) (u : State), Ages lanes h bank u (postOutcomes n u) := by
    intro n
    induction n with
    | zero => exact fun u => .refl u
    | succ n ih => exact fun u => (postOutcome_ages u).trans (ih _)
  exact key _ s

theorem settlePosts_ages (s : State) : Ages lanes h bank s (settlePosts s) := by
  rcases settlePosts_cases s with ⟨_, heq⟩ | ⟨_, heq⟩ <;> rw [heq]
  · exact serveDone_ages s
  · exact .refl s

theorem takeExits_ages (hwf : s.table.wf = true) : Ages lanes h bank s (takeExits s) :=
  (foldl_takeExit_ages _ (leavingEntries_nodup hwf) s fun _ hx => (mem_leavingEntries_entryAt hwf hx).1).trans (settlePosts_ages _)

theorem takeNextExit_ages (hwf : s.table.wf = true) : Ages lanes h bank s (takeNextExit s) := by
  rcases takeNextExit_cases s with ⟨_, heq⟩ | ⟨x, rest, hlist, heq⟩ <;> rw [heq]
  · exact .refl s
  · exact takeExit_ages (mem_leavingEntries_entryAt hwf (hlist ▸ List.mem_cons_self)).1

/-- The lanes on which a piece of work takes an edge or an overlength. -/
def lanesOf (w : AdvanceWork) (l : Lane) : Prop := w = .detector l ∨ w = .levelChange l

theorem doWork_ages (fixed : Option (List Slot)) (w : AdvanceWork) (hwf : s.table.wf = true) :
    Ages (lanesOf w) s.motion.h s.epochUnit.current s (doWork fixed w s).1 := by
  cases w with
  | channel n => exact channelAdvance_ages n s
  | channelEvent n => exact channelEvent_ages n s
  | detector l => exact detectorAdvance_ages hwf (.inl rfl)
  | decisions => exact takeDecisions_ages _ s
  | decision => exact takeDecisions_ages _ s
  | exits => exact takeExits_ages hwf
  | exit => exact takeNextExit_ages hwf
  | posts => exact serveDone_ages s
  | mark =>
    simp only [doWork]
    split
    · exact .of_table (pitchMark_table s)
    · exact .refl s
  | pitchActions => exact .of_table (placePitchActions_table s _)
  | levelChange l => exact rawChange_ages hwf (.inr rfl)
  | drainCompletion =>
    rcases completeDrain_cases s with ⟨_, heq⟩ | ⟨_, heq⟩ <;> rw [doWork, heq]
    · exact .of_table rfl
    · exact .refl s

end Sys2Proof.Machine
end

section
set_option Elab.async false
/-! PROOFS. An item at its max length (R34): its lane's detector confirms it at the advance that finds it beyond, and nothing else
of that advance touches it or its lane. -/

namespace Sys2Proof.Machine

variable {s t u : State} {slot : Slot} {e d : Entry} {l : Lane} {left : List AdvanceWork} {fixed : Option (List Slot)}
  {w : AdvanceWork}

theorem EntryFlags.bits_overlength (f : EntryFlags) : f.bits.getLsbD 0 = f.overlength := by
  have hbit (b : Bool) (v : Half) (i : Nat) : (if b then v else 0).getLsbD i = (b && v.getLsbD i) := by cases b <;> simp
  simp only [EntryFlags.bits, BitVec.getLsbD_or, hbit]
  simp

theorem Retouched.overlength (h : Retouched d e) (hd : d.flags.overlength = true) : e.flags.overlength = true := by
  have hbits := congrArg (·.getLsbD 0) h.gains.1
  simp only [BitVec.getLsbD_and, EntryFlags.bits_overlength, hd, Bool.true_and] at hbits
  exact hbits

/-! ### What a lane shows -/

/-- From s to t a lane has confirmed nothing: its confirmed count stays, and its tags are those it had. -/
structure LaneKept (l : Lane) (s t : State) : Prop where
  confirmed : t.table.counters[l].confirmed = s.table.counters[l].confirmed
  tags : ∀ k e, entryAt k t = some e → e.lane = l → e.tag ≠ none → ∃ d, entryAt k s = some d ∧ d.lane = l ∧ d.tag = e.tag

theorem LaneKept.of_table (h : t.table = s.table) : LaneKept l s t where
  confirmed := by rw [h]
  tags _ e he hl _ := ⟨e, by rwa [entryAt, ← h], hl, rfl⟩

theorem LaneKept.trans (h : LaneKept l s t) (h' : LaneKept l t u) : LaneKept l s u where
  confirmed := h'.confirmed.trans h.confirmed
  tags k e he hl htag := by
    obtain ⟨d, hd, hdl, hdtag⟩ := h'.tags k e he hl htag
    obtain ⟨c, hc, hcl, hctag⟩ := h.tags k d hd hdl (hdtag ▸ htag)
    exact ⟨c, hc, hcl, hctag.trans hdtag⟩

theorem Ages.laneKept {lanes : Lane → Prop} {h : Word} {bank : Bank} (hst : Ages lanes h bank s t) (hl : ¬ lanes l) :
    LaneKept l s t where
  confirmed := (hst.confirmed l).resolve_left hl
  tags k e he hlane _ := by
    rcases hst.entries k e he with ⟨d, hd, hde⟩ | ⟨hopened, _⟩
    · exact ⟨d, hd, hde.lane.trans hlane, hde.tag.resolve_right (hlane ▸ hl)⟩
    · exact absurd hopened (hlane ▸ hl)

/-! ### The confirmation of an overlength item -/

/-- An entry has been confirmed as overlength since s, with its lane's detector in BLOCKED (R34). -/
def OverlengthSince (s : State) (l : Lane) (slot : Slot) (e : Entry) (p : LaneProfile) (u : State) : Prop :=
  ∃ tag c d, Retouched e c ∧ entryAt slot u = some d ∧
    Retouched (confirmedEntry c tag p.maxLength (some p.overlengthClass)) d ∧
    detectorOf l u = { detectorOf l s with state := .blocked, nextTag := tag + 1 } ∧
    ((∀ x ∈ s.table.entries, x.2.lane = l → x.2.tag ≠ some (detectorOf l s).nextTag) → tag = (detectorOf l s).nextTag) ∧
    u.table.counters[l].confirmed = s.table.counters[l].confirmed + 1 ∧
    Offered (.detect l tag e.epoch e.leading p.maxLength true) s u

/-- An OPENING entry as it was in s, on a lane as it was. -/
def OpenSince (s : State) (l : Lane) (slot : Slot) (e : Entry) (u : State) : Prop :=
  (∃ d, entryAt slot u = some d ∧ Retouched e d) ∧ detectorOf l u = detectorOf l s ∧ LaneKept l s u

theorem nextFreeTag_of_free (h : tagFree l tag s = true) (fuel : Nat) : nextFreeTag l s (fuel + 1) tag = tag := if_pos h

/-- Its lane's detector leaves an OPENING entry within its max length, and confirms one beyond it. -/
theorem detectorAdvance_opening (htable : TableInv u) (hd : entryAt slot u = some d) (hlane : d.lane = l)
    (hopening : d.state = .opening) :
    detectorAdvance l u = if (laneProfileOf d u).maxLength.toNat < (u.motion.h - d.leading).toNat then takeOverlength l slot d u
      else u := by
  have hsound := (tableInv_iff.1 htable).1
  have hcovered := (openingCount_eq_one hsound (findEntry_mem hd) hlane hopening).2
  have hentry := openingEntry_eq hsound (findEntry_mem hd) hlane hopening
  unfold detectorAdvance
  simp only [hcovered, hentry]

/-- The table with an overlength item confirmed in it, the DETECT record still to offer. -/
def overlengthTable (slot : Slot) (d : Entry) (s : State) : State :=
  let p := laneProfileOf d s
  modifyCounters d.lane (fun c => { c with confirmed := c.confirmed + 1 })
    (setEntry slot (confirmedEntry d (confirmTag d.lane s) p.maxLength (some p.overlengthClass)) s)

theorem takeOverlength_eq (slot : Slot) (d : Entry) (s : State) : takeOverlength d.lane slot d s =
    modifyDetector d.lane (fun x => { x with state := .blocked, nextTag := confirmTag d.lane s + 1 })
      (offer (.detect d.lane (confirmTag d.lane s) d.epoch d.leading (laneProfileOf d s).maxLength true)
        (overlengthTable slot d s)) := by
  rw [takeOverlength, confirm_eq, goTo, modifyDetector_modifyDetector]
  rfl

theorem takeOverlength_entryAt (slot : Slot) (d : Entry) (s : State) : entryAt slot (takeOverlength d.lane slot d s) =
    some (confirmedEntry d (confirmTag d.lane s) (laneProfileOf d s).maxLength (some (laneProfileOf d s).overlengthClass)) := by
  rw [takeOverlength_eq]
  show findEntry slot (offer _ (overlengthTable slot d s)).table.entries = _
  rw [offer_table]
  exact (entryAt_setEntry s slot slot _).trans (if_pos rfl)

theorem OpenSince.overlength (h : OpenSince s l slot e u) (htable : TableInv u) (hlane : e.lane = l)
    (hkept : Retouched e d) (heffects : Effects True True s u) :
    OverlengthSince s l slot e (laneProfileOf d u) (takeOverlength l slot d u) := by
  obtain ⟨_, hdetector, hlanes⟩ := h
  obtain ⟨_, hdlane, _, hepoch, _, hleading, _⟩ := hkept.same
  obtain rfl : d.lane = l := hdlane.trans hlane
  refine ⟨confirmTag d.lane u, d, _, hkept, takeOverlength_entryAt slot d u, .refl _, ?_, fun htags => ?_, ?_, ?_⟩
  · rw [takeOverlength_eq, detectorOf_modifyDetector, if_pos rfl, ← hdetector, detectorOf, detectorOf, offer_detectors]
    rfl
  · rw [confirmTag, hdetector]
    refine nextFreeTag_of_free ((tagFree_iff d.lane _ u).2 fun x hx hxlane hxtag => ?_) 256
    obtain ⟨y, hy, hylane, hytag⟩ := hlanes.tags x.1 x.2 (entryAt_of_mem htable.wf hx) hxlane (by rw [hxtag]; simp)
    exact htags _ (findEntry_mem hy) hylane (hytag.trans hxtag)
  · rw [takeOverlength_eq]
    show (offer _ (overlengthTable slot d u)).table.counters[d.lane].confirmed = _
    rw [offer_table, ← hlanes.confirmed]
    exact congrArg LaneCounters.confirmed ((updateAt_get _ _ _ _).trans (if_pos rfl))
  · rw [takeOverlength_eq, ← hepoch, ← hleading]
    exact Offered.before heffects (offer_offered rfl (overlengthTable slot d u))

theorem OverlengthSince.entry {p : LaneProfile} (h : OverlengthSince s l slot e p u) : ∃ tag d, entryAt slot u = some d ∧
    d.state = .held ∧ d.lane = e.lane ∧ d.epoch = e.epoch ∧ d.bank = e.bank ∧ d.leading = e.leading ∧ d.tag = some tag ∧
    d.length = some p.maxLength ∧ d.verdict = some { cls := p.overlengthClass, source := .forced } ∧
    d.flags.overlength = true ∧ detectorOf l u = { detectorOf l s with state := .blocked, nextTag := tag + 1 } ∧
    ((∀ x ∈ s.table.entries, x.2.lane = l → x.2.tag ≠ some (detectorOf l s).nextTag) → tag = (detectorOf l s).nextTag) ∧
    u.table.counters[l].confirmed = s.table.counters[l].confirmed + 1 ∧
    Offered (.detect l tag e.epoch e.leading p.maxLength true) s u := by
  obtain ⟨tag, c, d, hc, hd, hcd, hdetector, htag, hconfirmed, hoffered⟩ := h
  obtain ⟨hstate, hlane, hdtag, hepoch, hbank, hleading, hlength, hverdict⟩ := hcd.same
  obtain ⟨_, hclane, _, hcepoch, hcbank, hcleading, _⟩ := hc.same
  exact ⟨tag, d, hd, hstate, hlane.trans hclane, hepoch.trans hcepoch, hbank.trans hcbank, hleading.trans hcleading, hdtag, hlength,
    hverdict, hcd.overlength rfl, hdetector, htag, hconfirmed, hoffered⟩

/-- Once the item is confirmed, work that leaves its entry and its lane leaves all of that. -/
theorem OverlengthSince.kept {p : LaneProfile} (h : OverlengthSince s l slot e p u) (hslot : SlotKept slot u t)
    (hdetector : detectorOf l t = detectorOf l u) (hlanes : LaneKept l u t) (heffects : Effects True True u t) :
    OverlengthSince s l slot e p t := by
  obtain ⟨tag, c, d, hc, hd, hcd, hdet, htag, hconfirmed, hoffered⟩ := h
  obtain ⟨x, hx, hdx⟩ := hslot d hd
  exact ⟨tag, c, x, hc, hx, hcd.trans hdx, hdetector.trans hdet, htag, hlanes.confirmed.trans hconfirmed, hoffered.after heffects⟩

theorem OpenSince.kept (h : OpenSince s l slot e u) (hslot : SlotKept slot u t) (hdetector : detectorOf l t = detectorOf l u)
    (hlanes : LaneKept l u t) : OpenSince s l slot e t := by
  obtain ⟨⟨d, hd, hkept⟩, hdet, hlane⟩ := h
  obtain ⟨x, hx, hdx⟩ := hslot d hd
  exact ⟨⟨x, hx, hkept.trans hdx⟩, hdetector.trans hdet, hlane.trans hlanes⟩

/-- Work on other lanes leaves a lane, and what it has open or confirmed. -/
theorem doWork_laneKept (fixed : Option (List Slot)) (hwf : u.table.wf = true) (hw : ¬ lanesOf w l) (hdrain : w ≠ .drainCompletion) :
    detectorOf l (doWork fixed w u).1 = detectorOf l u ∧ LaneKept l u (doWork fixed w u).1 :=
  ⟨doWork_detector fixed (fun h => hw (.inl h)) (fun h => hw (.inr h)) hdrain u, (doWork_ages fixed w hwf).laneKept hw⟩

/-- An entry whose decision and exit are not due goes on in its slot through work on other lanes. -/
theorem doWork_slotKept_other (fixed : Option (List Slot)) (htable : TableInv u) (hd : entryAt slot u = some d)
    (hlive : isLive d = true) (hw : d.state = .opening → ¬ lanesOf w d.lane) (hdecision : decisionDue d u = false)
    (hexit : exitDue d u = false) : SlotKept slot u (doWork fixed w u).1 := by
  have honly {c : Entry} (hc : entryAt slot u = some c) : c = d := Option.some.inj (hc.symm.trans hd)
  exact doWork_slotKept fixed htable.wf (fun k hk c hc hlane hopening => by
      obtain rfl := honly hc
      exact hw hopening (hlane ▸ hk))
    (.inr fun c hc => by rw [honly hc, hdecision]) (fun _ c hc => by rw [honly hc, hexit]) (fun _ => htable.not_done hd hlive)

theorem settlePosts_laneKept (l : Lane) (s : State) : LaneKept l s (settlePosts s) :=
  Ages.laneKept (lanes := fun _ => False) (h := 0) (bank := .a) (settlePosts_ages s) id

theorem detector_mem_advanceWork (l : Lane) : .detector l ∈ advanceWork := by fin_cases l <;> decide

theorem levelChange_not_mem_advanceWork (l : Lane) : .levelChange l ∉ advanceWork := by fin_cases l <;> decide

/-- Settles O18: until its lane's own work the entry is OPENING on a lane as it was, and after it confirmed where it is beyond its
max length. -/
theorem overlengthIsConfirmedWithAForcedVerdict : Obligations.OverlengthIsConfirmedWithAForcedVerdict := by
  intro first s l slot e hs hmay hlevel hmem hlane hopening hdecision
  have hat : entryAt slot s = some e := entryAt_of_mem hs.table.1 hmem
  dsimp only
  generalize hp : laneProfileOf e s = p
  let beyond : Prop := p.maxLength.toNat < (s.motion.h + 1 - e.leading).toNat
  obtain ⟨left, fixed, u, t, hexec, hadvance, _, hline, ⟨hkept, _, heffects, hphase⟩, hend⟩ := advance_walk_sound hs hmay first
    (P := fun left _ u => bankOf e.bank u = bankOf e.bank s ∧ .levelChange l ∉ left ∧ Effects True True s u ∧
      (OpenSince s l slot e u ∧ (beyond → .detector l ∈ left) ∨ beyond ∧ OverlengthSince s l slot e p u ∧ .detector l ∉ left))
    ⟨by cases e.bank <;> rfl, levelChange_not_mem_advanceWork l, .then (.refl s) (.motion (stepForward s).motion ⟨rfl, rfl, rfl, rfl⟩),
      .inl ⟨⟨⟨e, hat, .refl e⟩, rfl, .of_table rfl⟩, fun _ => detector_mem_advanceWork l⟩⟩
    fun left fixed w u hadvance _ hline hleft hready hdrain _ ⟨hkept, hnone, heffects, hphase⟩ => by
      have hnext := hadvance.no_levelChange (fixed := fixed) hready hlevel hnone
      have hwork : Effects True True u (doWork fixed w u).1 := doWork_effects fixed w trivial fun _ => hline.table.wf
      have hwlevel : w ≠ .levelChange l := fun h => hnone (levelChange_ready (h ▸ hready))
      have hfollow := not_mem_follows (x := .detector l) (by simp) (by simp) fixed w u
      rcases hphase with ⟨hopen, hwaits⟩ | ⟨hbeyond, hsince, hdone⟩
      · obtain ⟨⟨d, hd, hsame⟩, _⟩ := id hopen
        obtain ⟨hstate, hdlane, _, _, hbank, hleading, _⟩ := hsame.same
        obtain ⟨hprofile, _⟩ := hsame.positions hkept
        rw [hp] at hprofile
        have hlive : isLive d = true := by simp [isLive, hstate, hopening]
        refine ⟨by rw [← hbank, doWork_bankOf fixed hd hlive, hbank, hkept], hnext, heffects.trans hwork, ?_⟩
        by_cases hw : w = .detector l
        · subst hw
          have hstep := detectorAdvance_opening hline.table hd (hdlane.trans hlane) (hstate.trans hopening)
          rw [hprofile, hadvance.h, hleading] at hstep
          have hgone := not_mem_left_self (left := left) hleft hfollow
          by_cases hbeyond : beyond
          · refine .inr ⟨hbeyond, ?_, hgone⟩
            rw [doWork, hstep, if_pos hbeyond]
            have hsince := hopen.overlength hline.table hlane hsame heffects
            rwa [hprofile] at hsince
          · rw [doWork, hstep, if_neg hbeyond]
            exact .inl ⟨hopen, fun h => absurd h hbeyond⟩
        · have hother : ¬ lanesOf w l := fun h => h.elim hw hwlevel
          obtain ⟨hdetector, hlanes⟩ := doWork_laneKept fixed hline.table.wf hother hdrain
          refine .inl ⟨hopen.kept (doWork_slotKept_other fixed hline.table hd hlive (fun _ => by rwa [hdlane, hlane]) ?_ ?_) hdetector
            hlanes, fun hbeyond => (mem_left_iff (Ne.symm hw) hfollow).2 (hwaits hbeyond)⟩
          · simp [decisionDue, hstate, hopening]
          · simp [exitDue, hstate, hopening]
      · obtain ⟨tag, d, hd, hstate, hdlane, _, hbank, hleading, _⟩ := hsince.entry
        have hlive : isLive d = true := by simp [isLive, hstate]
        have hw : w ≠ .detector l := fun h => hdone (detector_ready (h ▸ hready))
        have hother : ¬ lanesOf w l := fun h => h.elim hw hwlevel
        obtain ⟨hdetector, hlanes⟩ := doWork_laneKept fixed hline.table.wf hother hdrain
        refine ⟨by rw [← hbank, doWork_bankOf fixed hd hlive, hbank, hkept], hnext, heffects.trans hwork, .inr ⟨hbeyond,
          hsince.kept (doWork_slotKept_other fixed hline.table hd hlive (by simp [hstate]) ?_ (by simp [exitDue, hstate])) hdetector
            hlanes hwork, fun h => hdone ((mem_left_iff (Ne.symm hw) hfollow).1 h)⟩⟩
        rw [decisionDue, (positions_congr hbank hdlane hleading hkept).2.1, hadvance.h, hdecision, Bool.and_false]
  have hposts {d : Entry} (hd : entryAt slot u = some d) (hlive : isLive d = true) : left = [.drainCompletion] ∧ t = settlePosts u ∧
      SlotKept slot u (settlePosts u) ∧ detectorOf l (settlePosts u) = detectorOf l u := by
    obtain ⟨hleft, ht, _⟩ := hend.of_live hline.table hd hlive
    exact ⟨hleft, ht, .of_entry (settlePosts_entryAt_other (hline.table.not_done hd hlive)), by
      rw [detectorOf, settlePosts_detectors, ← detectorOf]⟩
  rcases hphase with ⟨hopen, hwaits⟩ | ⟨hbeyond, hsince, _⟩
  · obtain ⟨⟨d, hd, hsame⟩, _⟩ := id hopen
    obtain ⟨hleft, rfl, hslot, hdetector⟩ := hposts hd (by simp [isLive, hsame.same.1, hopening])
    obtain ⟨⟨c, hc, hkept⟩, hdet, _⟩ := hopen.kept hslot hdetector (settlePosts_laneKept l u)
    obtain ⟨hstate, hclane, htag, hepoch, hbank, hleading, _, hverdict⟩ := hkept.same
    have hfields := (lineSound_iff.1 hs).2.2.table.fields slot e hat
    exact ⟨_, c, hexec, hc, hclane.trans hlane, hepoch, hbank, hleading, fun hbeyond => absurd (hwaits hbeyond) (by simp [hleft]),
      fun _ => ⟨hstate.trans hopening, htag.trans (hfields.tag.1 hopening), hverdict.trans (hfields.noVerdict (.inl hopening)), hdet⟩⟩
  · obtain ⟨_, d, hd, hstate, _⟩ := hsince.entry
    obtain ⟨_, rfl, hslot, hdetector⟩ := hposts hd (by simp [isLive, hstate])
    have hat := hsince.kept hslot hdetector (settlePosts_laneKept l u) (Effects.refl u).settlePosts
    obtain ⟨tag, c, hc, hcstate, hclane, hepoch, hbank, hleading, htag, hlength, hverdict, hbeyondlength, hdet, hnext, hconfirmed,
      hoffered⟩ := hat.entry
    exact ⟨_, c, hexec, hc, hclane.trans hlane, hepoch, hbank, hleading,
      fun _ => ⟨tag, hcstate, htag, hlength, hverdict, hbeyondlength, hdet, hnext, hconfirmed, hoffered⟩,
      fun hnot => absurd hbeyond (Nat.not_lt.2 hnot)⟩

end Sys2Proof.Machine
end

section
set_option Elab.async false
/-! PROOFS. What a channel shows in the work of an advance: its due actions, its pulse and its state are touched by its own work
alone, but for the links of the entries that leave. -/

namespace Sys2Proof.Machine

variable {s t u : State} {slot : Slot} {e : Entry} {l : Lane} {n m : Channel} {h : Word} {left : List AdvanceWork}
  {fixed : Option (List Slot)} {w : AdvanceWork} {p : Action → Bool} {g : Action → Action} {base : List Action}
  {allowed : Slot → Prop}

/-! ### A watch on the actions of one channel -/

/-- The actions that satisfy a test, seen through `g`, are those listed. -/
def Shows (p : Action → Bool) (g : Action → Action) (base : List Action) (s : State) : Prop := (s.schedule.filter p).map g = base

/-- A test of one channel's actions that no action just placed satisfies. -/
structure Watch (n : Channel) (h : Word) (p : Action → Bool) : Prop where
  channel : ∀ a, p a = true → a.channel = n
  fresh : ∀ a, a.state = .pending false → reached h a.start = false → p a = false

/-- The entries that may leave without a change of what the test shows. -/
def Detaches (p : Action → Bool) (g : Action → Action) (base : List Action) (allowed : Slot → Prop) : Prop :=
  ∀ slot, allowed slot → ∀ l, (l.filter p).map g = base → ((detachItem slot l).filter p).map g = base

theorem Shows.of_schedule (hs : Shows p g base s) (hschedule : t.schedule = s.schedule) : Shows p g base t := by
  rwa [Shows, hschedule]

theorem Shows.of_filter (hs : Shows p g base s) (hfilter : t.schedule.filter p = s.schedule.filter p) : Shows p g base t := by
  rwa [Shows, hfilter]

theorem filter_insertSorted {α : Type} {q : α → Bool} (before : α → α → Bool) {x : α} (hx : q x = false) (l : List α) :
    (insertSorted before x l).filter q = l.filter q := by
  induction l with
  | nil => simp [insertSorted, hx]
  | cons y ys ih =>
    unfold insertSorted
    split
    · simp [List.filter_cons, hx]
    · simp only [List.filter_cons, ih]

theorem Shows.place (hs : Shows p g base s) {a : Action} (ha : p a = false) : Shows p g base (place a s) :=
  hs.of_filter (filter_insertSorted _ ha s.schedule)

theorem Watch.newAction (hw : Watch n h p) {k : Channel} {item : Option Slot} {start : Word} {prof : ChannelProfile}
    (hstart : reached h start = false) (s : State) : p (newAction k item start prof s) = false := hw.fresh _ rfl hstart

/-! ### Placements -/

theorem Shows.placeChoice (hs : Shows p g base s) {choice : Option (Action × Bool)} (ha : ∀ a ∈ choice, p a.1 = false) :
    Shows p g base (placeChoice slot choice s) := by
  unfold Machine.placeChoice
  split
  · exact hs.of_schedule (addFlags_schedule _ _ _)
  split
  · exact hs.of_schedule (addFlags_schedule _ _ _)
  · exact hs.place (ha _ rfl)
  · next a => exact (hs.place (ha (a, true) rfl)).of_schedule (addFlags_schedule _ _ _)

theorem foldl_shows {α : Type} {f : State → α → State} {P : State → Prop} (hP : ∀ s x, P s → P (f s x))
    (hf : ∀ s x, P s → Shows p g base s → Shows p g base (f s x)) (l : List α) {s : State} (hs : P s) (h : Shows p g base s) :
    Shows p g base (l.foldl f s) := by
  induction l generalizing s with
  | nil => exact h
  | cons x l ih => exact ih (hP s x hs) (hf s x hs h)

theorem Shows.placeItemActions (hw : Watch n h p) (hh : s.motion.h = h) (hs : Shows p g base s) (slot : Slot) (e : Entry) :
    Shows p g base (placeItemActions slot e s) := by
  refine foldl_shows (P := fun s => s.motion.h = h) (fun u k hu => by rw [placeItemAction_motion, hu]) (fun u k hu hshows => ?_)
    _ hh hs
  rw [placeItemAction_eq]
  refine hshows.placeChoice fun a ha => ?_
  obtain ⟨start, heq, hstart⟩ := itemChoice_spec ha
  rw [heq]
  exact hw.newAction (hu ▸ hstart) u

theorem Shows.placeVerdictActions (hw : Watch n h p) (hh : s.motion.h = h) (hs : Shows p g base s) (slot : Slot) (e : Entry)
    (c : Class) : Shows p g base (placeVerdictActions slot e c s) := by
  refine foldl_shows (P := fun s => s.motion.h = h) (fun u k hu => by rw [placeVerdictAction_motion, hu]) (fun u k hu hshows => ?_)
    _ hh hs
  rw [placeVerdictAction_eq]
  refine hshows.placeChoice fun a ha => ?_
  obtain rfl := Option.some.inj ha
  exact hw.newAction (hu ▸ verdictStart_not_reached _ _ _) u

theorem pitchStart_not_reached (h start : Word) : reached h (if reached h start then h + 1 else start) = false := by
  split
  · exact reached_succ h
  · next hnot => simpa using hnot

theorem Shows.placePitchActions (hw : Watch n h p) (hh : s.motion.h = h) (hs : Shows p g base s) (mark : Word) :
    Shows p g base (placePitchActions mark s) := by
  refine foldl_shows (P := fun s => s.motion.h = h) (fun u k hu => by rw [placePitchAction_motion, hu]) (fun u k hu hshows => ?_)
    _ hh hs
  unfold placePitchAction
  dsimp only
  split
  · exact hshows.of_schedule (raise_schedule _ _ _ _)
  · exact hshows.place (hw.newAction (hu ▸ pitchStart_not_reached _ _) u)

/-! ### The detectors' work -/

theorem Shows.openEntry (hw : Watch n h p) (hh : s.motion.h = h) (hs : Shows p g base s) (slot : Slot) (l : Lane) (leading : Word) :
    Shows p g base (openEntry slot l leading (goTo l .covered s)) := by
  rw [openEntry_eq]
  exact Shows.placeItemActions (s := withOpening slot l leading s) hw hh hs slot _

theorem Shows.takeLeading (hw : Watch n h p) (hh : s.motion.h = h) (hs : Shows p g base s) (l : Lane) (ed : PendingEdge) :
    Shows p g base (takeLeading l ed s) := by
  unfold Machine.takeLeading
  split
  · exact hs.of_schedule (raise_schedule _ _ _ _)
  split
  · exact hs.of_schedule (raise_schedule _ _ _ _)
  split
  · exact hs.of_schedule (raise_schedule _ _ _ _)
  · exact Shows.openEntry hw hh hs _ l ed.latched

theorem Shows.measure (hd : Detaches p g base allowed) (hs : Shows p g base s) (hslot : allowed slot) (l : Lane) (e : Entry)
    (trailing : Word) : Shows p g base (measure l slot e trailing s) := by
  unfold Machine.measure
  dsimp only
  split
  · have hdiscard : Shows p g base (discardEntry slot e s) := hd slot hslot s.schedule hs
    exact hdiscard.of_schedule (raise_schedule _ _ _ _)
  · exact hs.of_schedule (confirm_schedule _ _ _ _ _)

theorem Shows.takeTrailing (hd : Detaches p g base allowed) (hs : Shows p g base s)
    (hslot : ∀ k e, openingEntry l s = some (k, e) → allowed k) (ed : PendingEdge) : Shows p g base (takeTrailing l ed s) := by
  unfold Machine.takeTrailing
  dsimp only
  split
  · next k x _ hopening => exact Shows.of_schedule (hs.measure hd (hslot k x hopening) l x ed.latched) rfl
  · exact hs.of_schedule rfl

theorem Shows.takeEdge (hw : Watch n h p) (hd : Detaches p g base allowed) (hh : s.motion.h = h) (hs : Shows p g base s)
    (hslot : ∀ k e, openingEntry l s = some (k, e) → allowed k) (ed : PendingEdge) : Shows p g base (takeEdge l ed s) := by
  unfold Machine.takeEdge
  dsimp only
  split
  · exact Shows.takeTrailing (s := modifyDetector l _ s) hd hs hslot ed
  · exact Shows.takeLeading (s := modifyDetector l _ s) hw hh hs l ed

theorem Shows.rawChange (hw : Watch n h p) (hd : Detaches p g base allowed) (hh : s.motion.h = h) (hs : Shows p g base s)
    (hslot : ∀ k e, openingEntry l s = some (k, e) → allowed k) : Shows p g base (rawChange l s) := by
  unfold Machine.rawChange
  split
  · exact hs
  split
  · exact hs.of_schedule rfl
  · unfold createEdge
    dsimp only
    split
    · exact hs.takeEdge hw hd hh hslot _
    · exact hs.of_schedule rfl

/-! ### Decisions and exits -/

theorem Shows.takeDecision (hw : Watch n h p) (hh : s.motion.h = h) (hs : Shows p g base s) (k : Slot) :
    Shows p g base (takeDecision k s) := by
  rcases takeDecision_cases s k with ⟨_, heq⟩ | ⟨x, hx, hdue, _⟩
  · rwa [heq]
  · rw [takeDecision_eq hx hdue]
    exact Shows.placeVerdictActions (s := setEntry k (scheduledEntry x s) s) hw hh hs k _ _

theorem Shows.takeDecisions (hw : Watch n h p) (hh : s.motion.h = h) (hs : Shows p g base s) (slots : List Slot) :
    Shows p g base (takeDecisions slots s) :=
  foldl_shows (P := fun s => s.motion.h = h) (fun u k hu => by rw [takeDecision_motion, hu]) (fun _ k hu hshows =>
    hshows.takeDecision hw hu k) slots hh hs

theorem Shows.takeExit (hd : Detaches p g base allowed) (hs : Shows p g base s) (hslot : allowed slot) (e : Entry) :
    Shows p g base (takeExit slot e s) := by
  rw [Shows, takeExit_eq]
  exact hd slot hslot s.schedule hs

theorem Shows.foldl_takeExit (hd : Detaches p g base allowed) (l : List (Slot × Entry)) {s : State} (hs : Shows p g base s)
    (hslots : ∀ x ∈ l, allowed x.1) : Shows p g base (l.foldl (fun s x => Machine.takeExit x.1 x.2 s) s) := by
  induction l generalizing s with
  | nil => exact hs
  | cons x l ih => exact ih (hs.takeExit hd (hslots x List.mem_cons_self) x.2) fun y hy => hslots y (List.mem_cons_of_mem _ hy)

/-! ### The other channels' work -/

theorem filter_channel_modifyFirst {q : Action → Bool} {f : Action → Action} (hp : ∀ a, p a = true → a.channel = n) (hne : m ≠ n)
    (hq : ∀ a, q a = true → a.channel = m ∧ (f a).channel = m) (l : List Action) :
    (modifyFirst q f l).filter p = l.filter p :=
  filter_modifyFirst fun x hx => by
    obtain ⟨hchannel, hafter⟩ := hq x hx
    constructor <;> rw [← Bool.not_eq_true] <;> intro h
    · exact hne (hchannel.symm.trans (hp x h))
    · exact hne (hafter.symm.trans (hp _ h))

theorem filter_eraseP_other {α : Type} {q r : α → Bool} (hq : ∀ x, q x = true → r x = false) (l : List α) :
    (l.eraseP q).filter r = l.filter r := by
  induction l with
  | nil => rfl
  | cons x l ih =>
    cases hqx : q x with
    | true => rw [List.eraseP_cons_of_pos hqx, List.filter_cons_of_neg (by simp [hq x hqx])]
    | false => rw [List.eraseP_cons_of_neg (by simp [hqx]), List.filter_cons, List.filter_cons, ih]

theorem not_of_channel (hp : ∀ a, p a = true → a.channel = n) (hne : m ≠ n) {a : Action} (ha : a.channel = m) : p a = false := by
  rw [← Bool.not_eq_true]
  exact fun h => hne (ha.symm.trans (hp a h))

theorem deferNewcomer_schedule (q : Action → Bool) (a : Action) (s : State) :
    (deferNewcomer q a s).schedule = modifyFirst q (fun x => { x with state := .pending true }) s.schedule := by
  unfold deferNewcomer onItem
  split <;> simp

/-- A channel that settles a newcomer leaves the actions of the others as they are. -/
theorem settleFirst_filter_other {q : Action → Bool} (hp : ∀ a, p a = true → a.channel = n) (hne : m ≠ n) (hq : Newcomers m q)
    (s : State) : (settleFirst q s).schedule.filter p = s.schedule.filter p := by
  have herase : (s.schedule.eraseP q).filter p = s.schedule.filter p :=
    filter_eraseP_other (fun x hx => not_of_channel hp hne (hq x hx).1) _
  rcases settleFirst_cases s q with ⟨_, heq⟩ | ⟨a, hfind, ⟨_, heq⟩ | ⟨_, _, heq⟩ | ⟨_, _, heq⟩ | ⟨_, _, heq⟩⟩ <;> rw [heq]
  · rw [fire_schedule]
    exact filter_channel_modifyFirst (f := withEnd _) hp hne (fun b hb => ⟨(hq b hb).1, (hq b hb).1⟩) _
  · obtain rfl := (hq a (List.find?_some hfind)).1
    rw [joinPulse_schedule, filter_channel_modifyFirst hp hne (fun b hb => ?_), herase]
    have hchannel : b.channel = a.channel := by simpa using (Bool.and_eq_true_iff.1 hb).1
    exact ⟨hchannel, (extendEnd_kept _ _ b).1.trans hchannel⟩
  · rw [refuseNewcomer_schedule, herase]
  · rw [deferNewcomer_schedule]
    exact filter_channel_modifyFirst (f := fun x => { x with state := .pending true }) hp hne
      (fun b hb => ⟨(hq b hb).1, (hq b hb).1⟩) _

theorem endPulse_filter_other (hp : ∀ a, p a = true → a.channel = n) (hne : m ≠ n) (s : State) :
    (endPulse m s).schedule.filter p = s.schedule.filter p := by
  rcases endPulse_cases s m with ⟨_, heq⟩ | ⟨a, _, heq⟩ <;> rw [heq]
  exact filter_eraseP_other (fun x hx => not_of_channel hp hne (by simpa using (Bool.and_eq_true_iff.1 hx).1)) _

theorem Shows.channelAdvance (hp : ∀ a, p a = true → a.channel = n) (hne : m ≠ n) (hs : Shows p g base s) :
    Shows p g base (channelAdvance m s) := by
  have hsettle (u : State) (hu : Shows p g base u) : Shows p g base (takeDue m u) :=
    settleAll_keeps (Shows p g base) _ (fun v hv => hv.of_filter (settleFirst_filter_other hp hne (newcomers_dueOn m _) v)) _ u hu
  unfold Machine.channelAdvance
  split
  · exact hsettle _ (hs.of_filter (endPulse_filter_other hp hne s))
  · exact hsettle s hs

theorem Shows.channelEvent (hp : ∀ a, p a = true → a.channel = n) (hne : m ≠ n) (hs : Shows p g base s) :
    Shows p g base (channelEvent m s) := by
  unfold Machine.channelEvent
  split
  · exact hs.of_filter (endPulse_filter_other hp hne s)
  · exact hs.of_filter (settleFirst_filter_other hp hne (newcomers_dueOn m _) s)

/-! ### A piece of work that is not the channel's own -/

/-- The entries that a piece of work can take out of the live states. -/
def Leaves (w : AdvanceWork) (s : State) (slot : Slot) : Prop :=
  (∃ l e, w = .levelChange l ∧ openingEntry l s = some (slot, e)) ∨ (w = .exits ∨ w = .exit) ∧ slot ∈ (leavingEntries s).map (·.1)

/-- The work of a channel. -/
def ofChannel (w : AdvanceWork) (n : Channel) : Prop := w = .channel n ∨ w = .channelEvent n

theorem Shows.doWork (hw : Watch n h p) (hd : Detaches p g base allowed) (hh : s.motion.h = h) (hs : Shows p g base s)
    (fixed : Option (List Slot)) (hother : ¬ ofChannel w n) (hallowed : ∀ slot, Leaves w s slot → allowed slot) :
    Shows p g base (doWork fixed w s).1 := by
  cases w with
  | channel m => exact hs.channelAdvance hw.channel fun hm => hother (.inl (by rw [hm]))
  | channelEvent m => exact hs.channelEvent hw.channel fun hm => hother (.inr (by rw [hm]))
  | detector l => exact hs.of_schedule (detectorAdvance_schedule s l)
  | decisions => exact hs.takeDecisions hw hh _
  | decision => exact hs.takeDecisions hw hh _
  | exits =>
    have hslots (x) (hx : x ∈ leavingEntries s) : allowed x.1 := hallowed x.1 (.inr ⟨.inl rfl, List.mem_map_of_mem hx⟩)
    exact Shows.of_schedule (hs.foldl_takeExit hd _ hslots) (settlePosts_schedule _)
  | exit =>
    rcases takeNextExit_cases s with ⟨_, heq⟩ | ⟨x, rest, hlist, heq⟩ <;> rw [Machine.doWork, heq]
    · exact hs
    · exact hs.takeExit hd (hallowed x.1 (.inr ⟨.inr rfl, by simp [hlist]⟩)) x.2
  | posts => exact hs.of_schedule (serveDone_schedule s)
  | mark =>
    simp only [Machine.doWork]
    split
    · exact hs.of_schedule (pitchMark_schedule s)
    · exact hs
  | pitchActions => exact hs.placePitchActions hw hh _
  | levelChange l => exact hs.rawChange hw hd hh fun k x hx => hallowed k (.inl ⟨l, x, rfl, hx⟩)
  | drainCompletion => exact hs.of_schedule (completeDrain_schedule s)

/-- A channel takes its state from its own work alone. -/
theorem doWork_channel (fixed : Option (List Slot)) (hother : ¬ ofChannel w n) (s : State) :
    (doWork fixed w s).1.channels[n] = s.channels[n] := by
  have hend {m : Channel} (hm : m ≠ n) : (endPulse m s).channels[n] = s.channels[n] := by
    rcases endPulse_cases s m with ⟨_, heq⟩ | ⟨a, _, heq⟩ <;> rw [heq]
    exact (updateAt_get _ _ _ _).trans (if_neg hm)
  cases w with
  | channel m =>
    have hm : m ≠ n := fun hm => hother (.inl (by rw [hm]))
    simp only [doWork, channelAdvance]
    refine (settleAll_other_channel (newcomers_dueOn m _) hm.symm _ _).trans ?_
    split
    · exact hend hm
    · rfl
  | channelEvent m =>
    have hm : m ≠ n := fun hm => hother (.inr (by rw [hm]))
    simp only [doWork, channelEvent]
    split
    · exact hend hm
    · exact settleAll_other_channel (newcomers_dueOn m s.motion.h) hm.symm 1 s
  | mark =>
    simp only [doWork]
    split
    · exact congrArg (fun v : Vector OutputChannel 16 => v[n]) (pitchMark_channels s)
    · rfl
  | _ => simp [doWork]

/-! ### The two watches: due actions, and the pulse -/

theorem watch_dueOn (n : Channel) (h : Word) : Watch n h (dueOn n h) where
  channel a ha := (newcomers_dueOn n h a ha).1
  fresh a _ hstart := by
    rw [← Bool.not_eq_true]
    intro ha
    simp only [dueOn, Bool.and_eq_true, decide_eq_true_eq] at ha
    rw [ha.2] at hstart
    simp [reached] at hstart

theorem watch_activeOn (n : Channel) (h : Word) : Watch n h (activeOn n) where
  channel a ha := by simpa using (Bool.and_eq_true_iff.1 ha).1
  fresh a ha _ := by simp [activeOn, Action.isActive, ha]

/-- An action with its link left out. -/
def unlinked (a : Action) : Action := { a with item := none }

theorem detaches_activeOn (n : Channel) (base : List Action) : Detaches (activeOn n) unlinked base fun _ => True := by
  intro slot _ l hl
  rw [← hl, detachItem_eq, List.filter_map, List.map_map, List.filter_filter]
  have hfilter : l.filter (fun a => (activeOn n ∘ fun a => if a.item = some slot then { a with item := none } else a) a &&
      (a.isActive || decide (a.item ≠ some slot))) = l.filter (activeOn n) := by
    refine List.filter_congr fun a _ => ?_
    rw [Function.comp, activeOn_detached]
    simp only [activeOn]
    cases a.isActive <;> simp
  rw [hfilter]
  refine List.map_congr_left fun a _ => ?_
  simp only [Function.comp, unlinked]
  split <;> rfl

/-- A test that reads no link shows the same where none of the actions it shows is linked to the entry that leaves. -/
theorem detaches_id (hp : ∀ a, p { a with item := none } = p a) (base : List Action) :
    Detaches p id base fun slot => ∀ a ∈ base, a.item ≠ some slot := by
  intro slot hnot l hl
  rw [List.map_id] at hl ⊢
  subst hl
  rw [detachItem_eq, List.filter_map, List.filter_filter]
  have hfilter : l.filter (fun a => (p ∘ fun a => if a.item = some slot then { a with item := none } else a) a &&
      (a.isActive || decide (a.item ≠ some slot))) = l.filter p := by
    refine List.filter_congr fun a ha => ?_
    have hsame : p (if a.item = some slot then { a with item := none } else a) = p a := by
      split
      · exact hp a
      · rfl
    rw [Function.comp, hsame]
    cases hpa : p a with
    | false => rfl
    | true => simp [hnot a (List.mem_filter.2 ⟨ha, hpa⟩)]
  rw [hfilter]
  refine (List.map_congr_left fun a ha => ?_).trans (List.map_id _)
  rw [if_neg (hnot a ha), id]

theorem detaches_dueOn (n : Channel) (h : Word) (base : List Action) :
    Detaches (dueOn n h) id base fun slot => ∀ a ∈ base, a.item ≠ some slot := detaches_id (fun _ => rfl) base

end Sys2Proof.Machine
end

section
set_option Elab.async false
/-! PROOFS. The end of a COUNTS pulse (R135): the channel's own work ends it where H has reached its end, and no other work of the
advance touches it. -/

namespace Sys2Proof.Machine

variable {s t u : State} {slot : Slot} {n : Channel} {left : List AdvanceWork} {fixed : Option (List Slot)} {w : AdvanceWork}
  {due back : Channel → Prop} {base : List Action}

/-- What ends an advance leaves the schedule and the channels. -/
theorem WalkEnd.line (h : WalkEnd left u t) : t.schedule = u.schedule ∧ t.channels = u.channels := by
  rcases h with ⟨_, _, rfl⟩ | ⟨_, rfl⟩ <;> simp

theorem activeAction_eq_head? (n : Channel) (s : State) : activeAction n s = (s.schedule.filter (activeOn n)).head? :=
  List.head?_filter.symm

theorem Shows.activeAction (h : Shows (activeOn n) unlinked base s) : (Machine.activeAction n s).map unlinked = base.head? := by
  rw [activeAction_eq_head?, ← h, List.head?_map]

theorem ScheduleInv.activeAction_eq_none (h : ScheduleInv due back s) (hstate : s.channels[n].state ≠ .active) :
    activeAction n s = none := by
  have hcount := h.active n
  rw [if_neg hstate, activeCount, List.countP_eq_zero] at hcount
  exact List.find?_eq_none.2 hcount

theorem ScheduleInv.active_of_action {b : Action} (h : ScheduleInv due back s) (hb : activeAction n s = some b) :
    s.channels[n].state = .active := by
  by_contra hnot
  rw [h.activeAction_eq_none hnot] at hb
  cases hb

theorem filter_eq_nil_of_activeAction_none (h : activeAction n s = none) : s.schedule.filter (activeOn n) = [] :=
  filter_eq_nil_of_find?_none h

/-! ### The channel's own work -/

theorem settleFirst_of_none {q : Action → Bool} (h : s.schedule.filter q = []) : settleFirst q s = s := by
  rcases settleFirst_cases s q with ⟨_, heq⟩ | ⟨a, hfind, _⟩
  · exact heq
  · rw [filter_eq_cons_of_find? hfind] at h
    cases h

theorem settleAll_of_nil {q : Action → Bool} (h : s.schedule.filter q = []) (fuel : Nat) : settleAll q fuel s = s :=
  settleAll_of_none (by rw [← List.head?_filter, h]; rfl) fuel

theorem endPulse_dueOn (h : Word) (s : State) : (endPulse n s).schedule.filter (dueOn n h) = s.schedule.filter (dueOn n h) := by
  rcases endPulse_cases s n with ⟨_, heq⟩ | ⟨a, _, heq⟩ <;> rw [heq]
  exact filter_eraseP_other (fun x hx => (newcomers_dueOn n h).not_of_activeOn hx) _

/-- With no action due the channel's work is the end of its COUNTS pulse alone. -/
theorem channelWork_of_no_due (hother : ofChannel w n) (hnone : s.schedule.filter (dueOn n s.motion.h) = []) :
    (doWork fixed w s).1 = if countsEndDue n s then endPulse n s else s := by
  have hend : (endPulse n s).schedule.filter (dueOn n (endPulse n s).motion.h) = [] := by
    rw [(endPulse_frame n s).1, endPulse_dueOn, hnone]
  rcases hother with rfl | rfl
  · simp only [doWork, channelAdvance]
    split
    · exact settleAll_of_nil hend _
    · exact settleAll_of_nil hnone _
  · simp only [doWork, channelEvent]
    split
    · rfl
    · exact settleFirst_of_none hnone

theorem afterPulse_ne_active (tick : Nat) (recovery : Half) : afterPulse tick recovery ≠ .active := by
  unfold afterPulse
  split <;> exact ChannelState.noConfusion

theorem endPulse_ended {b : Action} (h : LineInv due back s) (hb : activeAction n s = some b) :
    (endPulse n s).schedule.filter (activeOn n) = [] ∧
      (endPulse n s).channels[n].state = afterPulse s.motion.tick b.recovery := by
  have hstate : (endPulse n s).channels[n].state = afterPulse s.motion.tick b.recovery := by
    rcases endPulse_cases s n with ⟨hnone, _⟩ | ⟨a, ha, heq⟩
    · rw [hnone] at hb
      cases hb
    · obtain rfl := Option.some.inj (ha.symm.trans hb)
      rw [heq]
      exact congrArg OutputChannel.state ((updateAt_get _ _ _ _).trans (if_pos rfl))
  exact ⟨filter_eq_nil_of_activeAction_none ((h.endPulse n).schedule.activeAction_eq_none
    (by rw [hstate]; exact afterPulse_ne_active _ _)), hstate⟩

theorem countsEndDue_of_action {b : Action} {finish : PulseEnd} (hb : activeAction n s = some b) (hstate : b.state = .active finish) :
    countsEndDue n s = decide (finish = .position s.motion.h) := by
  simp [countsEndDue, hb, hstate]

theorem channel_mem_advanceWork (n : Channel) : .channel n ∈ advanceWork :=
  List.mem_append_left _ (List.mem_append_left _ (List.mem_map_of_mem (mem_allChannels n)))

/-- Settles O23: the pulse goes on as it was until the channel's own work, which ends it where its end is reached. -/
theorem countsPulseEndsAtItsPosition : Obligations.CountsPulseEndsAtItsPosition := by
  intro first s n b finish hs hmay hnone hb hfinish
  have hline₀ := (lineSound_iff.1 hs).2.2
  let ends : Prop := finish = .position (s.motion.h + 1)
  let pulse : List Action := (s.schedule.filter (activeOn n)).map unlinked
  have hhead : pulse.head? = some (unlinked b) := by
    rw [← Shows.activeAction (base := pulse) rfl, hb, Option.map_some]
  obtain ⟨left, fixed, u, t, hexec, hadvance, _, hline, ⟨_, hphase⟩, hend⟩ := advance_walk_sound hs hmay first
    (P := fun left _ u => Shows (dueOn n (s.motion.h + 1)) id [] u ∧
      (Shows (activeOn n) unlinked pulse u ∧ u.channels[n] = s.channels[n] ∧ (ends → .channel n ∈ left) ∨
        ends ∧ Shows (activeOn n) unlinked [] u ∧ u.channels[n].state = afterPulse s.motion.tick b.recovery))
    ⟨by rw [Shows, List.map_id]; exact hnone, .inl ⟨rfl, rfl, fun _ => channel_mem_advanceWork n⟩⟩
    fun left fixed w u hadvance _ hline hleft hready hdrain _ ⟨hdue, hphase⟩ => by
      have hh := hadvance.h
      have htick : u.motion.tick = s.motion.tick := by rw [hadvance.motion]
      by_cases hown : ofChannel w n
      · have hnodue : u.schedule.filter (dueOn n u.motion.h) = [] := by rwa [Shows, List.map_id, ← hh] at hdue
        rw [channelWork_of_no_due hown hnodue]
        rcases hphase with ⟨hpulse, hchannel, hwaits⟩ | ⟨hends, hpulse, hstate⟩
        · have hsome := hpulse.activeAction
          rw [hhead] at hsome
          obtain ⟨c, hc, hcb⟩ := Option.map_eq_some_iff.1 hsome
          have hcfinish : c.state = .active finish := (congrArg Action.state hcb).trans hfinish
          have hcrecovery : c.recovery = b.recovery := show (unlinked c).recovery = (unlinked b).recovery by rw [hcb]
          rw [countsEndDue_of_action hc hcfinish, hh]
          by_cases hends : ends
          · rw [if_pos (decide_eq_true hends)]
            obtain ⟨hempty, hstate⟩ := endPulse_ended hline hc
            refine ⟨hdue.of_filter (endPulse_dueOn _ u), .inr ⟨hends, by rw [Shows, hempty]; rfl, ?_⟩⟩
            rw [hstate, htick, hcrecovery]
          · rw [if_neg fun h => hends (of_decide_eq_true h)]
            exact ⟨hdue, .inl ⟨hpulse, hchannel, fun h => absurd h hends⟩⟩
        · have hcounts : countsEndDue n u = false := by
            have hhead := hpulse.activeAction
            simp only [List.head?_nil, Option.map_eq_none_iff] at hhead
            simp [countsEndDue, hhead]
          rw [hcounts, if_neg Bool.false_ne_true]
          exact ⟨hdue, .inr ⟨hends, hpulse, hstate⟩⟩
      · have hchannel := doWork_channel fixed hown u
        have hshows {base : List Action} (hpulse : Shows (activeOn n) unlinked base u) :=
          hpulse.doWork (watch_activeOn n u.motion.h) (detaches_activeOn n base) rfl fixed hown fun _ _ => trivial
        refine ⟨hdue.doWork (watch_dueOn n _) (detaches_dueOn n _ []) hh fixed hown (fun _ _ => by simp), ?_⟩
        rcases hphase with ⟨hpulse, hkept, hwaits⟩ | ⟨hends, hpulse, hstate⟩
        · have hw : w ≠ .channel n := fun h => hown (.inl h)
          exact .inl ⟨hshows hpulse, hchannel.trans hkept, fun h => (mem_left_iff (Ne.symm hw)
            (not_mem_follows (by simp) (by simp) fixed w u)).2 (hwaits h)⟩
        · exact .inr ⟨hends, hshows hpulse, by rw [hchannel, hstate]⟩
  obtain ⟨hschedule, hchannels⟩ := hend.line
  have haction : activeAction n t = activeAction n u := by rw [activeAction, activeAction, hschedule]
  refine ⟨t, hexec, fun hends => ?_, fun hends => ?_⟩
  · rw [haction, hchannels]
    rcases hphase with ⟨hpulse, _, hwaits⟩ | ⟨_, hpulse, hstate⟩
    · have hsome := hpulse.activeAction
      rw [hhead] at hsome
      obtain ⟨c, hc, _⟩ := Option.map_eq_some_iff.1 hsome
      rcases hend with ⟨hleft, _⟩ | ⟨hdone, _⟩
      · exact absurd (hwaits hends) (by simp [hleft])
      · rw [activeAction, ((drainDone_iff u).1 hdone).2.2] at hc
        cases hc
    · exact ⟨by simpa using hpulse.activeAction, hstate⟩
  · rw [haction, hchannels]
    rcases hphase with ⟨hpulse, hchannel, _⟩ | ⟨hends', _⟩
    · have hsome := hpulse.activeAction
      rw [hhead] at hsome
      obtain ⟨c, hc, hcb⟩ := Option.map_eq_some_iff.1 hsome
      exact ⟨by rw [hchannel, hline₀.schedule.active_of_action hb], c, hc, (congrArg Action.state hcb).trans hfinish⟩
    · exact absurd hends' hends

end Sys2Proof.Machine
end

section
set_option Elab.async false
/-! PROOFS. A PENDING action that is not due stays in the schedule through the work of an advance, for as long as its entry
stays. -/

namespace Sys2Proof.Machine

variable {s t u : State} {slot : Slot} {e : Entry} {l : Lane} {n : Channel} {h : Word} {w : AdvanceWork} {x : Action}

theorem mem_modifyFirst_of_not {α : Type} {p : α → Bool} {f : α → α} {l : List α} {x : α} (hx : x ∈ l) (hp : p x = false) :
    x ∈ modifyFirst p f l := by
  induction l with
  | nil => cases hx
  | cons y ys ih =>
    unfold modifyFirst
    rcases List.mem_cons.1 hx with rfl | hmem
    · rw [hp, if_neg Bool.false_ne_true]
      exact List.mem_cons_self
    · split
      · exact List.mem_cons_of_mem _ hmem
      · exact List.mem_cons_of_mem _ (ih hmem)

theorem mem_eraseP_of_not {α : Type} {p : α → Bool} {l : List α} {x : α} (hx : x ∈ l) (hp : p x = false) : x ∈ l.eraseP p :=
  (List.mem_eraseP_of_neg (by simp [hp])).2 hx

/-- A PENDING action that is not due at the present H. -/
structure Waits (h : Word) (x : Action) : Prop where
  pending : x.isActive = false
  notDue : ∀ n, dueOn n h x = false

theorem Waits.not_activeOn (hx : Waits h x) (n : Channel) : activeOn n x = false := by simp [activeOn, hx.pending]

theorem waits_of_deferred (h : Word) (hstate : x.state = .pending true) : Waits h x where
  pending := by simp [Action.isActive, hstate]
  notDue n := by simp [dueOn, hstate]

theorem waits_of_not_reached (hstate : x.state = .pending false) (hstart : reached h x.start = false) : Waits h x where
  pending := by simp [Action.isActive, hstate]
  notDue n := (watch_dueOn n h).fresh x hstate hstart

/-! ### What joins the schedule leaves it there -/

theorem Placements.mem {late missed full : Bool} {l : List Action} (hp : Placements slot late missed full l s t)
    (hx : x ∈ s.schedule) : x ∈ t.schedule := hp.schedule.mem_iff.2 (List.mem_append_left _ hx)

theorem place_mem (a : Action) (hx : x ∈ s.schedule) : x ∈ (place a s).schedule :=
  (insertAction_perm s.motion.h a s.schedule).mem_iff.2 (List.mem_cons_of_mem _ hx)

theorem openEntry_mem (slot : Slot) (l : Lane) (leading : Word) (hx : x ∈ s.schedule) :
    x ∈ (openEntry slot l leading (goTo l .covered s)).schedule := by
  rw [openEntry_eq]
  exact (placeItemActions_placements slot _ (withOpening slot l leading s)).mem hx

theorem takeDecision_mem (k : Slot) (hx : x ∈ s.schedule) : x ∈ (takeDecision k s).schedule := by
  rcases takeDecision_cases s k with ⟨_, heq⟩ | ⟨y, hy, hdue, _⟩
  · rwa [heq]
  · rw [takeDecision_eq hy hdue]
    exact (placeVerdictActions_placements k (scheduledEntry y s) _ (setEntry k (scheduledEntry y s) s)).mem hx

theorem takeDecisions_mem (slots : List Slot) (hx : x ∈ s.schedule) : x ∈ (takeDecisions slots s).schedule := by
  induction slots generalizing s with
  | nil => exact hx
  | cons k slots ih => exact ih (takeDecision_mem k hx)

theorem placePitchActions_mem (mark : Word) (hx : x ∈ s.schedule) : x ∈ (placePitchActions mark s).schedule := by
  have key (channels : List Channel) : ∀ u : State, x ∈ u.schedule →
      x ∈ (channels.foldl (fun s n => placePitchAction mark n s) u).schedule := by
    induction channels with
    | nil => exact fun _ => id
    | cons n channels ih =>
      intro u hu
      refine ih _ ?_
      unfold placePitchAction
      dsimp only
      split
      · rwa [raise_schedule]
      · exact place_mem _ hu
  exact key _ s hx

/-! ### Entries that leave, and the channels' work -/

theorem mem_detachItem (hx : x ∈ s.schedule) (hitem : x.item ≠ some slot) : x ∈ detachItem slot s.schedule := by
  rw [detachItem_eq]
  exact List.mem_map.2 ⟨x, List.mem_filter.2 ⟨hx, by simp [hitem]⟩, if_neg hitem⟩

theorem foldl_takeExit_mem (l : List (Slot × Entry)) {s : State} (hx : x ∈ s.schedule) (hitem : ∀ y ∈ l, x.item ≠ some y.1) :
    x ∈ (l.foldl (fun s y => takeExit y.1 y.2 s) s).schedule := by
  induction l generalizing s with
  | nil => exact hx
  | cons y l ih =>
    refine ih ?_ fun z hz => hitem z (List.mem_cons_of_mem _ hz)
    show x ∈ (takeExit y.1 y.2 s).schedule
    rw [takeExit_eq]
    exact mem_detachItem hx (hitem y List.mem_cons_self)

theorem settleFirst_mem {q : Action → Bool} (hx : x ∈ s.schedule) (hq : q x = false) (hpending : x.isActive = false) :
    x ∈ (settleFirst q s).schedule := by
  have hactive (m : Channel) : activeOn m x = false := by simp [activeOn, hpending]
  rcases settleFirst_cases s q with ⟨_, heq⟩ | ⟨a, _, ⟨_, heq⟩ | ⟨_, _, heq⟩ | ⟨_, _, heq⟩ | ⟨_, _, heq⟩⟩ <;> rw [heq]
  · exact hx
  · rw [fire_schedule]
    exact mem_modifyFirst_of_not hx hq
  · rw [joinPulse_schedule]
    exact mem_modifyFirst_of_not (mem_eraseP_of_not hx hq) (hactive _)
  · rw [refuseNewcomer_schedule]
    exact mem_eraseP_of_not hx hq
  · rw [deferNewcomer_schedule]
    exact mem_modifyFirst_of_not hx hq

theorem endPulse_mem (n : Channel) (hx : x ∈ s.schedule) (hpending : x.isActive = false) : x ∈ (endPulse n s).schedule := by
  rcases endPulse_cases s n with ⟨_, heq⟩ | ⟨_, _, heq⟩ <;> rw [heq]
  · exact hx
  · exact mem_eraseP_of_not hx (by simp [activeOn, hpending])

theorem takeTrailing_mem (ed : PendingEdge) (hx : x ∈ s.schedule)
    (hitem : ∀ k e, openingEntry l s = some (k, e) → x.item ≠ some k) : x ∈ (takeTrailing l ed s).schedule := by
  unfold takeTrailing
  rw [openGap_schedule]
  split
  · next k y _ hopening =>
    unfold measure
    dsimp only
    split
    · rw [raise_schedule]
      exact mem_detachItem hx (hitem k y hopening)
    · rwa [confirm_schedule]
  · exact hx

theorem takeLeading_mem (l : Lane) (ed : PendingEdge) (hx : x ∈ s.schedule) : x ∈ (takeLeading l ed s).schedule := by
  have hraise (code : ExceptionCode) : x ∈ (raise code (some l) none s).schedule := by rwa [raise_schedule]
  unfold takeLeading
  split
  · exact hraise _
  split
  · exact hraise _
  split
  · exact hraise _
  · exact openEntry_mem _ l ed.latched hx

theorem rawChange_mem (hx : x ∈ s.schedule) (hitem : ∀ k e, openingEntry l s = some (k, e) → x.item ≠ some k) :
    x ∈ (rawChange l s).schedule := by
  unfold rawChange
  split
  · exact hx
  split
  · exact hx
  · unfold createEdge
    dsimp only
    split
    · unfold takeEdge
      dsimp only
      split
      · exact takeTrailing_mem (s := modifyDetector l _ s) _ hx hitem
      · exact takeLeading_mem (s := modifyDetector l _ s) l _ hx
    · exact hx

/-- A PENDING action that is not due stays through a piece of work that its entry outlasts. -/
theorem doWork_mem (fixed : Option (List Slot)) (hx : x ∈ s.schedule) (hwaits : Waits s.motion.h x)
    (hstays : ∀ slot, Leaves w s slot → x.item ≠ some slot) : x ∈ (doWork fixed w s).1.schedule := by
  have hsettle (n : Channel) (u : State) (hh : u.motion.h = s.motion.h) (hu : x ∈ u.schedule) :
      x ∈ (settleFirst (dueOn n u.motion.h) u).schedule :=
    settleFirst_mem hu (by rw [hh]; exact hwaits.notDue n) hwaits.pending
  cases w with
  | channel n =>
    have htake (u : State) (hh : u.motion.h = s.motion.h) (hu : x ∈ u.schedule) : x ∈ (takeDue n u).schedule :=
      settleAll_keeps (fun v => x ∈ v.schedule) _ (fun v hv => settleFirst_mem hv (by rw [hh]; exact hwaits.notDue n) hwaits.pending)
        _ u hu
    simp only [doWork, channelAdvance]
    split
    · exact htake _ (by rw [(endPulse_frame n s).1]) (endPulse_mem n hx hwaits.pending)
    · exact htake s rfl hx
  | channelEvent n =>
    simp only [doWork, channelEvent]
    split
    · exact endPulse_mem n hx hwaits.pending
    · exact hsettle n s rfl hx
  | decisions => exact takeDecisions_mem _ hx
  | decision => exact takeDecisions_mem _ hx
  | exits =>
    rw [doWork, takeExits, settlePosts_schedule]
    exact foldl_takeExit_mem _ hx fun y hy => hstays y.1 (.inr ⟨.inl rfl, List.mem_map_of_mem hy⟩)
  | exit =>
    rcases takeNextExit_cases s with ⟨_, heq⟩ | ⟨y, rest, hlist, heq⟩ <;> rw [doWork, heq]
    · exact hx
    · rw [takeExit_eq]
      exact mem_detachItem hx (hstays y.1 (.inr ⟨.inr rfl, by simp [hlist]⟩))
  | mark =>
    simp only [doWork]
    split
    · rwa [pitchMark_schedule]
    · exact hx
  | pitchActions => exact placePitchActions_mem _ hx
  | levelChange l => exact rawChange_mem hx fun k e he => hstays k (.inl ⟨l, e, rfl, he⟩)
  | detector l => rwa [doWork, detectorAdvance_schedule]
  | posts => rwa [doWork, serveDone_schedule]
  | drainCompletion => rwa [doWork, completeDrain_schedule]

end Sys2Proof.Machine
end

section
set_option Elab.async false
/-! PROOFS. The due actions of a channel at an advance that is no mark (Table 7-4, R117): its own work hands them over one after
another, in one piece or in parts, and no other work of the advance touches them, the pulse or what they have told their entries. -/

namespace Sys2Proof.Machine

variable {s t u : State} {slot : Slot} {d e : Entry} {n : Channel} {left : List AdvanceWork} {fixed : Option (List Slot)}
  {w : AdvanceWork} {due back : Channel → Prop} {a b : Action} {m : Motion} {done rest : List Action}

/-! ### Entries that outlast the advance -/

theorem Gains.bit {f g : EntryFlags} {x y : BitVec 16} (h : Gains f g x y) {i : Nat} (hi : f.bits.getLsbD i = true) :
    g.bits.getLsbD i = true := by
  rw [← h.1, BitVec.getLsbD_and, Bool.and_eq_true] at hi
  exact hi.2

theorem Gains.fired {f g : EntryFlags} {x y : BitVec 16} (h : Gains f g x y) {i : Nat} (hi : x.getLsbD i = true) :
    y.getLsbD i = true := by
  rw [← h.2, BitVec.getLsbD_and, Bool.and_eq_true] at hi
  exact hi.2

/-- An entry goes on, with no flag and no fired channel lost and its positions kept. -/
structure Lasts (d e : Entry) : Prop where
  live : isLive e = true
  lane : e.lane = d.lane
  bank : e.bank = d.bank
  leading : e.leading = d.leading
  gains : Gains d.flags e.flags d.fired e.fired

theorem Lasts.refl (hlive : isLive e = true) : Lasts e e := ⟨hlive, rfl, rfl, rfl, Gains.refl _ _⟩

theorem Retouched.lasts (h : Retouched d e) (hlive : isLive d = true) : Lasts d e := by
  obtain ⟨hstate, hlane, _, _, hbank, hleading, _⟩ := h.same
  exact ⟨by rwa [isLive, hstate, ← isLive], hlane, hbank, hleading, h.gains⟩

theorem Lasts.trans {c : Entry} (h : Lasts c d) (h' : Lasts d e) : Lasts c e where
  live := h'.live
  lane := h'.lane.trans h.lane
  bank := h'.bank.trans h.bank
  leading := h'.leading.trans h.leading
  gains := h.gains.trans h'.gains

theorem confirmedEntry_lasts (e : Entry) (tag length : Half) (overlength : Option Class) :
    Lasts e (confirmedEntry e tag length overlength) := by
  obtain ⟨hlane, _, _, hbank, _, _, hlive⟩ := confirmedEntry_kept e tag length overlength
  refine ⟨hlive, hlane, hbank, by cases overlength <;> rfl, ?_⟩
  cases overlength with
  | none => exact Gains.refl _ _
  | some c =>
    exact ⟨EntryFlags.bits_subset (fun _ => rfl) id id id id id id id id id, BitVec.and_self⟩

/-- A detector confirms its OPENING entry at most, and leaves the others as they are. -/
theorem detectorAdvance_lasts (hwf : s.table.wf = true) (l : Lane) (he : entryAt slot s = some e) (hlive : isLive e = true) :
    ∃ c, entryAt slot (detectorAdvance l s) = some c ∧ Lasts e c := by
  unfold detectorAdvance
  dsimp only
  split
  · split <;> exact ⟨e, he, .refl hlive⟩
  · next k x _ hopening =>
    split
    · by_cases hk : slot = k
      · obtain ⟨hat, _⟩ := openingEntry_entryAt hwf hopening
        obtain rfl : x = e := Option.some.inj (hat.symm.trans (hk ▸ he))
        obtain rfl := (openingEntry_spec hopening).2.1
        rw [hk]
        exact ⟨_, takeOverlength_entryAt k x s, confirmedEntry_lasts x _ _ _⟩
      · exact ⟨e, (confirm_entryAt_other hk x _ _ s).trans he, .refl hlive⟩
    · exact ⟨e, he, .refl hlive⟩
  · exact ⟨e, he, .refl hlive⟩

/-- A live entry whose exit is not reached outlasts every piece of work but an edge of its lane taken at a commit. -/
theorem doWork_lasts (fixed : Option (List Slot)) (hwf : s.table.wf = true) (hdone : slot ∉ s.table.doneList)
    (he : entryAt slot s = some e) (hlive : isLive e = true)
    (hexit : reached s.motion.h (exitPosition e s) = false) (hlevel : ∀ l, w ≠ .levelChange l) :
    ∃ c, entryAt slot (doWork fixed w s).1 = some c ∧ Lasts e c := by
  by_cases hdetector : ∃ l, w = .detector l
  · obtain ⟨l, rfl⟩ := hdetector
    exact detectorAdvance_lasts hwf l he hlive
  · by_cases htaken : slot ∈ decisionsTaken fixed w s ∧ decisionDue e s = true
    · obtain ⟨late, full, c, hc, hdecided⟩ := doWork_decided htaken.1 he htaken.2
      obtain ⟨hstate, _, hlane, _, _, hbank, hleading, _⟩ := hdecided.same
      exact ⟨c, hc, by simp [isLive, hstate], hlane, hbank, hleading, hdecided.gains⟩
    · have honly {c : Entry} (hc : entryAt slot s = some c) : c = e := Option.some.inj (hc.symm.trans he)
      obtain ⟨c, hc, hkept⟩ := doWork_slotKept (w := w) fixed hwf (slot := slot)
        (fun l hl => absurd (hl.resolve_right (hlevel l)) fun hw => hdetector ⟨l, hw⟩)
        (by
          rcases not_and_or.1 htaken with h | h
          · exact .inl h
          · exact .inr fun c hc => by rw [honly hc]; simpa using h)
        (fun _ c hc => by rw [honly hc, exitDue, hexit, Bool.and_false]) (fun _ => hdone) e he
      exact ⟨c, hc, hkept.lasts hlive⟩

/-! ### What an action has told its entry, while the entry lasts -/

/-- The entries of an action go on from one state to another with no flag and no fired channel lost. -/
def EntriesLast (a : Action) (s t : State) : Prop :=
  ∀ slot ∈ a.item, ∀ d, entryAt slot s = some d → ∃ e, entryAt slot t = some e ∧ Gains d.flags e.flags d.fired e.fired

theorem FiredIn.last (h : FiredIn n a s) (hlast : EntriesLast a s t) : FiredIn n a t := fun slot hslot => by
  obtain ⟨d, hd, hfired⟩ := h slot hslot
  obtain ⟨e, he, hgains⟩ := hlast slot hslot d hd
  exact ⟨e, he, hgains.fired hfired⟩

theorem JoinedIn.last (h : JoinedIn n a s) (hlast : EntriesLast a s t) : JoinedIn n a t := fun slot hslot => by
  obtain ⟨d, hd, hfired, hjoined⟩ := h slot hslot
  obtain ⟨e, he, hgains⟩ := hlast slot hslot d hd
  refine ⟨e, he, hgains.fired hfired, ?_⟩
  rw [← e.flags.bits_getLsbD.2.2.1]
  exact hgains.bit (by rw [d.flags.bits_getLsbD.2.2.1, hjoined])

theorem DeferredIn.last (h : DeferredIn a s) (hlast : EntriesLast a s t) : DeferredIn a t := fun slot hslot => by
  obtain ⟨d, hd, hdeferred⟩ := h slot hslot
  obtain ⟨e, he, hgains⟩ := hlast slot hslot d hd
  refine ⟨e, he, ?_⟩
  rw [← e.flags.bits_getLsbD.2.1]
  exact hgains.bit (by rw [d.flags.bits_getLsbD.2.1, hdeferred])

theorem RefusedIn.last {h : Word} (hr : RefusedIn h a s t) (hlast : EntriesLast a t u) (heffects : Effects True True t u) :
    RefusedIn h a s u := by
  refine ⟨fun slot hslot => ?_, fun hnone => ?_⟩
  · obtain ⟨d, hd, hcollision⟩ := hr.1 slot hslot
    obtain ⟨e, he, hgains⟩ := hlast slot hslot d hd
    refine ⟨e, he, ?_⟩
    rw [← e.flags.bits_getLsbD.1]
    exact hgains.bit (by rw [d.flags.bits_getLsbD.1, hcollision])
  · obtain ⟨hflag, hoffered⟩ := hr.2 hnone
    exact ⟨heffects.stickySet .exception hflag, hoffered.after heffects⟩

/-! ### How the due actions handed over so far have met their channel (Table 7-4) -/

/-- The actions that met an ACTIVE channel. -/
def MetPulse (n : Channel) (h : Word) (l : List Action) (s u : State) : Prop :=
  ∀ a ∈ l, (a.policy = .join → JoinedIn n a u) ∧ (a.policy = .refuse → RefusedIn h a s u)

/-- The actions that met a channel in RECOVERY. -/
def MetRecovery (h : Word) (l : List Action) (s u : State) : Prop :=
  ∀ a ∈ l, (a.policy = .join → { a with state := .pending true } ∈ u.schedule ∧ DeferredIn a u) ∧
    (a.policy = .refuse → RefusedIn h a s u)

/-- A channel with a pulse of an action under way, and the actions that met it. -/
def Pulsing (n : Channel) (g : Action → Action) (b : Action) (f : PulseEnd) (m : Motion) (l : List Action) (s u : State) : Prop :=
  u.channels[n].state = .active ∧ Shows (activeOn n) g [g (withEnd (joinedEnd m l f) b)] u ∧ MetPulse n m.h l s u

/-- A channel without a pulse, in IDLE or RECOVERY, and the actions that met it there. -/
def Resting (n : Channel) (c : ChannelState) (m : Motion) (l : List Action) (s u : State) : Prop :=
  u.channels[n].state = c ∧ Shows (activeOn n) id [] u ∧ MetRecovery m.h l s u

theorem joinedEnd_append (m : Motion) (l : List Action) (a : Action) (f : PulseEnd) : joinedEnd m (l ++ [a]) f =
    if a.policy = .join then laterEnd m.h (joinedEnd m l f) (pulseFinish m a) else joinedEnd m l f := by
  unfold joinedEnd
  rw [List.filter_append, List.foldl_append]
  split
  · next h => simp [h]
  · next h => simp [h]

theorem filter_modifyFirst_head {α : Type} {p : α → Bool} {f : α → α} {l : List α} {x : α} (h : l.filter p = [x])
    (hf : ∀ y, p y = true → p (f y) = true) : (modifyFirst p f l).filter p = [f x] := by
  induction l with
  | nil => cases h
  | cons y ys ih =>
    unfold modifyFirst
    cases hy : p y with
    | true =>
      rw [List.filter_cons_of_pos hy] at h
      obtain ⟨rfl, hrest⟩ := List.cons.inj h
      rw [if_pos rfl, List.filter_cons_of_pos (hf _ hy), hrest]
    | false =>
      rw [List.filter_cons_of_neg (by simp [hy])] at h
      rw [if_neg Bool.false_ne_true, List.filter_cons_of_neg (by simp [hy]), ih h]

theorem filter_modifyFirst_new {α : Type} {p q : α → Bool} {f : α → α} {l : List α} {x : α} (h : l.filter p = [])
    (hx : l.find? q = some x) (hf : p (f x) = true) : (modifyFirst q f l).filter p = [f x] := by
  induction l with
  | nil => cases hx
  | cons y ys ih =>
    obtain ⟨hy, hys⟩ : p y = false ∧ ys.filter p = [] := by
      cases hy : p y with
      | true => simp [hy] at h
      | false => exact ⟨rfl, by simpa [hy] using h⟩
    unfold modifyFirst
    rw [List.find?_cons] at hx
    cases hqy : q y with
    | true =>
      rw [hqy] at hx
      obtain rfl := Option.some.inj hx
      rw [if_pos rfl, List.filter_cons_of_pos hf, hys]
    | false =>
      rw [hqy] at hx
      rw [if_neg Bool.false_ne_true, List.filter_cons_of_neg (by simp [hy]), ih hys hx]

theorem modifyFirst_mem {α : Type} {q : α → Bool} {f : α → α} {l : List α} {x : α} (hx : l.find? q = some x) :
    f x ∈ modifyFirst q f l := by
  obtain ⟨rest, _, _, hperm⟩ := perm_of_find? hx
  exact (hperm f).mem_iff.2 List.mem_cons_self

/-- A view of actions that leaves their state, such as the one without their links. -/
structure ViewOf (g : Action → Action) : Prop where
  withEnd : ∀ f x, g (Machine.withEnd f x) = Machine.withEnd f (g x)
  state : ∀ x, (g x).state = x.state

theorem view_id : ViewOf id := ⟨fun _ _ => rfl, fun _ => rfl⟩

theorem view_unlinked : ViewOf unlinked := ⟨fun _ _ => rfl, fun _ => rfl⟩

/-! ### The next due action is handed over -/

variable {q : Action → Bool} {g : Action → Action} {f : PulseEnd} {c : ChannelState} {x : Action}

/-- What `Shows` says of a channel's pulse, for the ACTIVE action itself. -/
theorem Shows.pulse (hg : ViewOf g) (h : Shows (activeOn n) g [g (withEnd f b)] s) :
    ∃ c, s.schedule.filter (activeOn n) = [c] ∧ g c = g (withEnd f b) ∧ c.state = .active f ∧ activeOn n c = true := by
  obtain ⟨c, hc, hgc⟩ := List.map_eq_singleton_iff.1 h
  refine ⟨c, hc, hgc, ?_, ?_⟩
  · rw [← hg.state, hgc, hg.state]
    rfl
  · have hmem : c ∈ s.schedule.filter (activeOn n) := by rw [hc]; exact List.mem_cons_self
    exact (List.mem_filter.1 hmem).2

theorem MetPulse.append {h : Word} {l : List Action} (hl : MetPulse n h l s u) (hamends : Amends u t) (heffects : Effects True True u t)
    (ha : (a.policy = .join → JoinedIn n a t) ∧ (a.policy = .refuse → RefusedIn h a s t)) : MetPulse n h (l ++ [a]) s t := by
  intro x hx
  rcases List.mem_append.1 hx with hx | hx
  · exact ⟨fun hp => ((hl x hx).1 hp).amends hamends, fun hp => ((hl x hx).2 hp).amends hamends heffects⟩
  · rw [List.mem_singleton.1 hx]
    exact ha

/-- The next due action finds a pulse on its channel: it is joined or refused (R132, R133). -/
theorem Pulsing.settle (hp : Pulsing n g b f m done s u) (hg : ViewOf g) (hq : Newcomers n q) (hdue : u.schedule.find? q = some a)
    (hm : u.motion = m) (hlinked : Linked [a] u) (heffects : Effects True True s u) :
    Pulsing n g b f m (done ++ [a]) s (settleFirst q u) := by
  obtain ⟨hstate, hshows, hmet⟩ := hp
  obtain ⟨c, hc, hgc, hcstate, _⟩ := hshows.pulse hg
  have hamends := settleFirst_amends q u
  have hstep : Effects True True u (settleFirst q u) := settleFirst_effects q u
  have herase : (u.schedule.eraseP q).filter (activeOn n) = [c] := by
    rw [filter_eraseP_other (fun x hx => hq.not_activeOn hx), hc]
  obtain rfl : a.channel = n := (hq a (List.find?_some hdue)).1
  subst hm
  rcases settleFirst_cases u q with ⟨hnone, _⟩ | ⟨x, hx, hcases⟩
  · rw [hnone] at hdue
    cases hdue
  obtain rfl := Option.some.inj (hx.symm.trans hdue)
  rcases hcases with ⟨hidle, _⟩ | ⟨_, hpolicy, heq⟩ | ⟨_, hpolicy, heq⟩ | ⟨⟨_, hrecovery⟩, _⟩
  · exact absurd (hidle.symm.trans hstate) ChannelState.noConfusion
  · refine ⟨by rw [heq, joinPulse_channels, hstate], ?_, hmet.append hamends hstep ⟨fun _ => heq ▸ joinPulse_joined hlinked,
      fun h => by rw [hpolicy] at h; cases h⟩⟩
    rw [Shows, heq, joinPulse_schedule, filter_modifyFirst_head herase fun y hy => (extendEnd_activeOn hy).1, List.map_singleton,
      joinedEnd_append, if_pos hpolicy]
    have hextend : extendEnd u.motion.h (pulseFinish u.motion x) c =
        withEnd (laterEnd u.motion.h (joinedEnd u.motion done f) (pulseFinish u.motion x)) c := by
      simp [extendEnd, withEnd, hcstate]
    rw [hextend, hg.withEnd, hgc, hg.withEnd, hg.withEnd]
    rfl
  · refine ⟨by rw [heq, refuseNewcomer_channels, hstate], ?_, hmet.append hamends hstep ⟨fun h => (nomatch hpolicy.symm.trans h),
      fun _ => by rw [heq]; exact (refuseNewcomer_refused hlinked).before heffects⟩⟩
    have hnot : x.policy ≠ .join := by rw [hpolicy]; exact Policy.noConfusion
    rw [Shows, heq, refuseNewcomer_schedule, herase, joinedEnd_append, if_neg hnot, List.map_singleton, hgc]
  · exact absurd (hrecovery.symm.trans hstate) ChannelState.noConfusion

/-- The first due action finds its channel IDLE and fires (R131). -/
theorem Resting.fire (hr : Resting n .idle m [] s u) (hq : Newcomers n q) (hdue : u.schedule.find? q = some a) (hm : u.motion = m)
    (hlinked : Linked [a] u) : Pulsing n id a (pulseFinish m a) m [] s (settleFirst q u) ∧ FiredIn n a (settleFirst q u) := by
  obtain ⟨hstate, hshows, _⟩ := hr
  obtain rfl : a.channel = n := (hq a (List.find?_some hdue)).1
  subst hm
  have heq : settleFirst q u = Machine.fire q a u := by
    unfold settleFirst
    rw [hdue]
    dsimp only
    rw [hstate]
  rw [heq]
  refine ⟨⟨?_, ?_, fun x hx => by cases hx⟩, fire_fired hlinked⟩
  · rw [fire_channels]
    exact congrArg OutputChannel.state ((Vector.getElem_set_self _))
  · rw [Shows, List.map_id] at hshows
    rw [Shows, List.map_id, fire_schedule, filter_modifyFirst_new hshows hdue (by simp [activeOn, withEnd, Action.isActive])]
    rfl

theorem MetRecovery.append {h : Word} {l : List Action} (hl : MetRecovery h l s u) (hamends : Amends u t)
    (heffects : Effects True True u t) (hmem : ∀ x ∈ l, { x with state := .pending true } ∈ u.schedule →
      { x with state := .pending true } ∈ t.schedule)
    (ha : (a.policy = .join → { a with state := .pending true } ∈ t.schedule ∧ DeferredIn a t) ∧
      (a.policy = .refuse → RefusedIn h a s t)) : MetRecovery h (l ++ [a]) s t := by
  intro x hx
  rcases List.mem_append.1 hx with hx | hx
  · exact ⟨fun hp => ⟨hmem x hx ((hl x hx).1 hp).1, ((hl x hx).1 hp).2.amends hamends⟩,
      fun hp => ((hl x hx).2 hp).amends hamends heffects⟩
  · rw [List.mem_singleton.1 hx]
    exact ha

/-- The next due action finds its channel in RECOVERY: it is deferred or refused (R133, R134). -/
theorem Resting.settle (hr : Resting n c m done s u) (hidle : c ≠ .idle) (hactive : c ≠ .active) (hq : Newcomers n q)
    (hqd : ∀ x : Action, q { x with state := .pending true } = false) (hdue : u.schedule.find? q = some a) (hm : u.motion = m)
    (hlinked : Linked [a] u) (heffects : Effects True True s u) : Resting n c m (done ++ [a]) s (settleFirst q u) := by
  obtain ⟨hstate, hshows, hmet⟩ := hr
  rw [Shows, List.map_id] at hshows
  have hamends := settleFirst_amends q u
  have hstep : Effects True True u (settleFirst q u) := settleFirst_effects q u
  have hmem (x : Action) (hx : { x with state := .pending true } ∈ u.schedule) :
      { x with state := .pending true } ∈ (settleFirst q u).schedule := settleFirst_mem hx (hqd x) rfl
  obtain rfl : a.channel = n := (hq a (List.find?_some hdue)).1
  subst hm
  rcases settleFirst_cases u q with ⟨hnone, _⟩ | ⟨x, hx, hcases⟩
  · rw [hnone] at hdue
    cases hdue
  obtain rfl := Option.some.inj (hx.symm.trans hdue)
  rcases hcases with ⟨h, _⟩ | ⟨h, _⟩ | ⟨_, hpolicy, heq⟩ | ⟨_, hpolicy, heq⟩
  · exact absurd (hstate.symm.trans h) hidle
  · exact absurd (hstate.symm.trans h) hactive
  · refine ⟨by rw [heq, refuseNewcomer_channels, hstate], ?_, hmet.append hamends hstep (fun y _ => hmem y)
      ⟨fun h => (nomatch hpolicy.symm.trans h), fun _ => by rw [heq]; exact (refuseNewcomer_refused hlinked).before heffects⟩⟩
    rw [Shows, List.map_id, heq, refuseNewcomer_schedule, filter_eraseP_other (fun y hy => hq.not_activeOn hy), hshows]
  · refine ⟨by rw [heq, deferNewcomer_channels, hstate], ?_, hmet.append hamends hstep (fun y _ => hmem y)
      ⟨fun _ => ⟨?_, heq ▸ deferNewcomer_deferred hlinked⟩, fun h => by rw [hpolicy] at h; cases h⟩⟩
    · rw [Shows, List.map_id, heq, deferNewcomer_schedule, filter_modifyFirst (fun y hy => ⟨hq.not_activeOn hy, by
        simp [activeOn, Action.isActive]⟩), hshows]
    · rw [heq, deferNewcomer_schedule]
      exact modifyFirst_mem (f := fun x => { x with state := .pending true }) hdue

end Sys2Proof.Machine
end

section
set_option Elab.async false
/-! PROOFS. Table 7-4 for the due actions of a channel, whatever the order of the work of the advance (R117, R131 to R135). -/

namespace Sys2Proof.Machine

variable {s t u : State} {slot : Slot} {d e : Entry} {n : Channel} {left : List AdvanceWork} {fixed : Option (List Slot)}
  {w : AdvanceWork} {due back : Channel → Prop} {a b : Action} {m : Motion} {done rest : List Action} {met : ChannelState}
  {pulse : Option (Action × PulseEnd)} {f : PulseEnd} {g : Action → Action} {c : ChannelState}

/-! ### The end of a pulse that others join -/

theorem laterEnd_ne {h : Word} {x y : PulseEnd} (hx : x ≠ .position h) (hy : y ≠ .position h) : laterEnd h x y ≠ .position h := by
  unfold laterEnd
  split
  · split
    · exact hy
    · exact hx
  · exact PulseEnd.noConfusion
  · exact hx

theorem pulseFinish_ne (hwidth : a.width ≠ 0) : pulseFinish m a ≠ .position m.h := by
  unfold pulseFinish
  split
  · intro h
    have hzero : a.width.setWidth 32 = 0 := by
      have := PulseEnd.position.inj h
      bv_omega
    exact hwidth (by bv_omega)
  · exact PulseEnd.noConfusion

theorem joinedEnd_ne (hf : f ≠ .position m.h) (l : List Action) (hwidth : ∀ a ∈ l, a.width ≠ 0) :
    joinedEnd m l f ≠ .position m.h := by
  induction l using List.reverseRecOn with
  | nil => exact hf
  | append_singleton l a ih =>
    have hl := ih fun x hx => hwidth x (List.mem_append_left _ hx)
    rw [joinedEnd_append]
    split
    · exact laterEnd_ne hl (pulseFinish_ne (hwidth a (List.mem_append_right _ List.mem_cons_self)))
    · exact hl

/-! ### How the actions handed over so far have met their channel -/

/-- How due actions have met their channel, which was then as `met` says, with the pulse of `pulse` where it was ACTIVE. -/
inductive Met (n : Channel) (m : Motion) (s : State) : ChannelState → Option (Action × PulseEnd) → List Action → State → Prop
  | pulse {b : Action} {f : PulseEnd} {done : List Action} {u : State} (h : Pulsing n unlinked b f m done s u) :
      Met n m s .active (some (b, f)) done u
  | idle {u : State} (h : Resting n .idle m [] s u) : Met n m s .idle none [] u
  | fired {a : Action} {rest : List Action} {u : State} (h : Pulsing n id a (pulseFinish m a) m rest s u) (hfired : FiredIn n a u) :
      Met n m s .idle none (a :: rest) u
  | recovery {c : ChannelState} {done : List Action} {u : State} (hidle : c ≠ .idle) (hactive : c ≠ .active)
      (h : Resting n c m done s u) : Met n m s c none done u

theorem find?_of_filter_cons {α : Type} {p : α → Bool} {l rest : List α} {x : α} (h : l.filter p = x :: rest) : l.find? p = some x := by
  rw [← List.head?_filter, h]
  rfl

/-- One more due action is handed over. -/
theorem Met.settle (h : Met n m s met pulse done u) (hdue : u.schedule.find? (dueOn n m.h) = some a) (hm : u.motion = m)
    (hlinked : Linked [a] u) (heffects : Effects True True s u) :
    Met n m s met pulse (done ++ [a]) (settleFirst (dueOn n m.h) u) := by
  have hq := newcomers_dueOn n m.h
  cases h with
  | pulse h => exact .pulse (h.settle view_unlinked hq hdue hm hlinked heffects)
  | idle h =>
    obtain ⟨hpulsing, hfired⟩ := h.fire hq hdue hm hlinked
    exact .fired hpulsing hfired
  | fired h hfired => exact .fired (h.settle view_id hq hdue hm hlinked heffects) (hfired.amends (settleFirst_amends _ u))
  | recovery hidle hactive h =>
    exact .recovery hidle hactive (h.settle hidle hactive hq (fun x => by simp [dueOn]) hdue hm hlinked heffects)

/-- All the actions that are due are handed over. -/
theorem Met.settleAll (h : Met n m s met pulse done u) (hdue : u.schedule.filter (dueOn n m.h) = rest) (hm : u.motion = m)
    (hlinked : Linked rest u) (heffects : Effects True True s u) (fuel : Nat) (hfuel : rest.length ≤ fuel) :
    Met n m s met pulse (done ++ rest) (settleAll (dueOn n m.h) fuel u) := by
  induction fuel generalizing done rest u with
  | zero =>
    obtain rfl := List.length_eq_zero_iff.1 (Nat.le_zero.1 hfuel)
    rwa [List.append_nil]
  | succ fuel ih =>
    cases rest with
    | nil =>
      rw [settleAll_of_nil hdue, List.append_nil]
      exact h
    | cons a rest =>
      have hstep := h.settle (find?_of_filter_cons hdue) hm (fun x hx => hlinked x (by
        rw [List.mem_singleton.1 hx]; exact List.mem_cons_self)) heffects
      have hfilter : (settleFirst (dueOn n m.h) u).schedule.filter (dueOn n m.h) = rest := by
        rw [(settleFirst_filter (newcomers_dueOn n m.h) (fun f x _ => by simp [dueOn]) (.inl fun x _ => by simp [dueOn])).1, hdue]
        rfl
      have hrest := ih hstep hfilter (by rw [settleFirst_motion, hm])
        (Linked.amends (fun x hx => hlinked x (List.mem_cons_of_mem _ hx)) (settleFirst_amends _ u))
        (heffects.trans (settleFirst_effects _ u)) (Nat.le_of_succ_le_succ hfuel)
      rwa [List.append_assoc, List.singleton_append] at hrest

/-! ### What leaves all of that -/

/-- From u to t a channel's state and pulse stay, with the deferred actions given and the entries of the due ones. -/
structure Undisturbed (n : Channel) (due : List Action) (u t : State) : Prop where
  channel : t.channels[n].state = u.channels[n].state
  pulse : ∀ base, Shows (activeOn n) unlinked base u → Shows (activeOn n) unlinked base t
  linked : ∀ base, (∀ x ∈ base, ∃ a ∈ due, x.item = a.item) → Shows (activeOn n) id base u → Shows (activeOn n) id base t
  deferred : ∀ a ∈ due, { a with state := .pending true } ∈ u.schedule → { a with state := .pending true } ∈ t.schedule
  entries : ∀ a ∈ due, EntriesLast a u t
  effects : Effects True True u t

theorem MetPulse.keep {h : Word} {l due : List Action} (hl : MetPulse n h l s u) (hkept : Undisturbed n due u t)
    (hsub : ∀ a ∈ l, a ∈ due) : MetPulse n h l s t := fun a ha =>
  ⟨fun hp => ((hl a ha).1 hp).last (hkept.entries a (hsub a ha)),
    fun hp => ((hl a ha).2 hp).last (hkept.entries a (hsub a ha)) hkept.effects⟩

theorem Resting.keep {due : List Action} (h : Resting n c m done s u) (hkept : Undisturbed n due u t) (hsub : ∀ a ∈ done, a ∈ due) :
    Resting n c m done s t := by
  obtain ⟨hstate, hshows, hmet⟩ := h
  refine ⟨hkept.channel.trans hstate, hkept.linked [] (by simp) hshows, fun a ha => ⟨fun hp => ?_, fun hp => ?_⟩⟩
  · obtain ⟨hmem, hdeferred⟩ := (hmet a ha).1 hp
    exact ⟨hkept.deferred a (hsub a ha) hmem, hdeferred.last (hkept.entries a (hsub a ha))⟩
  · exact ((hmet a ha).2 hp).last (hkept.entries a (hsub a ha)) hkept.effects

theorem Met.keep {due : List Action} (h : Met n m s met pulse done u) (hkept : Undisturbed n due u t) (hsub : ∀ a ∈ done, a ∈ due) :
    Met n m s met pulse done t := by
  cases h with
  | pulse h =>
    obtain ⟨hstate, hshows, hmet⟩ := h
    exact .pulse ⟨hkept.channel.trans hstate, hkept.pulse _ hshows, hmet.keep hkept hsub⟩
  | idle h => exact .idle (h.keep hkept hsub)
  | fired h hfired =>
    obtain ⟨hstate, hshows, hmet⟩ := h
    have hmem := hsub _ List.mem_cons_self
    exact .fired ⟨hkept.channel.trans hstate, hkept.linked _ (fun x hx => ⟨_, hmem, by rw [List.mem_singleton.1 hx]; rfl⟩) hshows,
      hmet.keep hkept fun a ha => hsub a (List.mem_cons_of_mem _ ha)⟩ (hfired.last (hkept.entries _ hmem))
  | recovery hidle hactive h => exact .recovery hidle hactive (h.keep hkept hsub)

/-- No pulse of a channel ends once its due actions are being handed over: none of them has a width of 0 (V8). -/
theorem Met.no_end (h : Met n m s met pulse done u) (hh : u.motion.h = m.h) (hwidth : ∀ a ∈ done, a.width ≠ 0)
    (hpulse : ∀ b f, pulse = some (b, f) → f ≠ .position m.h) : countsEndDue n u = false := by
  have hpulsing {g : Action → Action} {b : Action} {f : PulseEnd} {l : List Action} (hg : ViewOf g) (hp : Pulsing n g b f m l s u)
      (hf : f ≠ .position m.h) (hl : ∀ a ∈ l, a.width ≠ 0) : countsEndDue n u = false := by
    obtain ⟨_, hshows, _⟩ := hp
    obtain ⟨x, hx, _, hstate, _⟩ := hshows.pulse hg
    have haction : activeAction n u = some x := by rw [activeAction_eq_head?, hx]; rfl
    rw [countsEndDue_of_action haction hstate, hh]
    exact decide_eq_false (joinedEnd_ne hf l hl)
  have hresting {c : ChannelState} {l : List Action} (hr : Resting n c m l s u) : countsEndDue n u = false := by
    obtain ⟨_, hshows, _⟩ := hr
    rw [Shows, List.map_id] at hshows
    simp [countsEndDue, activeAction_eq_head?, hshows]
  cases h with
  | pulse h => exact hpulsing view_unlinked h (hpulse _ _ rfl) hwidth
  | idle h => exact hresting h
  | fired h _ =>
    exact hpulsing view_id h (pulseFinish_ne (hwidth _ List.mem_cons_self)) fun a ha => hwidth a (List.mem_cons_of_mem _ ha)
  | recovery _ _ h => exact hresting h

end Sys2Proof.Machine
end

section
set_option Elab.async false
/-! PROOFS. The due actions of a channel through the walk of an advance that is no mark, and what has become of them at its end
(Table 7-4). -/

namespace Sys2Proof.Machine

variable {s t u : State} {slot : Slot} {d e : Entry} {n : Channel} {left : List AdvanceWork} {fixed : Option (List Slot)}
  {w : AdvanceWork} {a b : Action} {m : Motion} {due done rest : List Action} {met : ChannelState}
  {pulse : Option (Action × PulseEnd)}

/-! ### What holds of the channel all along -/

/-- The entries that actions of s are linked to have lasted. -/
def EntriesOnBelt (due : List Action) (s u : State) : Prop :=
  ∀ a ∈ due, ∀ slot ∈ a.item, ∃ e d, entryAt slot s = some e ∧ entryAt slot u = some d ∧ Lasts e d ∧
    bankOf e.bank u = bankOf e.bank s

theorem EntriesOnBelt.linked (h : EntriesOnBelt due s u) (hsub : ∀ a ∈ rest, a ∈ due) : Linked rest u := fun a ha slot hslot => by
  obtain ⟨_, d, _, hd, _⟩ := h a (hsub a ha) slot hslot
  exact ⟨d, hd⟩

/-- Where the due actions of a channel stand: its COUNTS pulse has still to end, or some have been handed over and the rest waits
for the channel's work. -/
def DueStands (n : Channel) (m : Motion) (due : List Action) (met : ChannelState) (pulse : Option (Action × PulseEnd)) (s : State)
    (left : List AdvanceWork) (u : State) : Prop :=
  (Shows (dueOn n m.h) id due u ∧ .channel n ∈ left ∧ pulse = none ∧ ∃ b : Action, b.state = .active (.position m.h) ∧
    met = afterPulse m.tick b.recovery ∧ Shows (activeOn n) unlinked [unlinked b] u) ∨
  ∃ done rest, due = done ++ rest ∧ Shows (dueOn n m.h) id rest u ∧ Met n m s met pulse done u ∧ (rest ≠ [] → .channel n ∈ left)

theorem Met.of_resting (h : Resting n met m [] s u) (hactive : met ≠ .active) : Met n m s met none [] u := by
  by_cases hidle : met = .idle
  · subst hidle
    exact .idle h
  · exact .recovery hidle hactive h

/-- The end of the COUNTS pulse leaves the channel in IDLE or RECOVERY for its due actions (R135). -/
theorem endPulse_met {duty back : Channel → Prop} (hline : LineInv duty back u) (hb : b.state = .active (.position m.h))
    (hshows : Shows (activeOn n) unlinked [unlinked b] u) (hm : u.motion = m) :
    countsEndDue n u = true ∧ Met n m s (afterPulse m.tick b.recovery) none [] (endPulse n u) := by
  have hsome := hshows.activeAction
  obtain ⟨c, hc, hcb⟩ := Option.map_eq_some_iff.1 hsome
  have hstate : c.state = .active (.position m.h) := (show (unlinked c).state = (unlinked b).state by rw [hcb]).trans hb
  have hrecovery : c.recovery = b.recovery := show (unlinked c).recovery = (unlinked b).recovery by rw [hcb]
  obtain ⟨hempty, hafter⟩ := endPulse_ended hline hc
  refine ⟨by rw [countsEndDue_of_action hc hstate, hm]; exact decide_eq_true rfl,
    .of_resting ⟨by rw [hafter, hm, hrecovery], ?_, fun x hx => by cases hx⟩ (afterPulse_ne_active _ _)⟩
  rw [Shows, hempty]
  rfl

theorem takeDue_met (h : Met n m s met pulse done u) (hdue : Shows (dueOn n m.h) id rest u) (hm : u.motion = m)
    (hlinked : Linked rest u) (heffects : Effects True True s u) :
    Met n m s met pulse (done ++ rest) (takeDue n u) ∧ Shows (dueOn n m.h) id [] (takeDue n u) := by
  rw [Shows, List.map_id] at hdue
  have hall := h.settleAll hdue hm hlinked heffects u.schedule.length (by rw [← hdue]; exact List.length_filter_le _ _)
  have hnone := takeDue_filter n u
  rw [takeDue, hm] at *
  exact ⟨hall, by rw [Shows, List.map_id]; exact hnone⟩

/-- The channel's own work, whole or in parts, hands over its due actions in their order (R117, R135). -/
theorem DueStands.work {duty back : Channel → Prop} (h : DueStands n m due met pulse s left u) (hown : ofChannel w n)
    (hready : workReady u left w = true) (hline : LineInv duty back u) (hm : u.motion = m) (hbelt : EntriesOnBelt due s u)
    (heffects : Effects True True s u) (hwidth : ∀ a ∈ due, a.width ≠ 0)
    (hpulse : ∀ b f, pulse = some (b, f) → f ≠ .position m.h) :
    DueStands n m due met pulse s (left.erase w ++ (doWork fixed w u).2) (doWork fixed w u).1 := by
  have hfollow := not_mem_follows (x := .channel n) (by simp) (by simp) fixed w u
  rcases h with ⟨hdue, hleft, rfl, b, hb, rfl, hshows⟩ | ⟨done, rest, rfl, hdue, hmet, hleft⟩
  · obtain ⟨hcounts, hmet⟩ := endPulse_met hline hb hshows hm
    have hdue' : Shows (dueOn n m.h) id due (endPulse n u) := hdue.of_filter (endPulse_dueOn _ u)
    have hm' : (endPulse n u).motion = m := by rw [(endPulse_frame n u).1, hm]
    have hend : Effects True True u (endPulse n u) := endPulse_effects n u
    rcases hown with rfl | rfl
    · have hwork : (doWork fixed (.channel n) u).1 = takeDue n (endPulse n u) := by simp [doWork, channelAdvance, hcounts]
      obtain ⟨hall, hnone⟩ := takeDue_met hmet hdue' hm'
        ((hbelt.linked fun _ => id).amends (.of_table (endPulse_table u n))) (heffects.trans hend)
      rw [hwork]
      exact .inr ⟨due, [], by simp, hnone, hall, by simp⟩
    · have hwork : (doWork fixed (.channelEvent n) u).1 = endPulse n u := by simp [doWork, channelEvent, hcounts]
      rw [hwork]
      exact .inr ⟨[], due, rfl, hdue', hmet, fun _ => (mem_left_iff (by simp) hfollow).2 hleft⟩
  · have hcounts : countsEndDue n u = false := hmet.no_end (by rw [hm]) (fun a ha => hwidth a (List.mem_append_left _ ha)) hpulse
    have hlinked : Linked rest u := hbelt.linked fun a ha => List.mem_append_right _ ha
    rcases hown with rfl | rfl
    · have hwork : (doWork fixed (.channel n) u).1 = takeDue n u := by simp [doWork, channelAdvance, hcounts]
      obtain ⟨hall, hnone⟩ := takeDue_met hmet hdue hm hlinked heffects
      rw [hwork]
      exact .inr ⟨done ++ rest, [], by simp, hnone, hall, by simp⟩
    · have hwork : (doWork fixed (.channelEvent n) u).1 = settleFirst (dueOn n m.h) u := by
        simp [doWork, channelEvent, hcounts, hm]
      rw [Shows, List.map_id] at hdue
      rw [hwork]
      cases rest with
      | nil =>
        rw [settleFirst_of_none hdue]
        exact .inr ⟨done, [], rfl, by rw [Shows, hdue]; rfl, hmet, fun h => absurd rfl h⟩
      | cons a rest =>
        have hfilter : (settleFirst (dueOn n m.h) u).schedule.filter (dueOn n m.h) = rest := by
          rw [(settleFirst_filter (newcomers_dueOn n m.h) (fun f x _ => by simp [dueOn]) (.inl fun x _ => by simp [dueOn])).1, hdue]
          rfl
        refine .inr ⟨done ++ [a], rest, by simp, by rw [Shows, List.map_id, hfilter], hmet.settle (find?_of_filter_cons hdue) hm
          (fun x hx => hlinked x (by rw [List.mem_singleton.1 hx]; exact List.mem_cons_self)) heffects,
          fun _ => (mem_left_iff (by simp) hfollow).2 (hleft (by simp))⟩

theorem DueStands.keep {left' : List AdvanceWork} (h : DueStands n m due met pulse s left u) (hkept : Undisturbed n due u t)
    (hdue : ∀ rest, (∀ a ∈ rest, a ∈ due) → Shows (dueOn n m.h) id rest u → Shows (dueOn n m.h) id rest t)
    (hleft : .channel n ∈ left → .channel n ∈ left') : DueStands n m due met pulse s left' t := by
  rcases h with ⟨hall, hmem, hnone, b, hb, hmet, hshows⟩ | ⟨done, rest, rfl, hrest, hmet, hmem⟩
  · exact .inl ⟨hdue due (fun _ => id) hall, hleft hmem, hnone, b, hb, hmet, hkept.pulse _ hshows⟩
  · exact .inr ⟨done, rest, rfl, hdue rest (fun a ha => List.mem_append_right _ ha) hrest,
      hmet.keep hkept fun a ha => List.mem_append_left _ ha, fun h => hleft (hmem h)⟩

/-! ### The other work of the advance -/

/-- At an advance that is no mark an entry whose exit is not reached does not leave. -/
theorem EntriesOnBelt.not_leaves (h : EntriesOnBelt due s u) (hh : u.motion.h = s.motion.h + 1) (hwf : u.table.wf = true)
    (hexit : ∀ a ∈ due, ∀ slot ∈ a.item, ∀ e, entryAt slot s = some e → reached (s.motion.h + 1) (exitPosition e s) = false)
    (hlevel : ∀ l, w ≠ .levelChange l) (hleaves : Leaves w u slot) : ∀ a ∈ due, a.item ≠ some slot := by
  intro a ha hitem
  obtain ⟨e, d, he, hd, hlasts, hkept⟩ := h a ha slot hitem
  rcases hleaves with ⟨l, _, hw, _⟩ | ⟨_, hmem⟩
  · exact hlevel l hw
  · obtain ⟨x, hx, rfl⟩ := List.mem_map.1 hmem
    obtain ⟨hlisted, hdue⟩ := mem_leavingEntries.1 hx
    obtain rfl := Option.some.inj ((entryAt_of_mem hwf hlisted).symm.trans hd)
    rw [exitDue, hh, (positions_congr hlasts.bank hlasts.lane hlasts.leading hkept).2.2, hexit a ha _ hitem e he,
      Bool.and_false] at hdue
    cases hdue

theorem EntriesOnBelt.work (h : EntriesOnBelt due s u) (htable : TableInv u) (hh : u.motion.h = s.motion.h + 1)
    (hexit : ∀ a ∈ due, ∀ slot ∈ a.item, ∀ e, entryAt slot s = some e → reached (s.motion.h + 1) (exitPosition e s) = false)
    (hlevel : ∀ l, w ≠ .levelChange l) :
    EntriesOnBelt due s (doWork fixed w u).1 ∧ ∀ a ∈ due, EntriesLast a u (doWork fixed w u).1 := by
  have hone (a : Action) (ha : a ∈ due) (slot : Slot) (hslot : slot ∈ a.item) : ∃ e d c, entryAt slot s = some e ∧
      entryAt slot u = some d ∧ entryAt slot (doWork fixed w u).1 = some c ∧ Lasts e d ∧ Lasts d c ∧
      bankOf e.bank (doWork fixed w u).1 = bankOf e.bank s := by
    obtain ⟨e, d, he, hd, hlasts, hkept⟩ := h a ha slot hslot
    have hposition := (positions_congr hlasts.bank hlasts.lane hlasts.leading hkept).2.2
    obtain ⟨c, hc, hdc⟩ := doWork_lasts fixed htable.wf (htable.not_done hd hlasts.live) hd hlasts.live
      (by rw [hposition, hh, hexit a ha slot hslot e he]) hlevel
    refine ⟨e, d, c, he, hd, hc, hlasts, hdc, ?_⟩
    rw [← hlasts.bank, doWork_bankOf fixed hd hlasts.live, hlasts.bank, hkept]
  refine ⟨fun a ha slot hslot => ?_, fun a ha slot hslot x hx => ?_⟩
  · obtain ⟨e, _, c, he, _, hc, hed, hdc, hkept⟩ := hone a ha slot hslot
    exact ⟨e, c, he, hc, hed.trans hdc, hkept⟩
  · obtain ⟨_, d, c, _, hd, hc, _, hdc, _⟩ := hone a ha slot hslot
    obtain rfl := Option.some.inj (hd.symm.trans hx)
    exact ⟨c, hc, hdc.gains⟩

/-- Work that is not the channel's own leaves it and its due actions undisturbed, while their entries stay. -/
theorem doWork_undisturbed (hother : ¬ ofChannel w n) (hwf : u.table.wf = true)
    (hstays : ∀ slot, Leaves w u slot → ∀ a ∈ due, a.item ≠ some slot)
    (hentries : ∀ a ∈ due, EntriesLast a u (doWork fixed w u).1) : Undisturbed n due u (doWork fixed w u).1 where
  channel := by rw [doWork_channel fixed hother u]
  pulse base h := h.doWork (watch_activeOn n u.motion.h) (detaches_activeOn n base) rfl fixed hother fun _ _ => trivial
  linked base hbase h := h.doWork (watch_activeOn n u.motion.h) (detaches_id (fun _ => rfl) base) rfl fixed hother
    fun slot hslot x hx => by
      obtain ⟨a, ha, hitem⟩ := hbase x hx
      rw [hitem]
      exact hstays slot hslot a ha
  deferred a ha hmem := doWork_mem fixed hmem (waits_of_deferred _ rfl) fun slot hslot => hstays slot hslot a ha
  entries := hentries
  effects := doWork_effects fixed w trivial fun _ => hwf

theorem WalkEnd.effects (h : WalkEnd left u t) : Effects True True u t := by
  rcases h with ⟨_, _, rfl⟩ | ⟨_, rfl⟩
  · exact (Effects.refl u).settlePosts.settleDrain
  · exact (Effects.refl u).enterStopped.settlePosts

theorem WalkEnd.undisturbed (h : WalkEnd left u t) (htable : TableInv u) (hbelt : EntriesOnBelt due s u) : Undisturbed n due u t := by
  obtain ⟨hschedule, hchannels⟩ := h.line
  refine ⟨by rw [hchannels], fun base hb => hb.of_schedule hschedule, fun base _ hb => hb.of_schedule hschedule,
    fun a _ hmem => by rwa [hschedule], fun a ha slot hslot x hx => ?_, h.effects⟩
  obtain ⟨_, d, _, hd, hlasts, _⟩ := hbelt a ha slot hslot
  obtain rfl := Option.some.inj (hd.symm.trans hx)
  exact ⟨d, (h.of_live htable hd hlasts.live).2.2, Gains.refl _ _⟩

/-! ### What a met action comes to -/

theorem Met.of_idle (h : Met n m s .idle pulse (a :: rest) u) :
    Pulsing n id a (pulseFinish m a) m rest s u ∧ FiredIn n a u := by
  cases h with
  | fired h hfired => exact ⟨h, hfired⟩
  | recovery hidle _ _ => exact absurd rfl hidle

theorem Met.of_active (h : Met n m s .active pulse done u) : ∃ b f, pulse = some (b, f) ∧ Pulsing n unlinked b f m done s u := by
  cases h with
  | pulse h => exact ⟨_, _, rfl, h⟩
  | recovery _ hactive _ => exact absurd rfl hactive

theorem Met.of_recovery (h : Met n m s met pulse done u) (hidle : met ≠ .idle) (hactive : met ≠ .active) :
    Resting n met m done s u := by
  cases h with
  | pulse h => exact absurd rfl hactive
  | idle h => exact absurd rfl hidle
  | fired h _ => exact absurd rfl hidle
  | recovery _ _ h => exact h

/-- Where all due actions of a channel stand at the start of the walk. -/
theorem DueStands.start (hline : LineInv noChannel noChannel s) (hdue : s.schedule.filter (dueOn n (s.motion.h + 1)) = due) :
    let m := (stepForward s).motion
    (activeAction n s = none → DueStands n m due s.channels[n].state none s advanceWork (stepForward s)) ∧
    ∀ b f, activeAction n s = some b → b.state = .active f →
      if f = .position m.h then DueStands n m due (afterPulse m.tick b.recovery) none s advanceWork (stepForward s)
      else DueStands n m due .active (some (b, f)) s advanceWork (stepForward s) := by
  intro m
  have hshows : Shows (dueOn n m.h) id due (stepForward s) := by rw [Shows, List.map_id]; exact hdue
  have hchannel := channel_mem_advanceWork n
  refine ⟨fun hnone => ?_, fun b f hb hf => ?_⟩
  · have hstate : s.channels[n].state ≠ .active := fun h => by
      have hcount := hline.schedule.active n
      rw [if_pos h, activeCount, List.countP_eq_length_filter, filter_eq_nil_of_activeAction_none hnone] at hcount
      cases hcount
    refine .inr ⟨[], due, rfl, hshows, .of_resting ⟨rfl, ?_, fun x hx => by cases hx⟩ hstate, fun _ => hchannel⟩
    rw [Shows, stepForward_schedule, filter_eq_nil_of_activeAction_none hnone]
    rfl
  · have hactive := hline.schedule.active_of_action hb
    have hpulse : Shows (activeOn n) unlinked [unlinked b] (stepForward s) := by
      have hcount := hline.schedule.active n
      rw [if_pos hactive, activeCount, List.countP_eq_length_filter, List.length_eq_one_iff] at hcount
      obtain ⟨c, hc⟩ := hcount
      rw [activeAction_eq_head?, hc] at hb
      obtain rfl := Option.some.inj hb
      rw [Shows, stepForward_schedule, hc]
      rfl
    split
    · next hends => exact .inl ⟨hshows, hchannel, rfl, b, by rw [hf, hends], rfl, hpulse⟩
    · refine .inr ⟨[], due, rfl, hshows, .pulse ⟨hactive, ?_, fun x hx => by cases hx⟩, fun _ => hchannel⟩
      have hsame : withEnd (joinedEnd m [] f) b = b := by simp [withEnd, joinedEnd, ← hf]
      rwa [hsame]

/-- Along the walk the due actions of a channel meet it one after another, and at the end of the advance all have. -/
theorem due_walk (hs : LineSound s) (hmay : canAdvance s = true) (hmark : s.motion.h + 1 ≠ s.motion.m)
    (hdue : s.schedule.filter (dueOn n (s.motion.h + 1)) = due)
    (hexit : ∀ a ∈ due, ∀ slot ∈ a.item, ∀ e, entryAt slot s = some e → reached (s.motion.h + 1) (exitPosition e s) = false)
    (first : List AdvanceWork) (hstart : DueStands n (stepForward s).motion due met pulse s advanceWork (stepForward s))
    (hpulse : ∀ b f, pulse = some (b, f) → f ≠ .position (s.motion.h + 1)) :
    ∃ t, exec (.advance first) s = .next t ∧ t.schedule.filter (dueOn n (s.motion.h + 1)) = [] ∧
      Met n (stepForward s).motion s met pulse due t := by
  have hline₀ := (lineSound_iff.1 hs).2.2
  have hmem {a : Action} (ha : a ∈ due) : a ∈ s.schedule := (List.mem_filter.1 (hdue ▸ ha)).1
  obtain ⟨left, fixed, u, t, hexec, hadvance, _, hline, ⟨_, hbelt, _, hstands⟩, hend⟩ := advance_walk_sound hs hmay first
    (P := fun left _ u => (∀ l, .levelChange l ∉ left) ∧ EntriesOnBelt due s u ∧ Effects True True s u ∧
      DueStands n (stepForward s).motion due met pulse s left u)
    ⟨levelChange_not_mem_advanceWork, fun a ha slot hslot => by
      obtain ⟨x, hx, rfl, hlive, _⟩ := hs.links.1 a (hmem ha) slot hslot
      exact ⟨x.2, x.2, entryAt_of_mem hs.table.1 hx, entryAt_of_mem hs.table.1 hx, .refl hlive, by cases x.2.bank <;> rfl⟩,
      .then (.refl s) (.motion (stepForward s).motion ⟨rfl, rfl, rfl, rfl⟩), hstart⟩
    fun left fixed w u hadvance _ hline hleft hready hdrain _ ⟨hnone, hbelt, heffects, hstands⟩ => by
      have hm : u.motion = (stepForward s).motion := by
        rw [hadvance.motion, hadvance.kept (.inl hmark)]
        rfl
      have hlevel (l : Lane) : w ≠ .levelChange l := fun h => hnone l (levelChange_ready (h ▸ hready))
      have hwork : Effects True True u (doWork fixed w u).1 := doWork_effects fixed w trivial fun _ => hline.table.wf
      obtain ⟨hbelt', hentries⟩ := hbelt.work (fixed := fixed) hline.table hadvance.h hexit hlevel
      refine ⟨fun l => hadvance.no_levelChange hready (fun h => absurd h hmark) (hnone l), hbelt', heffects.trans hwork, ?_⟩
      by_cases hown : ofChannel w n
      · exact hstands.work hown hready hline hm hbelt heffects
          (fun a ha => (hline₀.schedule.actions a (hmem ha)).width) hpulse
      · have hstays := fun slot => hbelt.not_leaves (slot := slot) hadvance.h hline.table.wf hexit hlevel
        have hw : w ≠ .channel n := fun h => hown (.inl h)
        refine hstands.keep (doWork_undisturbed hown hline.table.wf hstays hentries) (fun rest hsub hrest => ?_) fun h =>
          (mem_left_iff (Ne.symm hw) (not_mem_follows (by simp) (by simp) fixed w u)).2 h
        exact hrest.doWork (watch_dueOn n _) (detaches_dueOn n _ rest) (by rw [hm]) fixed hown fun slot hslot a ha =>
          hstays slot hslot a (hsub a ha)
  have hkept := hend.undisturbed (n := n) hline.table hbelt
  have hempty : .channel n ∈ left → u.schedule = [] := fun hchannel => by
    rcases hend with ⟨hleft, _⟩ | ⟨hdone, _⟩
    · simp [hleft] at hchannel
    · exact ((drainDone_iff u).1 hdone).2.2
  rcases hstands with ⟨_, hchannel, _, b, _, _, hshows⟩ | ⟨done, rest, hall, hrest, hmet, hchannel⟩
  · rw [Shows, hempty hchannel] at hshows
    cases hshows
  · obtain rfl : rest = [] := by
      by_contra hne
      rw [Shows, hempty (hchannel hne)] at hrest
      exact hne hrest.symm
    rw [List.append_nil] at hall
    subst hall
    rw [Shows, List.map_id] at hrest
    exact ⟨t, hexec, by rw [hend.line.1]; exact hrest, hmet.keep hkept fun _ => id⟩

/-! ### What the due actions have come to -/

/-- The joined and the refused actions of a list, as Table 7-4 words it. -/
def JoinedAndRefused (n : Channel) (h : Word) (l : List Action) (s t : State) : Prop :=
  (∀ a ∈ l.filter fun a => a.policy = .join, JoinedIn n a t) ∧ ∀ a ∈ l, a.policy = .refuse → RefusedIn h a s t

theorem MetPulse.joinedAndRefused {h : Word} {l : List Action} (hl : MetPulse n h l s t) : JoinedAndRefused n h l s t :=
  ⟨fun a ha => (hl a (List.mem_filter.1 ha).1).1 (of_decide_eq_true (List.mem_filter.1 ha).2), fun a ha => (hl a ha).2⟩

/-- Table 7-4 for the due actions of a channel that met it as `met` says. -/
def DueHaveMet (n : Channel) (m : Motion) (s : State) (met : ChannelState) (due : List Action) (t : State) : Prop :=
  (met = .idle → ∀ a rest, due = a :: rest → t.channels[n].state = .active ∧
    withEnd (joinedEnd m rest (pulseFinish m a)) a ∈ t.schedule ∧ FiredIn n a t ∧ JoinedAndRefused n m.h rest s t) ∧
  (met = .active → t.channels[n].state = .active ∧
    (∀ b f, activeAction n s = some b → b.state = .active f → ∃ b' ∈ t.schedule, b'.channel = n ∧ b'.start = b.start ∧
      b'.recovery = b.recovery ∧ b'.state = .active (joinedEnd m due f)) ∧ JoinedAndRefused n m.h due s t) ∧
  (met ≠ .idle → met ≠ .active → t.channels[n].state = met ∧
    (∀ a ∈ due.filter fun a => a.policy = .join, { a with state := .pending true } ∈ t.schedule ∧ DeferredIn a t) ∧
    ∀ a ∈ due, a.policy = .refuse → RefusedIn m.h a s t)

theorem Met.dueHaveMet (h : Met n m s met pulse due t)
    (hpulse : ∀ b f, pulse = some (b, f) → activeAction n s = some b ∧ b.state = .active f) : DueHaveMet n m s met due t := by
  refine ⟨fun hidle a rest hdue => ?_, fun hactive => ?_, fun hidle hactive => ?_⟩
  · subst hidle hdue
    obtain ⟨⟨hstate, hshows, hmet⟩, hfired⟩ := h.of_idle
    obtain ⟨c, hc, hcb, _⟩ := hshows.pulse view_id
    have hmem : c ∈ t.schedule.filter (activeOn n) := by rw [hc]; exact List.mem_cons_self
    rw [id, id] at hcb
    exact ⟨hstate, hcb ▸ (List.mem_filter.1 hmem).1, hfired, hmet.joinedAndRefused⟩
  · subst hactive
    obtain ⟨b, f, hpair, hstate, hshows, hmet⟩ := h.of_active
    obtain ⟨c, hc, hcb, hcstate, hcactive⟩ := hshows.pulse view_unlinked
    have hmem : c ∈ t.schedule.filter (activeOn n) := by rw [hc]; exact List.mem_cons_self
    refine ⟨hstate, fun b' f' hb hf => ?_, hmet.joinedAndRefused⟩
    obtain ⟨hb', hf'⟩ := hpulse b f hpair
    obtain rfl := Option.some.inj (hb'.symm.trans hb)
    obtain rfl := ActionState.active.inj (hf'.symm.trans hf)
    have hsame : (unlinked c).start = (unlinked b).start ∧ (unlinked c).recovery = (unlinked b).recovery := by
      rw [hcb]
      exact ⟨rfl, rfl⟩
    exact ⟨c, (List.mem_filter.1 hmem).1, by simpa using (Bool.and_eq_true_iff.1 hcactive).1, hsame.1, hsame.2, hcstate⟩
  · obtain ⟨hstate, _, hmet⟩ := h.of_recovery hidle hactive
    exact ⟨hstate, fun a ha => (hmet a (List.mem_filter.1 ha).1).1 (of_decide_eq_true (List.mem_filter.1 ha).2),
      fun a ha => (hmet a ha).2⟩

/-- Settles O22: the channel's own work hands its due actions over one after another, and no other work of the advance changes what
has become of them. -/
theorem dueActionMeetsItsChannel : Obligations.DueActionMeetsItsChannel := by
  intro first s n due hs hmay hmark hdue _ hstay
  have hexit (a : Action) (ha : a ∈ due) (slot : Slot) (hslot : slot ∈ a.item) (e : Entry) (he : entryAt slot s = some e) :
      reached (s.motion.h + 1) (exitPosition e s) = false := hstay a ha (slot, e) (findEntry_mem he) hslot
  obtain ⟨hnone, hsome⟩ := DueStands.start (lineSound_iff.1 hs).2.2 hdue
  dsimp only
  cases hact : activeAction n s with
  | none =>
    obtain ⟨t, hexec, hempty, hmet⟩ := due_walk hs hmay hmark hdue hexit first (hnone hact) (by simp)
    have hall := hmet.dueHaveMet (by simp)
    rw [DueHaveMet, hact] at hall
    exact ⟨t, hexec, hempty, hall⟩
  | some b =>
    obtain ⟨_, _, f, hf⟩ := activeAction_spec hact
    have hstart := hsome b f hact hf
    have hends : b.state = .active (.position (s.motion.h + 1)) ↔ f = .position (s.motion.h + 1) := by
      rw [hf, ActionState.active.injEq]
    by_cases hfinish : f = .position (s.motion.h + 1)
    · simp only [if_pos (hends.2 hfinish)]
      obtain ⟨t, hexec, hempty, hmet⟩ := due_walk hs hmay hmark hdue hexit first ((if_pos hfinish).mp hstart) (by simp)
      have hall := hmet.dueHaveMet (by simp)
      rw [DueHaveMet, hact] at hall
      exact ⟨t, hexec, hempty, hall⟩
    · simp only [if_neg (mt hends.1 hfinish)]
      obtain ⟨t, hexec, hempty, hmet⟩ := due_walk hs hmay hmark hdue hexit first ((if_neg hfinish).mp hstart) fun b f h => by
        obtain ⟨rfl, rfl⟩ := Prod.mk.inj (Option.some.inj h)
        exact hfinish
      have hall := hmet.dueHaveMet fun b f h => by
        obtain ⟨rfl, rfl⟩ := Prod.mk.inj (Option.some.inj h)
        exact ⟨hact, hf⟩
      rw [DueHaveMet, hact] at hall
      obtain ⟨hidle, hactive, hrecovery⟩ := hall
      exact ⟨t, hexec, hempty, hidle, fun _ => hactive rfl, hrecovery⟩

end Sys2Proof.Machine
end

section
set_option Elab.async false
/-! PROOFS. An advance at which no decision is due, or that of one entry alone: what its decisions come to (R50, R51). And the level
changes of a commit with debounces above 0, which make or drop a pending edge and no more (R22). -/

namespace Sys2Proof.Machine

variable {s t u : State} {slot : Slot} {e d : Entry} {l : Lane} {left : List AdvanceWork} {fixed : Option (List Slot)}
  {w : AdvanceWork} {h : Word} {due back : Channel → Prop} {skip : Slot → Prop}

/-! ### Decisions still ahead -/

/-- V3, V4: at its opening an entry of an enabled lane has its decision ahead of it. -/
theorem decision_ahead {p : ProfileSet} (hvalid : validate p s = none) (henabled : laneEnabled l s = true) (h : Word) :
    reached h (h + p.lanes[l].decisionOffset) = false := by
  have hnone : validationFailures p s = [] := List.head?_eq_none_iff.1 hvalid
  have hdecision : failingLanes 3 (fun l => checkDecision p.lanes[l]) s = [] ∧ failingLanes 4 (fun l => checkExit p.lanes[l]) s = [] := by
    simp only [validationFailures, List.append_eq_nil_iff] at hnone
    exact ⟨hnone.1.1.1.1.1.1.2, hnone.1.1.1.1.1.2⟩
  have hpass {number : Nat} {ok : Lane → Bool} (hnil : failingLanes number ok s = []) : ok l = true := by
    by_contra hfails
    have hmem : { number := number, index := l.val } ∈ failingLanes number ok s :=
      mem_failingLanes.2 ⟨rfl, l, rfl, henabled, by simpa using hfails⟩
    rw [hnil] at hmem
    exact absurd hmem List.not_mem_nil
  have hlow := hpass hdecision.1
  have hhigh := hpass hdecision.2
  simp only [checkDecision, checkExit, decide_eq_true_eq] at hlow hhigh
  generalize p.lanes[l].decisionOffset = offset at hlow hhigh ⊢
  simp only [reached, decide_eq_false_iff_not]
  bv_omega

/-- No entry with its decision still to take has it due, but for those in the slots excepted. -/
def Alone (skip : Slot → Prop) (h : Word) (s : State) : Prop :=
  ∀ k d, entryAt k s = some d → ¬ skip k → Undecided d → reached h (decisionPosition d s) = false

theorem Undecided.isLive (hd : Undecided d) : isLive d = true := by
  rcases hd with hd | hd | hd <;> simp [Machine.isLive, hd]

/-- An entry that goes on has its positions where they were. -/
theorem Succeeds.decisionPosition {lanes : Lane → Prop} (hde : Succeeds lanes d e)
    (hkept : bankOf d.bank u = bankOf d.bank s) : decisionPosition e u = decisionPosition d s :=
  (positions_congr hde.bank.symm hde.lane.symm hde.leading.symm hkept).2.1

theorem Alone.step (halone : Alone skip h u) (hh : u.motion.h = h) (hline : LineInv due back u) (ht : tracking u = true)
    (fixed : Option (List Slot)) (w : AdvanceWork) : Alone skip h (doWork fixed w u).1 := by
  intro k e he hk hundecided
  have hsuccessor {lanes : Lane → Prop} {d : Entry} (hd : entryAt k u = some d) (hde : Succeeds lanes d e) :
      reached h (decisionPosition e (doWork fixed w u).1) = false := by
    rw [hde.decisionPosition (doWork_bankOf fixed hd (hde.undecided hundecided).isLive)]
    exact halone k d hd hk (hde.undecided hundecided)
  by_cases hlevel : ∃ l, w = .levelChange l
  · obtain ⟨l, rfl⟩ := hlevel
    cases hmay : laneEnabled l u && tracking u with
    | false =>
      simp only [doWork, rawChange_idle hmay] at he ⊢
      exact halone k e he hk hundecided
    | true =>
      rcases (doWork_ages fixed (.levelChange l) hline.table.wf).entries k e he with ⟨d, hd, hde⟩ | ⟨hlane, hleading, hbank⟩
      · exact hsuccessor hd hde
      · obtain hlane : l = e.lane := by simpa [lanesOf] using hlane
        have hkept := bankOf_congr e.bank (doWork_m fixed (w := .levelChange l) (by simp) u).2
        subst hlane
        rw [Machine.decisionPosition, laneProfileOf, hkept, hleading, hh, hbank]
        exact decision_ahead (hline.epochs.current (not_stopped_of_tracking ht)) (Bool.and_eq_true_iff.1 hmay).1 h
  · rcases (doWork_ages fixed w hline.table.wf).entries k e he with ⟨d, hd, hde⟩ | ⟨hlane, hleading, _⟩
    · exact hsuccessor hd hde
    · rcases hlane with rfl | hw
      · rcases (detectorAdvance_ages (h := e.leading + 1) (bank := e.bank) (lanes := fun _ => True) hline.table.wf
          trivial).entries k e he with ⟨d, hd, hde⟩ | ⟨_, hnever, _⟩
        · exact hsuccessor hd hde
        · exact absurd hnever (by simp)
      · exact absurd ⟨_, hw⟩ hlevel

theorem Alone.start (halone : ∀ x ∈ s.table.entries, ¬ skip x.1 → Undecided x.2 →
    reached (s.motion.h + 1) (decisionPosition x.2 s) = false) : Alone skip (s.motion.h + 1) (stepForward s) := by
  intro k d hd hk hundecided
  have hkept : bankOf d.bank (stepForward s) = bankOf d.bank s := by cases d.bank <;> rfl
  rw [((Retouched.refl d).positions hkept).2.1]
  exact halone (k, d) (findEntry_mem hd) hk hundecided

theorem Alone.not_due (halone : Alone skip s.motion.h s) {k : Slot} (hk : ¬ skip k) (hd : entryAt k s = some d) :
    decisionDue d s = false := by
  rw [← Bool.not_eq_true]
  intro hdue
  rw [decisionDue, Bool.and_eq_true] at hdue
  rw [halone k d hd hk (.inr (by simpa using hdue.1))] at hdue
  exact Bool.false_ne_true hdue.2

theorem takeDecision_of_not_due {k : Slot} (hnot : ∀ d, entryAt k s = some d → decisionDue d s = false) : takeDecision k s = s := by
  rcases takeDecision_cases s k with ⟨_, heq⟩ | ⟨d, hd, hdue, _⟩
  · exact heq
  · rw [hnot d hd] at hdue
    cases hdue

/-- No entry has its decision due. -/
def NobodyDue (s : State) : Prop := ∀ k d, entryAt k s = some d → decisionDue d s = false

theorem takeDecisions_of_nobodyDue (hnobody : NobodyDue s) (slots : List Slot) : takeDecisions slots s = s := by
  induction slots with
  | nil => rfl
  | cons k slots ih => rw [takeDecisions_cons, takeDecision_of_not_due (hnobody k), ih]

/-- The decision of the one entry that may have it due leaves no decision due. -/
theorem Alone.takeDecision (halone : Alone (· = slot) s.motion.h s) : NobodyDue (takeDecision slot s) := by
  intro k e he
  have hsame := decisionDue_congr (takeDecision_epochUnit s slot) (congrArg Motion.h (takeDecision_motion s slot)) e
  by_cases hk : k = slot
  · subst hk
    rcases takeDecision_cases s k with ⟨hnot, heq⟩ | ⟨d, hd, hdue, _⟩
    · rw [hsame]
      exact hnot e (heq ▸ he)
    · obtain ⟨late, full, c, hc, hdecided⟩ := takeDecision_decided hd hdue
      obtain rfl := Option.some.inj (hc.symm.trans he)
      exact hdecided.not_due _
  · rw [hsame]
    exact halone.not_due hk (by rwa [takeDecision_entryAt_other hk] at he)

/-- Where one entry alone may have its decision due, the decisions taken are that one or none. -/
theorem Alone.takeDecisions (halone : Alone (· = slot) s.motion.h s) (slots : List Slot) :
    Machine.takeDecisions slots s = if slot ∈ slots then Machine.takeDecision slot s else s := by
  induction slots with
  | nil => rfl
  | cons k slots ih =>
    rw [takeDecisions_cons]
    by_cases hk : k = slot
    · subst hk
      rw [takeDecisions_of_nobodyDue halone.takeDecision, if_pos List.mem_cons_self]
    · rw [takeDecision_of_not_due fun d hd => halone.not_due hk hd, ih]
      exact ite_congr (propext (by simp [Ne.symm hk])) (fun _ => rfl) fun _ => rfl

/-! ### Level changes with debounces above 0 -/

/-- The level changes that are left are of lanes with a debounce above 0. -/
def SlowLevels (left : List AdvanceWork) (s : State) : Prop :=
  ∀ l, .levelChange l ∈ left → (currentBank s).lanes[l].debounce ≠ 0

/-- A mark whose commit, if it makes one, gives the lanes whose active level it changes a debounce above 0. -/
theorem AdvanceState.slowLevels (h : AdvanceState s left u) (hleft : Leftover left) (hready : workReady u left w = true)
    (hslow : s.motion.h + 1 = s.motion.m → attemptDue s = true → ∀ l : Lane, s.epochUnit.shadow.lanes[l].debounce ≠ 0 ∨
      s.epochUnit.shadow.lanes[l].activeHigh = (currentBank s).lanes[l].activeHigh)
    (hlevels : SlowLevels left u) : SlowLevels (left.erase w ++ (doWork fixed w u).2) (doWork fixed w u).1 := by
  intro l hmem
  by_cases hw : w = .mark
  · subst hw
    have hin : .mark ∈ left := by simpa [workReady, wholeWork] using hready
    rcases List.mem_append.1 hmem with hold | hfollows
    · exact absurd (List.mem_of_mem_erase hold) ((hleft.beforeMark hin).2 l)
    · obtain ⟨_, hat, hchanged⟩ := levelChange_mem_follows.1 hfollows
      have hmark : s.motion.h + 1 = s.motion.m := by rw [← h.h, hat, h.kept (.inr hin)]
      have hunit := h.unmarked hmark hin
      rw [mem_lanesWithNewLevel] at hchanged
      have hwork : (doWork fixed .mark u).1 = pitchMark u := by rw [doWork, if_pos hat]
      rw [hwork]
      rcases currentBank_pitchMark u with hkept | ⟨hdue, hbank⟩
      · rw [hkept] at hchanged
        exact absurd rfl hchanged
      · have hdue' : attemptDue s = true := by rw [← hdue, attemptDue, attemptDue, hunit]
        rw [hbank, hunit, currentBank_congr hunit] at hchanged
        rw [hbank, hunit]
        exact (hslow hmark hdue' l).resolve_right fun hsame => hchanged hsame.symm
  · rw [currentBank_congr (doWork_m fixed hw u).2]
    refine hlevels l ((List.mem_append.1 hmem).elim List.mem_of_mem_erase fun hfollows => ?_)
    exact absurd (levelChange_mem_follows.1 hfollows).1 hw

theorem slowLevels_start (s : State) : SlowLevels advanceWork s := fun l hmem =>
  absurd hmem ((advanceWork_leftover.beforeMark (by decide)).2 l)

/-- With a debounce above 0 a raw input change makes or drops a pending edge. -/
theorem rawChange_of_slow (hslow : (currentBank s).lanes[l].debounce ≠ 0) : rawChange l s = s ∨ ∃ f, rawChange l s = modifyDetector l f s := by
  unfold rawChange
  split
  · exact .inl rfl
  split
  · exact .inr ⟨_, rfl⟩
  · rw [createEdge_debounced hslow]
    exact .inr ⟨_, rfl⟩

end Sys2Proof.Machine
end

section
set_option Elab.async false
/-! PROOFS. The exceptions of a full schedule at a pitch mark: where OUTCOME records are posted before them they may meet a queue with
no place left for them (R114, R115, R159). -/

namespace Sys2Proof.Machine

/-- An item of lane 0 that has left the line, with a verdict of the host. -/
def leftItem (tag : Half) : Entry :=
  { state := .done, lane := 0, tag := some tag, epoch := 0, bank := .a, leading := 600, length := some 10,
    verdict := some { cls := 2, source := .host }, flags := {}, fired := 0 }

/-- The advance to a mark of a line that RUNS, with one PER_PITCH channel, a full schedule, 54 records in the queue, two entries in
DONE, and a verdict record in the FIFO, which leaves their posting to OUTCOME_POST. -/
def brimming : State :=
  { State.reset with
    engine := { Engine.reset with state := .running }
    motion := { State.reset.motion with h := 1000, p := 1001, m := 1001 }
    channels := updateAt State.reset.channels 4 fun _ =>
      { config := { mode := .perPitch, lane := 0, activeHigh := true, unit := .counts }, state := .idle }
    schedule := List.replicate 128
      { channel := 4, item := none, start := 900000, width := 10, unit := .counts, policy := .refuse, recovery := 0,
        state := .pending false }
    table := { State.reset.table with
      entries := [(0, leftItem 7), (1, leftItem 8)]
      doneList := [0, 1]
      counters := State.reset.table.counters.set 0 { confirmed := 2, outcomes := 0, dropped := 0 } }
    verdicts := { State.reset.verdicts with fifo := [{ lane := 0, tag := 7, cls := 2 }] }
    queue := { State.reset.queue with records := List.replicate 54 (.commit 1 2) } }

theorem lineSound_brimming : LineSound brimming := by constructor <;> decide +kernel

/-- The OUTCOME records that `first` posts before the mark take the two places that an EXCEPTION record could have. -/
theorem brimming_loses_exception : ((advanceOnce [.posts] brimming).queue.records.drop brimming.queue.records.length).count
    (.exception .pitchScheduleFull none none brimming.motion.m) = 0 := by
  decide +kernel

/-- The PER_PITCH channels of a state. -/
def pitchChannels (s : State) : List Channel := (List.finRange 16).filter fun n => s.channels[n].config.mode = .perPitch

/-- What the last clause of O16 says of an advance with nothing else to do. -/
theorem exceptions_counted (h : Obligations.PitchMarkPlacesThePeriodicActions) {s : State} (hs : LineSound s)
    (hmay : canAdvance s = true) (hmark : s.motion.h + 1 = s.motion.m) (hrun : s.engine.state = .running)
    (hactions : actionsQuietAt (s.motion.h + 1) s = true) (hentries : entriesQuietAt (s.motion.h + 1) s = true)
    (hlanes : lanesQuietAt (s.motion.h + 1) s = true) (hattempt : attemptDue s = false)
    (hplaces : s.queue.records.length + (pitchChannels s).length ≤ 55) (first : List AdvanceWork) :
    ((advanceOnce first s).queue.records.drop s.queue.records.length).count
      (.exception .pitchScheduleFull none none s.motion.m) = (pitchChannels s).length - (128 - s.schedule.length) := by
  obtain ⟨_, hfull⟩ := h first s hs hmay hmark
  obtain ⟨t, hexec, _, _, hcount⟩ := hfull hrun hactions hentries hlanes fun hdue => by simp [hattempt] at hdue
  rw [exec_advance, if_pos hmay] at hexec
  obtain rfl := Host.Outcome.next.inj hexec
  exact hcount hplaces

theorem brimming_perPitch : (pitchChannels brimming).length = 1 ∧ 128 - brimming.schedule.length = 0 := by
  decide +kernel

/-- Refutes O16, in its last clause: the queue of `brimming` has the places that its one PER_PITCH channel needs, and the two postings
that come first take them, so that the exception is lost. -/
theorem not_pitchMarkPlacesThePeriodicActions : ¬ Obligations.PitchMarkPlacesThePeriodicActions := by
  intro h
  obtain ⟨hchannels, hfree⟩ := brimming_perPitch
  have hcount := exceptions_counted h lineSound_brimming (by decide +kernel) rfl rfl (by decide +kernel) (by decide +kernel)
    (by decide +kernel) (by decide +kernel) (by rw [hchannels]; decide +kernel) [.posts]
  rw [brimming_loses_exception, hchannels, hfree] at hcount
  cases hcount

end Sys2Proof.Machine
end

section
set_option Elab.async false
/-! PROOFS. The room that an advance leaves in the schedule: every channel is placed at most once, at a mark, at an opening or at a
decision, so that the sixteen places of R110 are enough. -/

namespace Sys2Proof.Machine

variable {s t u : State} {slot : Slot} {e d : Entry} {l : Lane} {n : Channel} {left : List AdvanceWork}
  {fixed : Option (List Slot)} {w : AdvanceWork}

/-! ### Work that adds no action -/

/-- From s to t the schedule has not grown. -/
def NoLonger (s t : State) : Prop := t.schedule.length ≤ s.schedule.length

theorem NoLonger.of_schedule (h : t.schedule = s.schedule) : NoLonger s t := by rw [NoLonger, h]

theorem NoLonger.trans (h : NoLonger s t) (h' : NoLonger t u) : NoLonger s u := Nat.le_trans h' h

theorem settleFirst_noLonger (q : Action → Bool) (s : State) : NoLonger s (settleFirst q s) := by
  rcases settleFirst_cases s q with ⟨_, heq⟩ | ⟨a, _, ⟨_, heq⟩ | ⟨_, _, heq⟩ | ⟨_, _, heq⟩ | ⟨_, _, heq⟩⟩ <;> rw [heq, NoLonger]
  · rw [fire_schedule, modifyFirst_length]
  · rw [joinPulse_schedule, modifyFirst_length]
    exact List.length_eraseP_le
  · rw [refuseNewcomer_schedule]
    exact List.length_eraseP_le
  · rw [deferNewcomer_schedule, modifyFirst_length]

theorem endPulse_noLonger (n : Channel) (s : State) : NoLonger s (endPulse n s) := by
  rcases endPulse_cases s n with ⟨_, heq⟩ | ⟨_, _, heq⟩ <;> rw [heq]
  · exact .of_schedule rfl
  · exact List.length_eraseP_le

theorem takeDue_noLonger (n : Channel) (s : State) : NoLonger s (takeDue n s) :=
  settleAll_keeps (NoLonger s) _ (fun u hu => hu.trans (settleFirst_noLonger _ u)) _ s (Nat.le_refl _)

theorem takeExit_noLonger (k : Slot) (e : Entry) (s : State) : NoLonger s (takeExit k e s) := by
  rw [takeExit_eq]
  exact detachItem_length_le k _

theorem foldl_takeExit_noLonger (l : List (Slot × Entry)) (s : State) :
    NoLonger s (l.foldl (fun s x => takeExit x.1 x.2 s) s) := by
  induction l generalizing s with
  | nil => exact Nat.le_refl _
  | cons x l ih => exact (takeExit_noLonger x.1 x.2 s).trans (ih _)

/-! ### Work that places actions -/

/-- The channels that a piece of work may place, with what follows from it. -/
def placesAt (s : State) : AdvanceWork → Channel → Bool
  | .pitchActions, n => s.channels[n].config.mode = .perPitch
  | .levelChange l, n => servesItem l s n
  | .mark, n => s.channels[n].config.mode = .perPitch || s.channels[n].config.mode = .perItem
  | _, _ => false

/-- The number of channels that a piece of work may place. -/
def places (s : State) (w : AdvanceWork) : Nat := allChannels.countP (placesAt s w)

theorem placesAt_congr (hconfig : ∀ n : Channel, t.channels[n].config = s.channels[n].config) (w : AdvanceWork) (n : Channel) :
    placesAt t w n = placesAt s w n := by
  cases w <;> simp only [placesAt, servesItem, hconfig]

theorem places_congr (hconfig : ∀ n : Channel, t.channels[n].config = s.channels[n].config) : places t = places s :=
  funext fun w => by rw [places, places, funext (placesAt_congr hconfig w)]

theorem Placements.length_le {late missed full : Bool} {l : List Action} (hp : Placements slot late missed full l s t) {m : Nat}
    (hl : l.length ≤ m) : t.schedule.length ≤ s.schedule.length + m := by
  rw [hp.schedule.length_eq, List.length_append]
  exact Nat.add_le_add_left hl _

theorem placeItemActions_length_le (k : Slot) (e : Entry) (s : State) :
    (placeItemActions k e s).schedule.length ≤ s.schedule.length + places s (.levelChange e.lane) := by
  refine (placeItemActions_placements k e s).length_le ((List.length_filterMap_le _ _).trans ((List.length_filter_le _ _).trans ?_))
  rw [places, List.countP_eq_length_filter]
  exact Nat.le_refl _

theorem placePitchActions_length_le (mark : Word) (s : State) :
    (placePitchActions mark s).schedule.length ≤ s.schedule.length + places s .pitchActions := by
  have key (channels : List Channel) : ∀ u : State,
      (channels.foldl (fun s n => placePitchAction mark n s) u).schedule.length ≤ u.schedule.length + channels.length := by
    induction channels with
    | nil => exact fun _ => Nat.le_refl _
    | cons n channels ih =>
      intro u
      have hone : (placePitchAction mark n u).schedule.length ≤ u.schedule.length + 1 := by
        unfold placePitchAction
        dsimp only
        split
        · rw [raise_schedule]
          exact Nat.le_succ _
        · exact ((insertAction_perm _ _ _).length_eq).le
      have hrest := ih (placePitchAction mark n u)
      rw [List.foldl_cons, List.length_cons]
      omega
  rw [places, List.countP_eq_length_filter]
  exact key _ s

theorem takeLeading_length_le (l : Lane) (ed : PendingEdge) (s : State) :
    (takeLeading l ed s).schedule.length ≤ s.schedule.length + places s (.levelChange l) := by
  have hraise (code : ExceptionCode) : (raise code (some l) none s).schedule.length ≤ s.schedule.length + places s (.levelChange l) := by
    rw [raise_schedule]
    exact Nat.le_add_right _ _
  unfold takeLeading
  split
  · exact hraise _
  split
  · exact hraise _
  split
  · exact hraise _
  · next k _ =>
    rw [openEntry_eq]
    exact placeItemActions_length_le k (openedEntry l ed.latched s) (withOpening k l ed.latched s)

theorem takeTrailing_noLonger (l : Lane) (ed : PendingEdge) (s : State) : NoLonger s (takeTrailing l ed s) := by
  unfold takeTrailing NoLonger
  rw [openGap_schedule]
  split
  · next k x _ hopening =>
    unfold measure
    dsimp only
    split
    · rw [raise_schedule]
      exact detachItem_length_le k _
    · rw [confirm_schedule]
  · exact Nat.le_refl _

theorem rawChange_length_le (l : Lane) (s : State) :
    (rawChange l s).schedule.length ≤ s.schedule.length + places s (.levelChange l) := by
  have htrivial : s.schedule.length ≤ s.schedule.length + places s (.levelChange l) := Nat.le_add_right _ _
  unfold rawChange
  split
  · exact htrivial
  split
  · exact htrivial
  · unfold createEdge
    dsimp only
    split
    · unfold takeEdge
      dsimp only
      split
      · exact Nat.le_trans (takeTrailing_noLonger l _ (modifyDetector l _ s)) htrivial
      · exact takeLeading_length_le l _ (modifyDetector l _ s)
    · exact htrivial

/-- A piece of work that takes no decision adds no more actions than the channels that it may place. -/
theorem doWork_length_le (hdecisions : w = .decisions ∨ w = .decision → (doWork fixed w u).1 = u) (hmark : w ≠ .mark) :
    (doWork fixed w u).1.schedule.length ≤ u.schedule.length + places u w := by
  have hshorter (h : NoLonger u (doWork fixed w u).1) : (doWork fixed w u).1.schedule.length ≤ u.schedule.length + places u w :=
    Nat.le_trans h (Nat.le_add_right _ _)
  cases w with
  | mark => exact absurd rfl hmark
  | pitchActions => exact placePitchActions_length_le _ u
  | levelChange l => exact rawChange_length_le l u
  | channel n =>
    refine hshorter ?_
    simp only [doWork, channelAdvance]
    split
    · exact (endPulse_noLonger n u).trans (takeDue_noLonger n _)
    · exact takeDue_noLonger n u
  | channelEvent n =>
    refine hshorter ?_
    simp only [doWork, channelEvent]
    split
    · exact endPulse_noLonger n u
    · exact settleFirst_noLonger _ u
  | decisions => exact hshorter (.of_schedule (by rw [hdecisions (.inl rfl)]))
  | decision => exact hshorter (.of_schedule (by rw [hdecisions (.inr rfl)]))
  | exits =>
    refine hshorter ?_
    rw [doWork, takeExits, NoLonger, settlePosts_schedule]
    exact foldl_takeExit_noLonger _ u
  | exit =>
    refine hshorter ?_
    rcases takeNextExit_cases u with ⟨_, heq⟩ | ⟨y, rest, hlist, heq⟩ <;> rw [doWork, heq]
    · exact Nat.le_refl _
    · exact takeExit_noLonger _ _ u
  | detector l => exact hshorter (.of_schedule (by rw [doWork, detectorAdvance_schedule]))
  | posts => exact hshorter (.of_schedule (by rw [doWork, serveDone_schedule]))
  | drainCompletion => exact hshorter (.of_schedule (by rw [doWork, completeDrain_schedule]))

/-! ### The places that the work left may take -/

/-- The places that the work left may still take. -/
def placesLeft (s : State) (left : List AdvanceWork) : Nat := (left.map (places s)).sum

theorem sum_places_levelChange (s : State) : ((allLanes.map .levelChange).map (places s)).sum =
    allChannels.countP fun n => s.channels[n].config.mode = .perItem := by
  have key (channels : List Channel) : (allLanes.map fun l => channels.countP (servesItem l s)).sum =
      channels.countP fun n => s.channels[n].config.mode = .perItem := by
    induction channels with
    | nil => rfl
    | cons n channels ih =>
      have hone (mode : ChannelMode) (lane : Lane) :
          (allLanes.map fun l => if decide (mode = .perItem) && decide (lane = l) then 1 else 0).sum =
            if mode = .perItem then 1 else 0 := by
        have hlane : ∀ lane : Lane, (allLanes.map fun l => if lane = l then 1 else 0).sum = 1 := by decide
        cases mode with
        | perItem => simpa using hlane lane
        | _ => simp
      simp only [List.countP_cons, List.sum_map_add, ih, decide_eq_true_eq]
      exact congrArg _ (hone s.channels[n].config.mode s.channels[n].config.lane)
  rw [List.map_map]
  exact key allChannels

/-- What follows from a mark takes no more places than the mark may. -/
theorem places_follows (u : State) (fixed : Option (List Slot)) : placesLeft u (doWork fixed .mark u).2 ≤ places u .mark := by
  have hsplit : allChannels.countP (placesAt u .mark) =
      allChannels.countP (placesAt u .pitchActions) + allChannels.countP fun n => u.channels[n].config.mode = .perItem := by
    generalize allChannels = channels
    induction channels with
    | nil => rfl
    | cons n channels ih =>
      have hone (mode : ChannelMode) : (if decide (mode = .perPitch) || decide (mode = .perItem) then 1 else 0) =
          (if decide (mode = .perPitch) then 1 else 0) + if decide (mode = .perItem) then 1 else 0 := by
        cases mode <;> rfl
      have hn : (if placesAt u .mark n = true then 1 else 0) = (if placesAt u .pitchActions n = true then 1 else 0) +
          if decide (u.channels[n].config.mode = .perItem) = true then 1 else 0 := hone _
      simp only [List.countP_cons, ih, hn]
      omega
  have hlevels (t : State) : placesLeft u ((lanesWithNewLevel u t).map .levelChange) ≤
      allChannels.countP fun n => u.channels[n].config.mode = .perItem := by
    rw [← sum_places_levelChange]
    exact ((List.filter_sublist.map _).map _).sum_le_sum fun _ _ => Nat.zero_le _
  unfold doWork
  dsimp only
  split
  · rw [placesLeft, List.map_append, List.sum_append, places, hsplit]
    refine Nat.add_le_add ?_ (hlevels _)
    split
    · exact Nat.le_of_eq (by simp [places])
    · exact Nat.zero_le _
  · exact Nat.zero_le _

/-- The room of the schedule along the walk. -/
def Room (s : State) (left : List AdvanceWork) (u : State) : Prop :=
  u.schedule.length + placesLeft s left ≤ s.schedule.length + allChannels.countP (placesAt s .mark)

theorem Room.start (s : State) : Room s advanceWork (stepForward s) := by
  have hnone : ∀ w ∈ advanceWork, w ≠ .mark → places s w = 0 := by
    intro w hw hmark
    have hplain : ∀ w ∈ advanceWork, w ≠ .mark → w ≠ .pitchActions ∧ ∀ l, w ≠ .levelChange l := by decide
    obtain ⟨hpitch, hlevel⟩ := hplain w hw hmark
    rw [places, List.countP_eq_zero]
    intro n _
    cases w with
    | mark => exact absurd rfl hmark
    | pitchActions => exact absurd rfl hpitch
    | levelChange l => exact absurd rfl (hlevel l)
    | _ => exact Bool.false_ne_true
  have hsum : placesLeft s advanceWork = places s .mark := by
    have hperm : advanceWork.Perm (.mark :: advanceWork.erase .mark) := List.perm_cons_erase (by decide)
    rw [placesLeft, (hperm.map _).sum_eq, List.map_cons, List.sum_cons, List.sum_eq_zero, Nat.add_zero]
    intro x hx
    obtain ⟨w, hw, rfl⟩ := List.mem_map.1 hx
    exact hnone w (List.mem_of_mem_erase hw) fun h => advanceWork_leftover.nodup.not_mem_erase (h ▸ hw)
  rw [Room, hsum]
  exact Nat.le_refl _

theorem Room.step (h : Room s left u) (hconfig : ∀ n : Channel, u.channels[n].config = s.channels[n].config)
    (hleft : w ∈ left ∨ places s w = 0)
    (hdecisions : w = .decisions ∨ w = .decision → (doWork fixed w u).1 = u) :
    Room s (left.erase w ++ (doWork fixed w u).2) (doWork fixed w u).1 := by
  have herase : placesLeft s (left.erase w) + places s w ≤ placesLeft s left := by
    rcases hleft with hmem | hzero
    · rw [placesLeft, placesLeft, ((List.perm_cons_erase hmem).map _).sum_eq, List.map_cons, List.sum_cons, Nat.add_comm]
    · rw [hzero]
      exact (List.erase_sublist.map _).sum_le_sum fun _ _ => Nat.zero_le _
  have happend (l : List AdvanceWork) : placesLeft s (left.erase w ++ l) = placesLeft s (left.erase w) + placesLeft s l := by
    rw [placesLeft, List.map_append, List.sum_append]
    rfl
  unfold Room at h ⊢
  rw [happend]
  by_cases hmark : w = .mark
  · subst hmark
    have hfollows := places_follows u fixed
    have hschedule : (doWork fixed .mark u).1.schedule = u.schedule := by
      simp only [doWork]
      split
      · rw [pitchMark_schedule]
      · rfl
    rw [placesLeft, places_congr hconfig] at hfollows
    rw [hschedule, show placesLeft s (doWork fixed .mark u).2 = ((doWork fixed .mark u).2.map (places s)).sum from rfl]
    omega
  · have hlength := doWork_length_le hdecisions hmark
    rw [places_congr hconfig] at hlength
    have hnone : (doWork fixed w u).2 = [] := (doWork_follows fixed w u).resolve_right fun h => hmark h.1
    rw [hnone, show placesLeft s [] = 0 from rfl]
    omega

/-- With sixteen places free each channel of a placement finds one. -/
theorem fullAt_eq_false {length : Nat} {choice : Channel → Option (Action × Bool)} {channels : List Channel} (hn : n ∈ channels)
    (hroom : length + channels.length ≤ 128) : fullAt length choice channels n = false := by
  have hlt : (channels.countP fun k => (choice k).isSome && decide (k < n)) < channels.length := by
    rw [List.countP_eq_length_filter]
    refine List.length_filter_lt_length_iff_exists.2 ⟨n, hn, by simp⟩
  rw [fullAt, decide_eq_false_iff_not]
  omega

/-- Where the walk has taken no decision yet, every channel of a VERDICT placement finds a place. -/
theorem Room.verdict (h : Room s left u) (hplaces : s.schedule.length ≤ 112) {channels : List Channel} (hsub : channels.Sublist allChannels)
    (hverdict : ∀ n ∈ channels, s.channels[n].config.mode = .verdict) : u.schedule.length + channels.length ≤ 128 := by
  have hchannels : channels.length + allChannels.countP (placesAt s .mark) ≤ 16 := by
    have hcount : channels.length ≤ allChannels.countP fun n => !placesAt s .mark n := by
      have hall : channels.countP (fun n => !placesAt s .mark n) = channels.length :=
        List.countP_eq_length.2 fun n hn => by
          rw [placesAt, hverdict n hn]
          rfl
      rw [← hall]
      exact hsub.countP_le
    have hall := List.length_eq_countP_add_countP (placesAt s .mark) (l := allChannels)
    have hsixteen : allChannels.length = 16 := rfl
    simp only [Bool.not_eq_true, Bool.decide_eq_false] at hall
    omega
  unfold Room at h
  omega

end Sys2Proof.Machine
end

section
set_option Elab.async false
/-! PROOFS. An entry that has taken its exit, through the rest of the advance: it waits at DONE, or its OUTCOME record stands in the
queue and its slot stays FREE (R54, R56). -/

namespace Sys2Proof.Machine

variable {s t u : State} {slot k : Slot} {e d c : Entry} {st : EntryState} {v : Option Verdict} {first left : List AdvanceWork}
  {fixed : Option (List Slot)} {w : AdvanceWork} {due back : Channel → Prop} {allowed : Prop} {P : Entry → Prop} {h : Word}

/-! ### What an entry has become -/

/-- An entry has come to a state and a verdict, with its identity kept and no flag and no fired channel lost. -/
structure Became (st : EntryState) (v : Option Verdict) (e d : Entry) : Prop where
  entry : d = { e with state := st, verdict := v, flags := d.flags, fired := d.fired }
  gains : Gains e.flags d.flags e.fired d.fired

theorem Retouched.became (h : Retouched e d) : Became e.state e.verdict e d := ⟨h.entry, h.gains⟩

theorem Decided.became {v : Verdict} {late full : Bool} (h : Decided v late full e d) : Became .scheduled (some v) e d :=
  ⟨h.entry, h.gains⟩

theorem Became.retouched (h : Became st v e d) (h' : Retouched d c) : Became st v e c where
  entry := by rw [h'.entry, h.entry]
  gains := h.gains.trans h'.gains

theorem exitedEntry_gains (slot : Slot) (d : Entry) (s : State) :
    Gains d.flags (exitedEntry slot d s).flags d.fired (exitedEntry slot d s).fired := by
  unfold exitedEntry
  dsimp only
  split
  · exact ⟨setsFlags_missed d.flags, BitVec.and_self⟩
  · exact Gains.refl _ _

theorem Became.exited (h : Became st v e d) (slot : Slot) (s : State) : Became .done v e (exitedEntry slot d s) where
  entry := by
    have hd := h.entry
    unfold exitedEntry
    dsimp only
    split <;> rw [hd]
  gains := h.gains.trans (exitedEntry_gains slot d s)

theorem Became.same (h : Became st v e d) : d.state = st ∧ d.verdict = v ∧ d.lane = e.lane ∧ d.tag = e.tag ∧ d.epoch = e.epoch ∧
    d.bank = e.bank ∧ d.leading = e.leading := by
  rw [h.entry]
  exact ⟨rfl, rfl, rfl, rfl, rfl, rfl, rfl⟩

/-! ### A slot that stays FREE -/

/-- With debounces above 0 a piece of work opens no entry. -/
theorem doWork_absent (hwf : u.table.wf = true) (hslow : SlowLevels left u) (hready : workReady u left w = true)
    (hnone : entryAt slot u = none) : entryAt slot (doWork fixed w u).1 = none := by
  cases hsome : entryAt slot (doWork fixed w u).1 with
  | none => rfl
  | some x =>
    rcases (doWork_ages fixed w hwf).entries slot x hsome with ⟨d, hd, _⟩ | ⟨hw | hw, _⟩
    · rw [hnone] at hd
      cases hd
    · subst hw
      rcases (detectorAdvance_ages (h := x.leading + 1) (bank := x.bank) (lanes := fun _ => True) hwf trivial).entries slot x hsome
        with ⟨d, hd, _⟩ | ⟨_, hnever, _⟩
      · rw [hnone] at hd
        cases hd
      · exact absurd hnever (by simp)
    · subst hw
      have hsame : entryAt slot (rawChange x.lane u) = entryAt slot u := by
        rcases rawChange_of_slow (hslow x.lane (levelChange_ready hready)) with heq | ⟨f, heq⟩ <;> rw [heq]
        rfl
      rw [doWork, hsame, hnone] at hsome
      cases hsome

/-! ### At DONE, or posted -/

/-- An entry that has left the line waits at DONE, or it has been posted, where that is allowed. -/
def Retired (slot : Slot) (allowed : Prop) (P : Entry → Prop) (s : State) : Prop :=
  (∃ d, entryAt slot s = some d ∧ d.state = .done ∧ P d) ∨
    entryAt slot s = none ∧ allowed ∧ ∃ d, P d ∧ outcomeRecord d ∈ s.queue.records

theorem Retired.of_same (h : Retired slot allowed P s) (hentry : entryAt slot t = entryAt slot s) (hrecords : RecordsJoin s t) :
    Retired slot allowed P t := by
  obtain ⟨more, hmore⟩ := hrecords
  rcases h with ⟨d, hd, hdone⟩ | ⟨hnone, hallowed, d, hP, hrecord⟩
  · exact .inl ⟨d, hentry.trans hd, hdone⟩
  · exact .inr ⟨hentry.trans hnone, hallowed, d, hP, by rw [hmore]; exact List.mem_append_left _ hrecord⟩

theorem postOutcome_retired (hline : LineInv due back s) (hallowed : allowed) (h : Retired slot allowed P s) :
    Retired slot allowed P (postOutcome s) := by
  have hjoin := postOutcome_recordsJoin s
  by_cases hhead : s.table.doneList.head? = some slot ∧ depth s < 64
  · obtain ⟨d, hd, hdone, hP⟩ := h.resolve_right fun ⟨hnone, _⟩ => by
      obtain ⟨d, hd, _⟩ := (hline.table.doneList slot).1 (List.mem_of_mem_head? hhead.1)
      rw [hnone] at hd
      cases hd
    rcases postOutcome_cases s with ⟨hnil, _⟩ | ⟨hfull, _⟩ | ⟨k, rest, hlist, _, hcases⟩
    · simp [hnil] at hhead
    · exact absurd hhead.2 (Nat.not_lt.2 hfull)
    · obtain rfl : k = slot := by simpa [hlist] using hhead.1
      rcases hcases with ⟨hnone, _⟩ | ⟨x, hx, heq⟩
      · rw [hd] at hnone
        cases hnone
      · obtain rfl := Option.some.inj (hd.symm.trans hx)
        rw [heq]
        exact .inr ⟨(findEntry_dropEntry k k _).trans (if_pos rfl), hallowed, d, hP, List.mem_append_right _ List.mem_cons_self⟩
  · refine h.of_same ?_ hjoin
    rcases postOutcome_cases s with ⟨_, heq⟩ | ⟨_, heq⟩ | ⟨k, rest, hlist, hdepth, ⟨_, heq⟩ | ⟨x, hx, heq⟩⟩ <;> rw [heq]
    · rfl
    · have hne : slot ≠ k := fun hk => hhead ⟨by rw [hlist, hk]; rfl, hdepth⟩
      exact (findEntry_dropEntry k slot _).trans (if_neg hne)

theorem serveDone_retired (hline : LineInv due back s) (hallowed : allowed) (h : Retired slot allowed P s) :
    Retired slot allowed P (serveDone s) := by
  have key : ∀ (n : Nat) (u : State), LineInv due back u → Retired slot allowed P u → Retired slot allowed P (postOutcomes n u) := by
    intro n
    induction n with
    | zero => exact fun _ _ => id
    | succ n ih => exact fun u hu hr => ih _ hu.postOutcome (postOutcome_retired hu hallowed hr)
  exact key _ s hline h

theorem settlePosts_retired (hline : LineInv due back s) (hallowed : s.verdicts.fifo = [] → allowed) (h : Retired slot allowed P s) :
    Retired slot allowed P (settlePosts s) := by
  rcases settlePosts_cases s with ⟨hfifo, heq⟩ | ⟨_, heq⟩ <;> rw [heq]
  · exact serveDone_retired hline (hallowed hfifo) h
  · exact h

theorem foldl_takeExit_queue (l : List (Slot × Entry)) (s : State) :
    (l.foldl (fun s x => takeExit x.1 x.2 s) s).queue = s.queue ∧ (l.foldl (fun s x => takeExit x.1 x.2 s) s).verdicts = s.verdicts := by
  induction l generalizing s with
  | nil => exact ⟨rfl, rfl⟩
  | cons x l ih => rw [List.foldl_cons, (ih _).1, (ih _).2, takeExit_eq]; exact ⟨rfl, rfl⟩

theorem LineInv.exited (hline : LineInv due back s) (ht : tracking s = true) :
    LineInv due back ((leavingEntries s).foldl (fun s x => Machine.takeExit x.1 x.2 s) s) :=
  hline.foldl_takeExit ht _ (leavingEntries_nodup hline.table.wf) fun _ hx => mem_leavingEntries_entryAt hline.table.wf hx

/-- An entry that has left stays at DONE, or is posted by a posting, and its slot stays FREE. -/
theorem doWork_retired (hline : LineInv due back u) (ht : tracking u = true) (hslow : SlowLevels left u)
    (hready : workReady u left w = true) (hposts : w = .posts → allowed) (hfifo : u.verdicts.fifo = [] → allowed)
    (hP : ∀ d c, P d → Retouched d c → P c) (h : Retired slot allowed P u) : Retired slot allowed P (doWork fixed w u).1 := by
  have hwf := hline.table.wf
  have hjoin : RecordsJoin u (doWork fixed w u).1 :=
    (doWork_effects (sound := False) (posting := True) fixed w trivial False.elim).recordsJoin
  rcases id h with ⟨d, hd, hdone, hPd⟩ | ⟨hnone, _⟩
  · have honly {x : Entry} (hx : entryAt slot u = some x) : x.state = .done := by
      rw [Option.some.inj (hx.symm.trans hd), hdone]
    have hexit (x : Entry) (hx : entryAt slot u = some x) : exitDue x u = false := by simp [exitDue, honly hx]
    by_cases hposting : w = .exits ∨ w = .posts
    · rcases hposting with rfl | rfl
      · refine settlePosts_retired (hline.exited ht) (fun hempty => hfifo ?_) (h.of_same ?_ (.of_eq ?_))
        · rwa [(foldl_takeExit_queue _ u).2] at hempty
        · exact foldl_takeExit_entryAt_other _ (not_mem_leavingEntries hwf hexit) u
        · rw [(foldl_takeExit_queue _ u).1]
      · exact serveDone_retired hline (hposts rfl) h
    · obtain ⟨c, hc, hkept⟩ := doWork_slotKept (w := w) fixed hwf (fun l _ x hx _ => by simp [honly hx])
        (.inr fun x hx => by simp [decisionDue, honly hx]) (fun _ => hexit) (fun hw => absurd hw hposting) d hd
      exact .inl ⟨c, hc, hkept.same.1.trans hdone, hP d c hPd hkept⟩
  · exact h.of_same ((doWork_absent hwf hslow hready hnone).trans hnone.symm) hjoin

/-! ### The exit itself -/

/-- The schedule holds a PENDING action of an entry that is not due. -/
def Promised (slot : Slot) (h : Word) (s : State) : Prop := ∃ x ∈ s.schedule, x.item = some slot ∧ Waits h x

theorem Promised.hasPending (hp : Promised slot h s) : hasPending slot s.schedule = true := by
  obtain ⟨x, hx, hitem, hwaits⟩ := hp
  exact List.any_eq_true.2 ⟨x, hx, by simp [hitem, hwaits.pending]⟩

theorem Promised.takeExit (hp : Promised slot h s) (hk : k ≠ slot) (e : Entry) : Promised slot h (takeExit k e s) := by
  obtain ⟨x, hx, hitem, hwaits⟩ := hp
  refine ⟨x, ?_, hitem, hwaits⟩
  rw [takeExit_eq]
  exact mem_detachItem hx (by rw [hitem]; exact fun heq => hk (Option.some.inj heq).symm)

/-- Among the exits of an advance an entry takes its own, with the actions that it has until then. -/
theorem foldl_takeExit_exited {l : List (Slot × Entry)} (hnodup : (l.map (·.1)).Nodup) (hmem : (slot, d) ∈ l) (s : State) :
    ∃ v, entryAt slot (l.foldl (fun s x => takeExit x.1 x.2 s) s) = some (exitedEntry slot d v) ∧ (Promised slot h s → Promised slot h v) := by
  induction l generalizing s with
  | nil => cases hmem
  | cons y l ih =>
    rw [List.map_cons, List.nodup_cons] at hnodup
    rcases List.mem_cons.1 hmem with rfl | hrest
    · refine ⟨s, ?_, id⟩
      rw [List.foldl_cons, foldl_takeExit_entryAt_other l hnodup.1, entryAt_takeExit, if_pos rfl]
    · have hne : y.1 ≠ slot := fun heq => hnodup.1 (List.mem_map.2 ⟨_, hrest, heq.symm⟩)
      obtain ⟨v, hv, hpromised⟩ := ih hnodup.2 hrest (takeExit y.1 y.2 s)
      exact ⟨v, hv, fun hp => hpromised (hp.takeExit hne y.2)⟩

theorem exitedEntry_missed (hp : Promised slot h s) (d : Entry) : (exitedEntry slot d s).flags.missed = true := by
  simp [exitedEntry, hp.hasPending]

/-- A PENDING action of a confirmed entry that takes no exit stays. -/
theorem Promised.doWork (hp : Promised slot u.motion.h u) (hstays : ¬ Leaves w u slot) (fixed : Option (List Slot)) :
    Promised slot u.motion.h (doWork fixed w u).1 := by
  obtain ⟨x, hx, hitem, hwaits⟩ := hp
  refine ⟨x, doWork_mem fixed hx hwaits fun k hk heq => hstays ?_, hitem, hwaits⟩
  rw [hitem] at heq
  exact Option.some.inj heq ▸ hk

theorem not_leaves (hwf : u.table.wf = true) (hd : entryAt slot u = some d) (hopening : d.state ≠ .opening)
    (hexit : exitDue d u = false ∨ w ≠ .exits ∧ w ≠ .exit) : ¬ Leaves w u slot := by
  rintro (⟨l, x, _, hx⟩ | ⟨hw, hmem⟩)
  · obtain ⟨hat, hstate⟩ := openingEntry_entryAt hwf hx
    rw [hd] at hat
    exact hopening (Option.some.inj hat ▸ hstate)
  · rcases hexit with hexit | ⟨h₁, h₂⟩
    · exact not_mem_leavingEntries hwf (fun c hc => by rw [Option.some.inj (hc.symm.trans hd), hexit]) hmem
    · exact hw.elim h₁ h₂

end Sys2Proof.Machine
end

section
set_option Elab.async false
/-! PROOFS. The exit of an entry at an advance (R52, R56, R120): it waits for its decision and for the exits, leaves the line, and stays
at DONE or is posted. -/

namespace Sys2Proof.Machine

variable {s t u : State} {slot : Slot} {e d : Entry} {first left : List AdvanceWork} {fixed : Option (List Slot)} {w : AdvanceWork}

/-! ### The placements of a decision (R113) -/

/-- The channels of a VERDICT placement. -/
def verdictChannels (e : Entry) (s : State) : List Channel := allChannels.filter (servesClass e (settledVerdict e s).cls s)

/-- What a decision places, in terms of the line and the entry before it. -/
theorem takeDecision_placements (hd : entryAt slot s = some d) (hdue : decisionDue d s = true) :
    let channels := verdictChannels d s
    let full := fullAt s.schedule.length (fun n => some (verdictChoice slot d n s)) channels
    Placements slot (channels.any fun n => !full n && (verdictChoice slot d n s).2) false (channels.any full)
      ((channels.filter (!full ·)).map fun n => (verdictChoice slot d n s).1) (setEntry slot (scheduledEntry d s) s)
      (takeDecision slot s) := by
  rw [takeDecision_eq hd hdue]
  exact placeVerdictActions_placements slot (scheduledEntry d s) (settledVerdict d s).cls (setEntry slot (scheduledEntry d s) s)

theorem verdictChoice_waits (slot : Slot) (d : Entry) (n : Channel) (s : State) :
    (verdictChoice slot d n s).1.item = some slot ∧ Waits s.motion.h (verdictChoice slot d n s).1 :=
  ⟨rfl, waits_of_not_reached rfl (verdictStart_not_reached _ _ _)⟩

theorem mem_verdictChannels {n : Channel} : n ∈ verdictChannels e s ↔ servesClass e (settledVerdict e s).cls s n = true := by
  simp [verdictChannels, mem_allChannels]

theorem servesClass_mode {c : Class} {n : Channel} (h : servesClass e c s n = true) : s.channels[n].config.mode = .verdict := by
  simp only [servesClass, Bool.and_eq_true, decide_eq_true_eq] at h
  exact h.1.1

/-- An entry that only flags have touched is served by the same channels. -/
theorem servesClass_congr (hsame : d.lane = e.lane ∧ d.bank = e.bank) (hbank : bankOf e.bank u = bankOf e.bank s)
    (hconfig : ∀ n : Channel, u.channels[n].config = s.channels[n].config) (c : Class) :
    servesClass d c u = servesClass e c s := by
  funext n
  unfold servesClass
  rw [hconfig, hsame.1, hsame.2, hbank]

theorem settledVerdict_of_same (hsame : Retouched e d) (hbank : bankOf e.bank u = bankOf e.bank s) :
    settledVerdict d u = settledVerdict e s := by
  rw [settledVerdict, settledVerdict, (hsame.positions hbank).1, hsame.same.2.2.2.2.2.2.2]

theorem verdictChannels_of_same (hsame : Retouched e d) (hbank : bankOf e.bank u = bankOf e.bank s)
    (hconfig : ∀ n : Channel, u.channels[n].config = s.channels[n].config) : verdictChannels d u = verdictChannels e s := by
  obtain ⟨_, hlane, _, _, hentryBank, _⟩ := hsame.same
  rw [verdictChannels, verdictChannels, settledVerdict_of_same hsame hbank, servesClass_congr ⟨hlane, hentryBank⟩ hbank hconfig]

/-- With room a decision with a channel to serve leaves its entry a PENDING action. -/
theorem takeDecision_promised (hd : entryAt slot s = some d) (hdue : decisionDue d s = true) {n : Channel} (hn : n ∈ verdictChannels d s)
    (hroom : s.schedule.length + (verdictChannels d s).length ≤ 128) : Promised slot s.motion.h (takeDecision slot s) := by
  have hfull := fullAt_eq_false (choice := fun n => some (verdictChoice slot d n s)) hn hroom
  refine ⟨(verdictChoice slot d n s).1, (takeDecision_placements hd hdue).schedule.mem_iff.2 ?_, verdictChoice_waits slot d n s⟩
  exact List.mem_append_right _ (List.mem_map.2 ⟨n, List.mem_filter.2 ⟨hn, by rw [hfull]; rfl⟩, rfl⟩)

/-! ### The entry's way -/

/-- The entry has a deferred action. -/
def HasDeferred (slot : Slot) (s : State) : Prop := ∃ a ∈ s.schedule, a.item = some slot ∧ a.state = .pending true

/-- There is room in the schedule, and no other entry takes its decision at the advance. -/
def DecidesAlone (slot : Slot) (s : State) : Prop :=
  s.schedule.length ≤ 112 ∧ ∀ x ∈ s.table.entries, x.1 ≠ slot → Undecided x.2 →
    reached (s.motion.h + 1) (decisionPosition x.2 s) = false

/-- The exit finds a PENDING action of the entry. -/
def LosesAction (slot : Slot) (e : Entry) (s : State) : Prop :=
  HasDeferred slot s ∨ e.state ≠ .scheduled ∧ DecidesAlone slot s ∧ verdictChannels e s ≠ []

/-- What the entry has become once it has left. -/
def Left (s : State) (slot : Slot) (e d : Entry) : Prop :=
  Became .done (some (settledVerdict e s)) e d ∧ (LosesAction slot e s → d.flags.missed = true)

/-- The outcome may be posted at the advance. -/
def MayPost (first : List AdvanceWork) (s : State) : Prop := s.verdicts.fifo = [] ∨ .posts ∈ first

/-- Where an entry stands that leaves at the advance: it waits for its decision, or for the exits, or it has left. -/
inductive Leaving (s : State) (first : List AdvanceWork) (slot : Slot) (e : Entry) (left : List AdvanceWork)
    (fixed : Option (List Slot)) (u : State) : Prop
  | waiting (d : Entry) (entry : entryAt slot u = some d) (kept : Retouched e d) (state : e.state = .tracked ∨ e.state = .held)
    (bank : bankOf e.bank u = bankOf e.bank s) (decision : DecisionWaits slot left fixed) (exits : .exits ∈ left)
    (deferred : HasDeferred slot s → Promised slot (s.motion.h + 1) u)
    (alone : DecidesAlone slot s → Alone (· = slot) (s.motion.h + 1) u ∧ Room s left u)
  | scheduled (d : Entry) (entry : entryAt slot u = some d) (became : Became .scheduled (some (settledVerdict e s)) e d)
    (bank : bankOf e.bank u = bankOf e.bank s) (exits : .exits ∈ left)
    (loses : LosesAction slot e s → Promised slot (s.motion.h + 1) u)
  | retired (h : Retired slot (MayPost first s) (Left s slot e) u)

theorem EntryFlags.bits_missed (f : EntryFlags) : f.bits.getLsbD 7 = f.missed := by
  have hbit (b : Bool) (v : Half) (i : Nat) : (if b then v else 0).getLsbD i = (b && v.getLsbD i) := by cases b <;> simp
  simp only [EntryFlags.bits, BitVec.getLsbD_or, hbit]
  simp

theorem Left.retouched {c : Entry} (h : Left s slot e d) (h' : Retouched d c) : Left s slot e c := by
  refine ⟨h.1.retouched h', fun hloses => ?_⟩
  rw [← EntryFlags.bits_missed]
  exact h'.gains.bit (by rw [EntryFlags.bits_missed, h.2 hloses])

/-! ### One piece of work -/

/-- A piece of work that is ready is left, or it is a part that places nothing. -/
theorem ready_places (hready : workReady u left w = true) (s : State) : w ∈ left ∨ places s w = 0 := by
  have hpart (hnone : ∀ n, placesAt s w n = false) : places s w = 0 := by simp [places, List.countP_eq_zero, hnone]
  cases w with
  | channelEvent n => exact .inr (hpart fun _ => rfl)
  | decision => exact .inr (hpart fun _ => rfl)
  | exit => exact .inr (hpart fun _ => rfl)
  | posts => exact .inr (hpart fun _ => rfl)
  | drainCompletion => exact .inr (hpart fun _ => rfl)
  | exits => exact .inr (hpart fun _ => rfl)
  | _ => exact .inl (by simpa [workReady, wholeWork] using hready)

/-- The exits come after the decisions (R53). -/
theorem not_exits_of_decisions (hready : workReady u left w = true) (hdecisions : .decisions ∈ left) : w ≠ .exits ∧ w ≠ .exit := by
  constructor <;> rintro rfl <;> simp [workReady, wholeWork, hdecisions] at hready

variable {due back : Channel → Prop}

/-- An entry that waits for its decision takes it, or goes on waiting. -/
theorem Leaving.step_waiting (hline : LineInv due back u) (ht : tracking u = true) (hready : workReady u left w = true)
    (hh : u.motion.h = s.motion.h + 1) (hconfig : ∀ n : Channel, u.channels[n].config = s.channels[n].config)
    (hdecision : reached (s.motion.h + 1) (decisionPosition e s) = true) (hd : entryAt slot u = some d) (hkept : Retouched e d)
    (hstate : e.state = .tracked ∨ e.state = .held) (hbank : bankOf e.bank u = bankOf e.bank s) (hwaits : DecisionWaits slot left fixed)
    (hexits : .exits ∈ left) (hdeferred : HasDeferred slot s → Promised slot (s.motion.h + 1) u)
    (halone : DecidesAlone slot s → Alone (· = slot) (s.motion.h + 1) u ∧ Room s left u) :
    Leaving s first slot e (left.erase w ++ (doWork fixed w u).2) (fixDecisions fixed w u) (doWork fixed w u).1 := by
  obtain ⟨hdstate, _, _, _, hdbank, _⟩ := hkept.same
  have hlive : isLive d = true := by rcases hstate with h | h <;> simp [isLive, hdstate, h]
  have hopening : d.state ≠ .opening := by rcases hstate with h | h <;> simp [hdstate, h]
  have hnotExit : exitDue d u = false := by rcases hstate with h | h <;> simp [exitDue, hdstate, h]
  have hdue : decisionDue d u = true := by
    rw [decisionDue, hdstate, hh, (hkept.positions hbank).2.1, hdecision]
    rcases hstate with h | h <;> simp [h]
  have hafter : bankOf e.bank (doWork fixed w u).1 = bankOf e.bank s := by rw [← hdbank, doWork_bankOf fixed hd hlive, hdbank, hbank]
  have hleft : .exits ∈ left.erase w ++ (doWork fixed w u).2 :=
    (mem_left_iff (Ne.symm (not_exits_of_decisions hready hwaits.1).1) (not_mem_follows (by simp) (by simp) fixed w u)).2 hexits
  have hpromised (hp : Promised slot (s.motion.h + 1) u) : Promised slot (s.motion.h + 1) (doWork fixed w u).1 := by
    rw [← hh] at hp ⊢
    exact hp.doWork (not_leaves hline.table.wf hd hopening (.inl hnotExit)) fixed
  have hwork (ha : Alone (· = slot) (s.motion.h + 1) u) (hw : w = .decisions ∨ w = .decision) :
      (doWork fixed w u).1 = if slot ∈ decisionsTaken fixed w u then takeDecision slot u else u := by
    rw [doWork_of_decisions hw]
    exact (hh ▸ ha : Alone (· = slot) u.motion.h u).takeDecisions _
  by_cases htaken : slot ∈ decisionsTaken fixed w u
  · obtain ⟨late, full, c, hc, hdecided⟩ := doWork_decided htaken hd hdue
    rw [settledVerdict_of_same hkept hbank] at hdecided
    refine .scheduled c hc (hkept.decided hdecided).became hafter hleft fun hloses => ?_
    rcases hloses with h | ⟨_, hdecides, hserved⟩
    · exact hpromised (hdeferred h)
    · obtain ⟨ha, hroom⟩ := halone hdecides
      obtain ⟨n, hn⟩ := List.exists_mem_of_ne_nil _ hserved
      have hw : w = .decisions ∨ w = .decision := by
        cases w with
        | decisions => exact .inl rfl
        | decision => exact .inr rfl
        | _ => simp [decisionsTaken] at htaken
      have hchannels := verdictChannels_of_same hkept hbank hconfig
      rw [hwork ha hw, if_pos htaken, ← hh]
      refine takeDecision_promised hd hdue (hchannels ▸ hn) ?_
      rw [hchannels]
      exact hroom.verdict hdecides.1 List.filter_sublist fun m hm => servesClass_mode (mem_verdictChannels.1 hm)
  · obtain ⟨c, hc, hdc⟩ := doWork_kept hline.table hd hopening hlive (.inl htaken) hnotExit
    refine .waiting c hc (hkept.trans hdc) hstate hafter (hwaits.step (hwaits.mem hline.table hd hdue) htaken) hleft
      (fun h => hpromised (hdeferred h)) fun hdecides => ?_
    obtain ⟨ha, hroom⟩ := halone hdecides
    exact ⟨ha.step hh hline ht fixed w, hroom.step hconfig (ready_places hready s) fun hw => by rw [hwork ha hw, if_neg htaken]⟩

/-- An entry that waits for the exits leaves with them, or goes on waiting. -/
theorem Leaving.step_scheduled (hline : LineInv due back u) (ht : tracking u = true) (hready : workReady u left w = true)
    (hh : u.motion.h = s.motion.h + 1) (hfifo : u.verdicts.fifo = s.verdicts.fifo)
    (hexit : reached (s.motion.h + 1) (exitPosition e s) = true) (hd : entryAt slot u = some d)
    (hbecame : Became .scheduled (some (settledVerdict e s)) e d) (hbank : bankOf e.bank u = bankOf e.bank s)
    (hexits : .exits ∈ left) (hloses : LosesAction slot e s → Promised slot (s.motion.h + 1) u) :
    Leaving s first slot e (left.erase w ++ (doWork fixed w u).2) (fixDecisions fixed w u) (doWork fixed w u).1 := by
  obtain ⟨hdstate, _, hdlane, _, _, hdbank, hdleading⟩ := hbecame.same
  have hwf := hline.table.wf
  have hlive : isLive d = true := by simp [isLive, hdstate]
  have hdue : exitDue d u = true := by
    rw [exitDue, hdstate, hh, (positions_congr hdbank hdlane hdleading hbank).2.2, hexit]
    rfl
  have hleaving : (slot, d) ∈ leavingEntries u := mem_leavingEntries.2 ⟨findEntry_mem hd, hdue⟩
  have hleft (v : State) (hp : LosesAction slot e s → Promised slot (s.motion.h + 1) v) : Left s slot e (exitedEntry slot d v) :=
    ⟨hbecame.exited slot v, fun h => exitedEntry_missed (hp h) d⟩
  by_cases hw : w = .exits
  · subst hw
    obtain ⟨v, hv, hpromised⟩ := foldl_takeExit_exited (h := s.motion.h + 1) (leavingEntries_nodup hwf) hleaving u
    refine .retired (settlePosts_retired (hline.exited ht) (fun hempty => .inl ?_) (.inl ⟨_, hv, rfl, hleft v fun h => hpromised (hloses h)⟩))
    rwa [(foldl_takeExit_queue _ u).2, hfifo] at hempty
  have hafter : bankOf e.bank (doWork fixed w u).1 = bankOf e.bank s := by rw [← hdbank, doWork_bankOf fixed hd hlive, hdbank, hbank]
  have hstill : .exits ∈ left.erase w ++ (doWork fixed w u).2 :=
    (mem_left_iff (Ne.symm hw) (not_mem_follows (by simp) (by simp) fixed w u)).2 hexits
  by_cases hone : w = .exit
  · subst hone
    obtain ⟨x, rest, hlist, heq⟩ := (takeNextExit_cases u).resolve_left fun ⟨hnil, _⟩ => by simp [hnil] at hleaving
    have hwork : (doWork fixed .exit u).1 = takeExit x.1 x.2 u := heq
    by_cases hx : x.1 = slot
    · have hxd : x.2 = d := by
        have hmem : x ∈ leavingEntries u := hlist ▸ List.mem_cons_self
        exact Option.some.inj ((mem_leavingEntries_entryAt hwf hmem).1.symm.trans (hx ▸ hd))
      refine .retired (.inl ⟨exitedEntry slot d u, ?_, rfl, hleft u hloses⟩)
      rw [hwork, hx, hxd, entryAt_takeExit, if_pos rfl]
    · refine .scheduled d ?_ hbecame hafter hstill fun h => ?_
      · rw [hwork, entryAt_takeExit, if_neg (Ne.symm hx), hd]
      · rw [hwork]
        exact (hloses h).takeExit hx x.2
  · have honly {c : Entry} (hc : entryAt slot u = some c) : c = d := Option.some.inj (hc.symm.trans hd)
    obtain ⟨c, hc, hdc⟩ := doWork_slotKept (w := w) fixed hwf (fun l _ c hc _ => by simp [honly hc, hdstate])
      (.inr fun c hc => by simp [decisionDue, honly hc, hdstate]) (fun hw' => absurd hw' (not_or.2 ⟨hw, hone⟩))
      (fun _ => hline.table.not_done hd hlive) d hd
    refine .scheduled c hc (hbecame.retouched hdc) hafter hstill fun h => ?_
    have hp := hloses h
    rw [← hh] at hp ⊢
    exact hp.doWork (not_leaves hwf hd (by simp [hdstate]) (.inr ⟨hw, hone⟩)) fixed

/-- What holds all along the walk of an advance at which an entry leaves. -/
structure ExitWalk (s : State) (first : List AdvanceWork) (slot : Slot) (e : Entry) (left : List AdvanceWork)
    (fixed : Option (List Slot)) (u : State) : Prop where
  settings : SettingsKept s u
  fifo : u.verdicts.fifo = s.verdicts.fifo
  slow : SlowLevels left u
  leaving : Leaving s first slot e left fixed u

theorem doWork_fifo (fixed : Option (List Slot)) (w : AdvanceWork) (u : State) : (doWork fixed w u).1.verdicts = u.verdicts := by
  cases w with
  | mark =>
    simp only [doWork]
    split
    · exact pitchMark_verdicts u
    · rfl
  | _ => simp [doWork]

theorem doWork_settings (fixed : Option (List Slot)) (w : AdvanceWork) (u : State) : SettingsKept u (doWork fixed w u).1 :=
  (doWork_effects (sound := False) (posting := True) fixed w trivial False.elim).settingsKept

theorem Leaving.start (hs : LineSound s) (hmem : (slot, e) ∈ s.table.entries)
    (hstate : e.state = .scheduled ∨
      (e.state = .tracked ∨ e.state = .held) ∧ reached (s.motion.h + 1) (decisionPosition e s) = true) :
    Leaving s first slot e advanceWork none (stepForward s) := by
  have hat : entryAt slot (stepForward s) = some e := entryAt_of_mem hs.table.1 hmem
  have hbank : bankOf e.bank (stepForward s) = bankOf e.bank s := by cases e.bank <;> rfl
  have hdeferred (h : HasDeferred slot s) : Promised slot (s.motion.h + 1) (stepForward s) := by
    obtain ⟨a, ha, hitem, hpending⟩ := h
    exact ⟨a, ha, hitem, waits_of_deferred _ hpending⟩
  rcases hstate with hscheduled | ⟨hstate, _⟩
  · have hverdict : e.verdict = some (settledVerdict e s) := by
      obtain ⟨v, hv⟩ := Option.ne_none_iff_exists'.1 (hs.entries.2.2.2 _ hmem (.inr hscheduled))
      rw [settledVerdict, hv]
      rfl
    have hbecame := (Retouched.refl e).became
    rw [hscheduled, hverdict] at hbecame
    exact .scheduled e hat hbecame hbank (by decide) fun hloses => hdeferred (hloses.resolve_right fun h => h.1 hscheduled)
  · exact .waiting e hat (.refl e) hstate hbank (.start slot) (by decide) hdeferred fun ⟨_, halone⟩ =>
      ⟨Alone.start fun x hx => halone x hx, Room.start s⟩

theorem ExitWalk.step (hadvance : AdvanceState s left u) (ht : tracking u = true) (hline : LineInv due back u)
    (hleft : Leftover left) (hready : workReady u left w = true) (hnamed : w ∈ first ∨ w ∈ left)
    (hslow : s.motion.h + 1 = s.motion.m → attemptDue s = true → ∀ l : Lane, s.epochUnit.shadow.lanes[l].debounce ≠ 0 ∨
      s.epochUnit.shadow.lanes[l].activeHigh = (currentBank s).lanes[l].activeHigh)
    (hdecision : e.state = .scheduled ∨ reached (s.motion.h + 1) (decisionPosition e s) = true)
    (hexit : reached (s.motion.h + 1) (exitPosition e s) = true) (h : ExitWalk s first slot e left fixed u) :
    ExitWalk s first slot e (left.erase w ++ (doWork fixed w u).2) (fixDecisions fixed w u) (doWork fixed w u).1 where
  settings := h.settings.trans (doWork_settings fixed w u)
  fifo := by rw [doWork_fifo, h.fifo]
  slow := hadvance.slowLevels hleft hready hslow h.slow
  leaving := by
    obtain ⟨⟨_, hconfig, _⟩, hfifo, hlevels, hleaving⟩ := h
    rcases hleaving with ⟨d, hd, hkept, hstate, hbank, hwaits, hexits, hdeferred, halone⟩ | ⟨d, hd, hbecame, hbank, hexits, hloses⟩ | hretired
    · have hreached := hdecision.resolve_left (by rcases hstate with h | h <;> simp [h])
      exact Leaving.step_waiting hline ht hready hadvance.h hconfig hreached hd hkept hstate hbank hwaits hexits hdeferred halone
    · exact Leaving.step_scheduled hline ht hready hadvance.h hfifo hexit hd hbecame hbank hexits hloses
    · refine .retired (doWork_retired hline ht hlevels hready (fun hw => .inr ?_) (fun hempty => .inl (hfifo ▸ hempty))
        (fun _ _ => Left.retouched) hretired)
      subst hw
      exact hnamed.resolve_right fun hin => (hleft.whole _ hin).2 rfl

/-- An entry that leaves at the advance has left when the work is done. -/
theorem Leaving.retired_at_end (h : Leaving s first slot e left fixed u) (hend : WalkEnd left u t) :
    Retired slot (MayPost first s) (Left s slot e) u := by
  have hover (hexits : .exits ∈ left) {d : Entry} (hd : entryAt slot u = some d) (hlive : isLive d = true) : False := by
    rcases hend with ⟨rfl, _⟩ | ⟨hdone, _⟩
    · simp at hexits
    · have hnone := (liveEntries_eq_zero_iff u).1 ((drainDone_iff u).1 hdone).2.1 _ (findEntry_mem hd)
      exact absurd hnone (by simpa [isLive] using hlive)
  rcases h with ⟨d, hd, hkept, hstate, _, _, hexits, _⟩ | ⟨d, hd, hbecame, _, hexits, _⟩ | hretired
  · exact (hover hexits hd (by rcases hstate with h | h <;> simp [isLive, hkept.same.1, h])).elim
  · exact (hover hexits hd (by simp [isLive, hbecame.same.1])).elim
  · exact hretired

theorem WalkEnd.retired {allowed : Prop} {P : Entry → Prop} (hend : WalkEnd left u t) (hline : LineInv due back u)
    (hallowed : u.verdicts.fifo = [] → allowed) (h : Retired slot allowed P u) : Retired slot allowed P t := by
  rcases hend with ⟨_, _, rfl⟩ | ⟨hdone, rfl⟩
  · exact (settlePosts_retired hline hallowed h).of_same (by simp [entryAt]) (.of_eq (by simp))
  · obtain ⟨_, hnone, hschedule⟩ := (drainDone_iff u).1 hdone
    exact settlePosts_retired (hline.enterStopped hschedule hnone) hallowed (h.of_same rfl (.of_eq rfl))

theorem WalkEnd.fifo (hend : WalkEnd left u t) : t.verdicts = u.verdicts := by
  rcases hend with ⟨_, _, rfl⟩ | ⟨_, rfl⟩ <;> simp

/-- A slot whose entry is not live is in no lane list, and no action is linked to it. -/
theorem LineInv.cleared (hline : LineInv due back t) (hslot : ∀ d, entryAt slot t = some d → isLive d = false) :
    (∀ a ∈ t.schedule, a.item ≠ some slot) ∧ ∀ l : Lane, slot ∉ t.table.laneList[l] := by
  refine ⟨hline.schedule.not_linked hslot, fun l hmem => ?_⟩
  obtain ⟨d, hd, _, hlive⟩ := (hline.table.laneList l slot).1 hmem
  rw [hslot d hd] at hlive
  cases hlive

/-- Settles O21: the entry waits for its decision and for the exits (`Leaving`), and once it has left it stays at DONE or is posted
(`Retired`). -/
theorem exitRetiresTheEntry : Obligations.ExitRetiresTheEntry := by
  intro first s slot e hs hmay hslow hmem hstate hexit verdict alone served missed
  have hverdict : verdict = settledVerdict e s := by
    rw [settledVerdict]
    cases hv : e.verdict <;> simp only [verdict, hv] <;> rfl
  have hmissed : missed → LosesAction slot e s := by
    rintro (hdeferred | ⟨hundecided, halone, n, hmode, hlane, hmask⟩)
    · exact .inl hdeferred
    · refine .inr ⟨hundecided, ⟨halone.1, fun x hx hne => halone.2 x hx hne⟩, List.ne_nil_of_mem (mem_verdictChannels (n := n).2 ?_)⟩
      rw [hverdict] at hmask
      simp only [servesClass, inMask, Bool.and_eq_true, decide_eq_true_eq]
      exact ⟨⟨hmode, hlane⟩, hmask⟩
  have ht : tracking s = true := (Bool.and_eq_true_iff.1 hmay).1
  obtain ⟨left, fixed, u, t, hexec, _, _, hline, ⟨_, hfifo, _, hleaving⟩, hend⟩ := advance_walk_sound hs hmay first
    (P := ExitWalk s first slot e) ⟨.refl s, rfl, slowLevels_start _, .start hs hmem hstate⟩
    fun left fixed w u hadvance hengine hline hleft hready hdrain hnamed h =>
      h.step hadvance (by rw [tracking_congr (congrArg Engine.state hengine), ht]) hline hleft hready hnamed hslow
        (hstate.imp_right fun h => h.2) hexit
  obtain ⟨hbounded, _, hafter⟩ := lineSound_iff.1 (exec_lineSound hs hexec)
  have hretired := hend.retired hline (fun hempty => .inl (hfifo ▸ hempty)) (hleaving.retired_at_end hend)
  have hcleared := hafter.cleared (slot := slot) fun d hd => by
    rcases hretired with ⟨c, hc, hdone, _⟩ | ⟨hnone, _⟩
    · simp [isLive, Option.some.inj (hd.symm.trans hc), hdone]
    · rw [hnone] at hd
      cases hd
  refine ⟨t, hexec, hcleared.1, hcleared.2, ?_⟩
  rcases hretired with ⟨d, hd, hdone, ⟨hbecame, hloses⟩⟩ | ⟨hnone, hposted, d, ⟨hbecame, hloses⟩, hrecord⟩
  · have hlist : slot ∈ t.table.doneList := (hafter.table.doneList slot).2 ⟨d, hd, by simp [isLive, hdone]⟩
    refine ⟨d.flags, d.fired, fun h => hloses (hmissed h), hbecame.gains.2, .inl ⟨?_, hlist, ?_⟩⟩
    · rw [hd, hverdict]
      exact congrArg some hbecame.entry
    · rw [← hfifo, ← hend.fifo]
      exact hbounded.2.2.2.2.2 (List.ne_nil_of_mem hlist)
  · obtain ⟨tag, htag⟩ : ∃ tag, e.tag = some tag := by
      refine Option.ne_none_iff_exists'.1 fun hnone => ?_
      have hopening := (hs.entries.1 _ hmem).1.2 hnone
      rcases hstate with h | ⟨h | h, _⟩ <;> simp [h] at hopening
    refine ⟨d.flags, d.fired, fun h => hloses (hmissed h), hbecame.gains.2, .inr ⟨hposted, hnone, fun hlist => ?_, tag, htag, ?_⟩⟩
    · obtain ⟨c, hc, _⟩ := (hafter.table.doneList slot).1 hlist
      rw [hnone] at hc
      cases hc
    · obtain ⟨_, hdverdict, hdlane, hdtag, hdepoch, _, hdleading⟩ := hbecame.same
      rwa [outcomeRecord, hdverdict, hdlane, hdtag, hdepoch, hdleading, htag, ← hverdict] at hrecord

end Sys2Proof.Machine
end

section
set_option Elab.async false
/-! PROOFS. Where the actions of an entry come from in the work of an advance: but for its own placements each goes on as it was, or
is met by its channel. -/

namespace Sys2Proof.Machine

variable {s t u : State} {slot k : Slot} {e d : Entry} {l : Lane} {n : Channel} {h : Word} {left : List AdvanceWork}
  {fixed : Option (List Slot)} {w : AdvanceWork} {q : Action → Bool} {f : Action → Action} {xs ys : List Action}

/-- An action linked to a slot comes from one of its channel that was linked before, which it still is where that one waits. -/
def LinksFrom (slot : Slot) (h : Word) (xs ys : List Action) : Prop :=
  ∀ a ∈ ys, a.item = some slot → ∃ b ∈ xs, b.item = some slot ∧ b.channel = a.channel ∧ (Waits h b → a = b)

theorem LinksFrom.of_subset (hsub : ∀ a ∈ ys, a.item = some slot → a ∈ xs) : LinksFrom slot h xs ys := fun a ha hitem =>
  ⟨a, hsub a ha hitem, hitem, rfl, fun _ => rfl⟩

theorem LinksFrom.refl (xs : List Action) : LinksFrom slot h xs xs := .of_subset fun _ ha _ => ha

theorem LinksFrom.of_eq (heq : ys = xs) : LinksFrom slot h xs ys := by
  rw [heq]
  exact .refl xs

theorem LinksFrom.trans {zs : List Action} (h₁ : LinksFrom slot h xs ys) (h₂ : LinksFrom slot h ys zs) : LinksFrom slot h xs zs := by
  intro a ha hitem
  obtain ⟨b, hb, hbitem, hbchannel, hab⟩ := h₂ a ha hitem
  obtain ⟨c, hc, hcitem, hcchannel, hbc⟩ := h₁ b hb hbitem
  refine ⟨c, hc, hcitem, hcchannel.trans hbchannel, fun hwaits => ?_⟩
  obtain rfl := hbc hwaits
  exact hab hwaits

/-- A change of an action that does not wait. -/
theorem LinksFrom.modifyFirst (hq : ∀ x, q x = true → ¬ Waits h x) (hf : ∀ x, (f x).item = x.item ∧ (f x).channel = x.channel) :
    LinksFrom slot h xs (modifyFirst q f xs) := by
  intro a ha hitem
  rcases mem_modifyFirst ha with hold | ⟨b, hb, hqb, rfl⟩
  · exact LinksFrom.refl xs a hold hitem
  · exact ⟨b, hb, (hf b).1 ▸ hitem, (hf b).2.symm, fun hwaits => absurd hwaits (hq b hqb)⟩

theorem LinksFrom.eraseP : LinksFrom slot h xs (xs.eraseP q) := .of_subset fun _ ha _ => List.mem_of_mem_eraseP ha

theorem LinksFrom.detachItem (k : Slot) : LinksFrom slot h xs (detachItem k xs) := by
  refine .of_subset fun a ha hitem => ?_
  rw [detachItem_eq] at ha
  obtain ⟨b, hb, rfl⟩ := List.mem_map.1 ha
  by_cases hk : b.item = some k
  · rw [if_pos hk] at hitem
    cases hitem
  · rw [if_neg hk]
    exact (List.mem_filter.1 hb).1

/-- Actions of other entries, or of none, join the schedule. -/
theorem LinksFrom.append {new : List Action} (hperm : ys.Perm (xs ++ new)) (hnew : ∀ a ∈ new, a.item ≠ some slot) :
    LinksFrom slot h xs ys :=
  .of_subset fun a ha hitem => (List.mem_append.1 (hperm.mem_iff.1 ha)).resolve_right fun hmem => hnew a hmem hitem

/-! ### The channels' work -/

theorem settleFirst_links (hq : ∀ x, q x = true → ¬ Waits h x) (s : State) :
    LinksFrom slot h s.schedule (settleFirst q s).schedule := by
  have hactive (m : Channel) (x : Action) (hx : activeOn m x = true) : ¬ Waits h x := fun hwaits => by
    rw [hwaits.not_activeOn m] at hx
    cases hx
  rcases settleFirst_cases s q with ⟨_, heq⟩ | ⟨a, _, ⟨_, heq⟩ | ⟨_, _, heq⟩ | ⟨_, _, heq⟩ | ⟨_, _, heq⟩⟩ <;> rw [heq]
  · exact .refl _
  · rw [fire_schedule]
    exact .modifyFirst hq fun _ => ⟨rfl, rfl⟩
  · rw [joinPulse_schedule]
    refine .trans .eraseP (.modifyFirst (hactive a.channel) fun x => ?_)
    obtain ⟨hchannel, hitem, _⟩ := extendEnd_kept s.motion.h (pulseFinish s.motion a) x
    exact ⟨hitem, hchannel⟩
  · rw [refuseNewcomer_schedule]
    exact .eraseP
  · rw [deferNewcomer_schedule]
    exact .modifyFirst hq fun _ => ⟨rfl, rfl⟩

theorem not_waits_of_due (n : Channel) (h : Word) (x : Action) (hx : dueOn n h x = true) : ¬ Waits h x := fun hwaits => by
  rw [hwaits.notDue n] at hx
  cases hx

theorem takeDue_links (n : Channel) (s : State) : LinksFrom slot s.motion.h s.schedule (takeDue n s).schedule := by
  have hall := settleAll_keeps (fun u => u.motion.h = s.motion.h ∧ LinksFrom slot s.motion.h s.schedule u.schedule) (dueOn n s.motion.h)
    (fun u ⟨hm, hu⟩ => ⟨by rw [settleFirst_motion, hm], hu.trans (settleFirst_links (not_waits_of_due n _) u)⟩) s.schedule.length s
    ⟨rfl, .refl _⟩
  exact hall.2

theorem endPulse_links (n : Channel) (s : State) : LinksFrom slot h s.schedule (endPulse n s).schedule := by
  rcases endPulse_cases s n with ⟨_, heq⟩ | ⟨_, _, heq⟩ <;> rw [heq]
  · exact .refl _
  · exact .eraseP

theorem channelAdvance_links (n : Channel) (s : State) : LinksFrom slot s.motion.h s.schedule (channelAdvance n s).schedule := by
  unfold channelAdvance
  split
  · have hdue := takeDue_links (slot := slot) n (endPulse n s)
    rw [(endPulse_frame n s).1] at hdue
    exact (endPulse_links n s).trans hdue
  · exact takeDue_links n s

theorem channelEvent_links (n : Channel) (s : State) : LinksFrom slot s.motion.h s.schedule (channelEvent n s).schedule := by
  unfold channelEvent
  split
  · exact endPulse_links n s
  · exact settleFirst_links (not_waits_of_due n _) s

/-! ### Placements for other entries -/

theorem placeItemActions_links (hk : k ≠ slot) (e : Entry) (s : State) :
    LinksFrom slot h s.schedule (placeItemActions k e s).schedule := by
  refine .append (placeItemActions_placements k e s).schedule fun a ha hitem => hk ?_
  obtain ⟨n, _, hn⟩ := List.mem_filterMap.1 ha
  obtain ⟨⟨b, late⟩, hchoice, rfl⟩ := Option.map_eq_some_iff.1 hn
  obtain ⟨start, hstart, _⟩ := itemChoice_spec hchoice
  rw [hstart] at hitem
  exact Option.some.inj hitem

theorem takeLeading_links (hslot : entryAt slot s = some d) (l : Lane) (ed : PendingEdge) :
    LinksFrom slot h s.schedule (takeLeading l ed s).schedule := by
  have hraise (code : ExceptionCode) : LinksFrom slot h s.schedule (raise code (some l) none s).schedule := .of_eq (raise_schedule _ _ _ _)
  unfold takeLeading
  split
  · exact hraise _
  split
  · exact hraise _
  split
  · exact hraise _
  · next k hfree =>
    have hk : k ≠ slot := fun heq => by
      rw [← heq, lowestFreeSlot_entryAt hfree] at hslot
      cases hslot
    rw [openEntry_eq]
    exact placeItemActions_links hk (openedEntry l ed.latched s) (withOpening k l ed.latched s)

theorem takeTrailing_links (l : Lane) (ed : PendingEdge) (s : State) : LinksFrom slot h s.schedule (takeTrailing l ed s).schedule := by
  unfold takeTrailing
  rw [openGap_schedule]
  split
  · next k x _ hopening =>
    unfold measure
    dsimp only
    split
    · rw [raise_schedule]
      exact .detachItem k
    · exact .of_eq (confirm_schedule _ _ _ _ _)
  · exact .refl _

theorem rawChange_links (hslot : entryAt slot s = some d) (l : Lane) : LinksFrom slot h s.schedule (rawChange l s).schedule := by
  unfold rawChange
  split
  · exact .refl _
  split
  · exact .refl _
  · unfold createEdge
    dsimp only
    split
    · unfold takeEdge
      dsimp only
      split
      · exact takeTrailing_links l _ (modifyDetector l _ s)
      · exact takeLeading_links (s := modifyDetector l _ s) hslot l _
    · exact .refl _

theorem placePitchActions_links (mark : Word) (s : State) : LinksFrom slot h s.schedule (placePitchActions mark s).schedule := by
  have key (channels : List Channel) : ∀ u : State,
      LinksFrom slot h u.schedule (channels.foldl (fun s n => placePitchAction mark n s) u).schedule := by
    induction channels with
    | nil => exact fun _ => .refl _
    | cons n channels ih =>
      intro u
      refine .trans ?_ (ih (placePitchAction mark n u))
      unfold placePitchAction
      dsimp only
      split
      · exact .of_eq (raise_schedule _ _ _ _)
      · exact .append ((insertAction_perm _ _ _).trans (List.perm_append_singleton _ _).symm) (by simp [newAction])
  exact key _ s

theorem foldl_takeExit_links (l : List (Slot × Entry)) (s : State) :
    LinksFrom slot h s.schedule (l.foldl (fun s x => takeExit x.1 x.2 s) s).schedule := by
  induction l generalizing s with
  | nil => exact .refl _
  | cons x l ih =>
    refine .trans ?_ (ih (takeExit x.1 x.2 s))
    rw [takeExit_eq]
    exact .detachItem x.1

/-- A piece of work that decides nothing for an entry makes no action of its. -/
theorem doWork_links (hslot : entryAt slot u = some d) (hdecisions : w = .decisions ∨ w = .decision → (doWork fixed w u).1 = u) :
    LinksFrom slot u.motion.h u.schedule (doWork fixed w u).1.schedule := by
  cases w with
  | channel n => exact channelAdvance_links n u
  | channelEvent n => exact channelEvent_links n u
  | decisions => exact .of_eq (by rw [hdecisions (.inl rfl)])
  | decision => exact .of_eq (by rw [hdecisions (.inr rfl)])
  | exits =>
    rw [doWork, takeExits, settlePosts_schedule]
    exact foldl_takeExit_links _ u
  | exit =>
    rcases takeNextExit_cases u with ⟨_, heq⟩ | ⟨y, rest, hlist, heq⟩ <;> rw [doWork, heq]
    · exact .refl _
    · rw [takeExit_eq]
      exact .detachItem y.1
  | mark =>
    simp only [doWork]
    split
    · exact .of_eq (pitchMark_schedule u)
    · exact .refl _
  | pitchActions => exact placePitchActions_links _ u
  | levelChange l => exact rawChange_links hslot l
  | detector l => exact .of_eq (by rw [doWork, detectorAdvance_schedule])
  | posts => exact .of_eq (by rw [doWork, serveDone_schedule])
  | drainCompletion => exact .of_eq (by rw [doWork, completeDrain_schedule])

end Sys2Proof.Machine
end

section
set_option Elab.async false
/-! PROOFS. The VERDICT actions that a decision places (R112, R113, R115): the channels that find room have theirs, as the line stood
before the advance, and no other work of the advance touches them. -/

namespace Sys2Proof.Machine

variable {s t u : State} {slot : Slot} {e d : Entry} {first left : List AdvanceWork} {fixed : Option (List Slot)} {w : AdvanceWork}
  {due back : Channel → Prop}

/-! ### The decision -/

/-- The channels of a placement that find room are the first in ascending number (R110). -/
theorem filter_fullAt {c : Channel → Action × Bool} {channels : List Channel} (hsorted : channels.Pairwise (· < ·)) (length : Nat) :
    channels.filter (fun n => !fullAt length (fun n => some (c n)) channels n) = channels.take (128 - length) := by
  induction channels generalizing length with
  | nil => simp
  | cons n channels ih =>
    have hrest := ih (List.pairwise_cons.1 hsorted).2
    rw [List.filter_cons, fullAt_head hsorted]
    by_cases hfull : 128 ≤ length
    · have htail := hrest length
      rw [Nat.sub_eq_zero_of_le hfull, List.take_zero] at htail ⊢
      rw [if_neg (by simp [hfull]), ← htail]
      refine List.filter_congr fun m hm => ?_
      rw [fullAt_tail hsorted hm, if_pos hfull, Nat.add_zero]
    · have htail := hrest (length + 1)
      rw [if_pos (by simp [hfull]), show 128 - length = 128 - (length + 1) + 1 by omega, List.take_succ_cons, ← htail]
      congr 1
      refine List.filter_congr fun m hm => ?_
      rw [fullAt_tail hsorted hm, if_neg hfull]
      rfl

theorem any_fullAt {c : Channel → Action × Bool} {channels : List Channel} (hsorted : channels.Pairwise (· < ·)) (length : Nat) :
    channels.any (fullAt length (fun n => some (c n)) channels) = decide (128 - length < channels.length) := by
  rw [Bool.eq_iff_iff, decide_eq_true_eq, ← not_iff_not, Nat.not_lt, ← List.take_eq_self_iff, ← filter_fullAt (c := c) hsorted,
    List.filter_eq_self]
  simp

/-- What a decision comes to: the channels that find room have their actions, and the entry its flags. -/
theorem takeDecision_outcome (hd : entryAt slot s = some d) (hdue : decisionDue d s = true) :
    let served := (verdictChannels d s).take (128 - s.schedule.length)
    (takeDecision slot s).schedule.Perm (s.schedule ++ served.map fun n => (verdictChoice slot d n s).1) ∧
    ∃ c, entryAt slot (takeDecision slot s) = some c ∧ Decided (settledVerdict d s) (served.any fun n => (verdictChoice slot d n s).2)
      (decide (128 - s.schedule.length < (verdictChannels d s).length)) d c := by
  intro served
  have hsorted : (verdictChannels d s).Pairwise (· < ·) := allChannels_sorted.sublist List.filter_sublist
  have h := takeDecision_placements hd hdue
  have hset : entryAt slot (setEntry slot (scheduledEntry d s) s) = some (scheduledEntry d s) :=
    (entryAt_setEntry _ _ _ _).trans (if_pos rfl)
  dsimp only at h
  rw [filter_fullAt (c := fun n => verdictChoice slot d n s) hsorted, any_fullAt (c := fun n => verdictChoice slot d n s) hsorted,
    ← List.any_filter, filter_fullAt (c := fun n => verdictChoice slot d n s) hsorted] at h
  have hat := h.entryAt hset
  rw [Bool.or_false] at hat
  exact ⟨h.schedule, _, hat, rfl, ⟨setsFlags_placed _ _ d.flags, BitVec.and_self⟩, rfl, rfl⟩

/-! ### A decision along the walk -/

/-- The action that a channel has for an entry decided at the advance, and whether it was moved. -/
def choiceAt (s : State) (slot : Slot) (e : Entry) (n : Channel) : Action × Bool := verdictChoice slot e n (stepForward s)

theorem verdictChoice_of_same (hsame : Retouched e d) (hbank : bankOf e.bank u = bankOf e.bank s)
    (hconfig : ∀ n : Channel, u.channels[n].config = s.channels[n].config) (hh : u.motion.h = s.motion.h + 1)
    (hspeed : u.motion.speed = s.motion.speed) (n : Channel) : verdictChoice slot d n u = choiceAt s slot e n := by
  obtain ⟨_, _, _, _, hdbank, hdleading, _⟩ := hsame.same
  have hstep : bankOf e.bank (stepForward s) = bankOf e.bank s := by cases e.bank <;> rfl
  rw [choiceAt, verdictChoice, verdictChoice, newAction, newAction, (hsame.positions hbank).2.1, hdbank, hdleading, hbank, hh, hspeed,
    hconfig n, ((Retouched.refl e).positions hstep).2.1, hstep]
  rfl

theorem AdvanceState.speed (h : AdvanceState s left u) : u.motion.speed = s.motion.speed := by rw [h.motion]

/-- An entry that waits for its decision at the advance. -/
structure WaitsForDecision (s : State) (slot : Slot) (e : Entry) (left : List AdvanceWork) (fixed : Option (List Slot)) (u : State)
    (d : Entry) : Prop where
  entry : entryAt slot u = some d
  kept : Retouched e d
  bank : bankOf e.bank u = bankOf e.bank s
  decision : DecisionWaits slot left fixed

/-- What holds all along an advance at which one entry alone takes its decision. -/
structure DecisionWalk (s : State) (slot : Slot) (u : State) : Prop where
  settings : SettingsKept s u
  alone : Alone (· = slot) (s.motion.h + 1) u

theorem DecisionWalk.step (h : DecisionWalk s slot u) (hh : u.motion.h = s.motion.h + 1) (hline : LineInv due back u)
    (ht : tracking u = true) : DecisionWalk s slot (doWork fixed w u).1 where
  settings := h.settings.trans (doWork_settings fixed w u)
  alone := h.alone.step hh hline ht fixed w

theorem DecisionWalk.takeDecisions (h : DecisionWalk s slot u) (hh : u.motion.h = s.motion.h + 1) (slots : List Slot) :
    takeDecisions slots u = if slot ∈ slots then takeDecision slot u else u :=
  (hh ▸ h.alone : Alone (· = slot) u.motion.h u).takeDecisions slots

variable {v : Verdict} {late full : Bool}

/-- An entry that waits for its decision takes it, or goes on waiting while nothing is decided. -/
theorem WaitsForDecision.step (h : WaitsForDecision s slot e left fixed u d) (hwalk : DecisionWalk s slot u) (hline : LineInv due back u)
    (hh : u.motion.h = s.motion.h + 1) (hstate : e.state = .tracked ∨ e.state = .held)
    (hreached : reached (s.motion.h + 1) (decisionPosition e s) = true) :
    (w = .decisions ∨ w = .decision → (doWork fixed w u).1 = u) ∧
      (∃ c, WaitsForDecision s slot e (left.erase w ++ (doWork fixed w u).2) (fixDecisions fixed w u) (doWork fixed w u).1 c) ∨
    decisionDue d u = true ∧ bankOf e.bank (doWork fixed w u).1 = bankOf e.bank s ∧ (doWork fixed w u).1 = takeDecision slot u := by
  obtain ⟨hd, hkept, hbank, hwaits⟩ := h
  obtain ⟨hdstate, _, _, _, hdbank, _⟩ := hkept.same
  have hlive : isLive d = true := by rcases hstate with h | h <;> simp [isLive, hdstate, h]
  have hdue : decisionDue d u = true := by
    rw [decisionDue, hdstate, hh, (hkept.positions hbank).2.1, hreached]
    rcases hstate with h | h <;> simp [h]
  have hafter : bankOf e.bank (doWork fixed w u).1 = bankOf e.bank s := by rw [← hdbank, doWork_bankOf fixed hd hlive, hdbank, hbank]
  by_cases htaken : slot ∈ decisionsTaken fixed w u
  · have hw : w = .decisions ∨ w = .decision := by
      cases w with
      | decisions => exact .inl rfl
      | decision => exact .inr rfl
      | _ => simp [decisionsTaken] at htaken
    refine .inr ⟨hdue, hafter, ?_⟩
    rw [doWork_of_decisions hw, hwalk.takeDecisions hh, if_pos htaken]
  · refine .inl ⟨fun hw => by rw [doWork_of_decisions hw, hwalk.takeDecisions hh, if_neg htaken], ?_⟩
    obtain ⟨c, hc, hdc⟩ := doWork_kept hline.table hd (by rcases hstate with h | h <;> simp [hdstate, h]) hlive (.inl htaken)
      (by rcases hstate with h | h <;> simp [exitDue, hdstate, h])
    exact ⟨c, hc, hkept.trans hdc, hafter, hwaits.step (hwaits.mem hline.table hd hdue) htaken⟩

/-- An entry that has had its decision at the advance. -/
structure DecidedAt (s : State) (slot : Slot) (e : Entry) (late full : Bool) (u : State) (d : Entry) : Prop where
  entry : entryAt slot u = some d
  decided : Decided (settledVerdict e s) late full e d
  bank : bankOf e.bank u = bankOf e.bank s

theorem DecidedAt.exitDue (h : DecidedAt s slot e late full u d) (hh : u.motion.h = s.motion.h + 1)
    (hstays : reached (s.motion.h + 1) (exitPosition e s) = false) : exitDue d u = false := by
  rw [Machine.exitDue, hh, (h.decided.positions h.bank).2.2, hstays, Bool.and_false]

/-- An entry that has had its decision goes on, and nothing more is decided. -/
theorem DecidedAt.step (h : DecidedAt s slot e late full u d) (hwalk : DecisionWalk s slot u) (hline : LineInv due back u)
    (hh : u.motion.h = s.motion.h + 1) (hstays : reached (s.motion.h + 1) (exitPosition e s) = false) :
    (w = .decisions ∨ w = .decision → (doWork fixed w u).1 = u) ∧ ∃ c, DecidedAt s slot e late full (doWork fixed w u).1 c := by
  have hexit := h.exitDue hh hstays
  obtain ⟨hd, hdecided, hbank⟩ := h
  obtain ⟨hdstate, _, _, _, _, hdbank, _⟩ := hdecided.same
  have hlive : isLive d = true := by simp [isLive, hdstate]
  constructor
  · intro hw
    have hnone : takeDecision slot u = u := takeDecision_of_not_due fun c hc => by
      rw [Option.some.inj (hc.symm.trans hd)]
      exact hdecided.not_due u
    rw [doWork_of_decisions hw, hwalk.takeDecisions hh, hnone, ite_self]
  · obtain ⟨c, hc, hdc⟩ := doWork_kept (fixed := fixed) (w := w) hline.table hd (by simp [hdstate]) hlive
      (.inr (hdecided.not_due u)) hexit
    exact ⟨c, hc, hdecided.retouched hdc, by rw [← hdbank, doWork_bankOf fixed hd hlive, hdbank, hbank]⟩

/-- The decision, in terms of the line before the advance. -/
theorem WaitsForDecision.decide (h : WaitsForDecision s slot e left fixed u d) (hwalk : DecisionWalk s slot u)
    (hh : u.motion.h = s.motion.h + 1) (hspeed : u.motion.speed = s.motion.speed) (hdue : decisionDue d u = true)
    (hafter : bankOf e.bank (takeDecision slot u) = bankOf e.bank s) :
    let served := (verdictChannels e s).take (128 - u.schedule.length)
    (takeDecision slot u).schedule.Perm (u.schedule ++ served.map fun n => (choiceAt s slot e n).1) ∧
    ∃ c, DecidedAt s slot e (served.any fun n => (choiceAt s slot e n).2)
      (decide (128 - u.schedule.length < (verdictChannels e s).length)) (takeDecision slot u) c := by
  intro served
  obtain ⟨hd, hkept, hbank, _⟩ := h
  have hconfig := hwalk.settings.2.1
  have hchannels := verdictChannels_of_same hkept hbank hconfig
  have hchoice : (fun n => verdictChoice slot d n u) = choiceAt s slot e :=
    funext fun n => verdictChoice_of_same hkept hbank hconfig hh hspeed n
  obtain ⟨hperm, c, hc, hdecided⟩ := takeDecision_outcome hd hdue
  rw [hchannels] at hperm hdecided
  have hone (n : Channel) : verdictChoice slot d n u = choiceAt s slot e n := congrFun hchoice n
  simp only [hone, settledVerdict_of_same hkept hbank] at hperm hdecided
  exact ⟨hperm, c, hc, hkept.decided hdecided, hafter⟩

theorem choiceAt_spec (s : State) (slot : Slot) (e : Entry) (n : Channel) : (choiceAt s slot e n).1.item = some slot ∧
    (choiceAt s slot e n).1.channel = n ∧ Waits (s.motion.h + 1) (choiceAt s slot e n).1 :=
  ⟨rfl, rfl, (verdictChoice_waits slot e n (stepForward s)).2⟩

end Sys2Proof.Machine
end

section
set_option Elab.async false
/-! PROOFS. The VERDICT placement of a decision, with room in the schedule at any advance, and with the schedule full or filling at one
with nothing else to do (R80, R112, R113, R115). -/

namespace Sys2Proof.Machine

variable {s t u : State} {slot k : Slot} {e d : Entry} {first left : List AdvanceWork} {fixed : Option (List Slot)}
  {w : AdvanceWork} {due back : Channel → Prop} {late full : Bool}

/-! ### With room in the schedule -/

/-- A decision with room: the entry waits for it, or it has all its actions and no other of a channel that is not PER_ITEM. -/
inductive RoomyDecision (s : State) (slot : Slot) (e : Entry) (left : List AdvanceWork) (fixed : Option (List Slot)) (u : State) : Prop
  | waiting (d : Entry) (waits : WaitsForDecision s slot e left fixed u d) (room : Room s left u)
  | decided (d : Entry) (full : Bool)
    (decided : DecidedAt s slot e ((verdictChannels e s).any fun n => (choiceAt s slot e n).2) full u d)
    (placed : ∀ n ∈ verdictChannels e s, (choiceAt s slot e n).1 ∈ u.schedule)
    (only : ∀ a ∈ u.schedule, a.item = some slot → s.channels[a.channel].config.mode ≠ .perItem →
      a.channel ∈ verdictChannels e s ∧ a = (choiceAt s slot e a.channel).1)

/-- Before its decision an entry has actions of PER_ITEM channels alone (R116). -/
theorem perItem_of_undecided (hline : LineInv due back u) (hconfig : ∀ n : Channel, u.channels[n].config = s.channels[n].config)
    (hd : entryAt slot u = some d) (hstate : d.state ≠ .scheduled) {a : Action} (ha : a ∈ u.schedule) (hitem : a.item = some slot) :
    s.channels[a.channel].config.mode = .perItem := by
  obtain ⟨c, hc, _, hmode, _⟩ := (hline.schedule.actions a ha).link slot hitem
  rw [← hconfig]
  exact hmode.resolve_right fun ⟨_, hscheduled⟩ => hstate (Option.some.inj (hc.symm.trans hd) ▸ hscheduled)

theorem RoomyDecision.step (h : RoomyDecision s slot e left fixed u) (hwalk : DecisionWalk s slot u) (hadvance : AdvanceState s left u)
    (hline : LineInv due back u) (hready : workReady u left w = true) (hstate : e.state = .tracked ∨ e.state = .held)
    (hreached : reached (s.motion.h + 1) (decisionPosition e s) = true)
    (hstays : reached (s.motion.h + 1) (exitPosition e s) = false) (hplaces : s.schedule.length ≤ 112) :
    RoomyDecision s slot e (left.erase w ++ (doWork fixed w u).2) (fixDecisions fixed w u) (doWork fixed w u).1 := by
  have hh := hadvance.h
  have hconfig := hwalk.settings.2.1
  rcases h with ⟨d, hwaits, hroom⟩ | ⟨d, full, hdecided, hplaced, honly⟩
  · rcases hwaits.step (fixed := fixed) (w := w) hwalk hline hh hstate hreached with ⟨hnone, c, hc⟩ | ⟨hdue, hafter, heq⟩
    · exact .waiting c hc (hroom.step hconfig (ready_places hready s) hnone)
    · obtain ⟨hperm, c, hc⟩ := hwaits.decide hwalk hh hadvance.speed hdue (heq ▸ hafter)
      have hall : (verdictChannels e s).length ≤ 128 - u.schedule.length := by
        have hverdict := hroom.verdict hplaces (channels := verdictChannels e s) List.filter_sublist fun m hm =>
          servesClass_mode (mem_verdictChannels.1 hm)
        omega
      rw [List.take_of_length_le hall] at hperm hc
      have hstill : d.state ≠ .scheduled := by rcases hstate with h | h <;> simp [hwaits.kept.same.1, h]
      rw [heq]
      refine .decided c _ hc (fun n hn => hperm.mem_iff.2 (List.mem_append_right _ (List.mem_map.2 ⟨n, hn, rfl⟩))) fun a ha hitem hmode => ?_
      rcases List.mem_append.1 (hperm.mem_iff.1 ha) with hold | hnew
      · exact absurd (perItem_of_undecided hline hconfig hwaits.entry hstill hold hitem) hmode
      · obtain ⟨n, hn, rfl⟩ := List.mem_map.1 hnew
        exact ⟨hn, rfl⟩
  · have hexit := hdecided.exitDue hh hstays
    obtain ⟨hnone, c, hc⟩ := hdecided.step (fixed := fixed) (w := w) hwalk hline hh hstays
    have hleaves := not_leaves (w := w) hline.table.wf hdecided.entry (by simp [hdecided.decided.same.1]) (.inl hexit)
    refine .decided c full hc (fun n hn => ?_) fun a ha hitem hmode => ?_
    · obtain ⟨hitem, _, hwaits⟩ := choiceAt_spec s slot e n
      exact doWork_mem fixed (hplaced n hn) (hh ▸ hwaits) fun k hk heq => hleaves (Option.some.inj (hitem.symm.trans heq) ▸ hk)
    · obtain ⟨b, hb, hbitem, hchannel, hsame⟩ := doWork_links (fixed := fixed) hdecided.entry hnone a ha hitem
      obtain ⟨hserved, hbeq⟩ := honly b hb hbitem (by simpa only [hchannel] using hmode)
      obtain rfl := hsame (by rw [hbeq, hh]; exact (choiceAt_spec s slot e b.channel).2.2)
      exact ⟨hserved, hbeq⟩

/-! ### With nothing else to do -/

/-- No exit is due. -/
def NoExit (s : State) : Prop := ∀ k d, entryAt k s = some d → exitDue d s = false

theorem exitDue_congr (hunit : t.epochUnit = s.epochUnit) (hh : t.motion.h = s.motion.h) (e : Entry) : exitDue e t = exitDue e s := by
  rw [exitDue, exitDue, exitPosition, exitPosition, laneProfileOf, laneProfileOf, bankOf_congr e.bank hunit, hh]

theorem NoExit.of_entries (h : NoExit s) (hunit : t.epochUnit = s.epochUnit) (hh : t.motion.h = s.motion.h)
    (hentries : ∀ k d, entryAt k t = some d → entryAt k s = some d ∨ d.state ≠ .scheduled) : NoExit t := by
  intro k d hd
  rw [exitDue_congr hunit hh]
  rcases hentries k d hd with hold | hstate
  · exact h k d hold
  · simp [exitDue, hstate]

theorem NoExit.leaving (h : NoExit s) (hwf : s.table.wf = true) : leavingEntries s = [] := by
  refine List.eq_nil_iff_forall_not_mem.2 fun x hx => ?_
  obtain ⟨hmem, hdue⟩ := mem_leavingEntries.1 hx
  rw [h x.1 x.2 (entryAt_of_mem hwf hmem)] at hdue
  cases hdue

theorem postOutcome_entries (hd : entryAt k (postOutcome s) = some d) : entryAt k s = some d := by
  rcases postOutcome_cases s with ⟨_, heq⟩ | ⟨_, heq⟩ | ⟨j, rest, _, _, ⟨_, heq⟩ | ⟨x, _, heq⟩⟩ <;> rw [heq] at hd
  · exact hd
  · exact hd
  · exact hd
  · have hget := findEntry_dropEntry j k s.table.entries
    rw [entryAt, hget] at hd
    split at hd
    · cases hd
    · exact hd

theorem serveDone_entries (hd : entryAt k (serveDone s) = some d) : entryAt k s = some d := by
  have key : ∀ (n : Nat) (u : State), entryAt k (postOutcomes n u) = some d → entryAt k u = some d := by
    intro n
    induction n with
    | zero => exact fun _ => id
    | succ n ih => exact fun u hu => postOutcome_entries (ih _ hu)
  exact key _ s hd

theorem settlePosts_entries (hd : entryAt k (settlePosts s) = some d) : entryAt k s = some d := by
  rcases settlePosts_cases s with ⟨_, heq⟩ | ⟨_, heq⟩ <;> rw [heq] at hd
  · exact serveDone_entries hd
  · exact hd

/-- A detector leaves every entry as it was or confirms it. -/
theorem detectorAdvance_entries (htable : TableInv s) (l : Lane) (hd : entryAt k (detectorAdvance l s) = some d) :
    entryAt k s = some d ∨ d.state ≠ .scheduled := by
  by_cases hopening : ∃ x, entryAt k s = some x ∧ x.lane = l ∧ x.state = .opening
  · obtain ⟨x, hx, rfl, hstate⟩ := hopening
    rw [detectorAdvance_opening htable hx rfl hstate] at hd
    split at hd
    · rw [takeOverlength_entryAt] at hd
      obtain rfl := Option.some.inj hd
      exact .inr (confirmedEntry_kept x _ _ _).2.2.2.2.2.1
    · exact .inl hd
  · rw [detectorAdvance_entryAt_other htable.wf fun x hx hlane hstate => hopening ⟨x, hx, hlane, hstate⟩] at hd
    exact .inl hd

/-- No action of the schedule has work at H. -/
def ActionsQuiet (h : Word) (l : List Action) : Prop := ∀ a ∈ l, (∀ n, dueOn n h a = false) ∧ a.state ≠ .active (.position h)

theorem ActionsQuiet.channelWork {n : Channel} (h : ActionsQuiet s.motion.h s.schedule) (hw : ofChannel w n) :
    (doWork fixed w s).1 = s := by
  have hnone : s.schedule.filter (dueOn n s.motion.h) = [] :=
    List.filter_eq_nil_iff.2 fun a ha => by simp [(h a ha).1 n]
  rw [channelWork_of_no_due hw hnone, if_neg]
  intro hdue
  unfold countsEndDue at hdue
  split at hdue
  · next b hb => exact (h b (activeAction_spec hb).1).2 (of_decide_eq_true hdue)
  · cases hdue

/-- An advance with nothing to do but one decision. -/
structure QuietWalk (s : State) (left : List AdvanceWork) (u : State) : Prop where
  whole : ∀ w ∈ left, w ∈ advanceWork
  exits : NoExit u
  actions : ActionsQuiet (s.motion.h + 1) u.schedule

/-- Nothing but a decision touches the schedule. -/
theorem QuietWalk.schedule (h : QuietWalk s left u) (hh : u.motion.h = s.motion.h + 1) (hwf : u.table.wf = true)
    (hready : workReady u left w = true) (hdecisions : w = .decisions ∨ w = .decision → (doWork fixed w u).1 = u) :
    (doWork fixed w u).1.schedule = u.schedule := by
  have hactions : ActionsQuiet u.motion.h u.schedule := hh ▸ h.actions
  cases w with
  | channel n => rw [hactions.channelWork (.inl rfl)]
  | channelEvent n => rw [hactions.channelWork (.inr rfl)]
  | decisions => rw [hdecisions (.inl rfl)]
  | decision => rw [hdecisions (.inr rfl)]
  | exits => rw [doWork, takeExits, settlePosts_schedule, h.exits.leaving hwf]; rfl
  | exit =>
    rw [doWork, takeNextExit, h.exits.leaving hwf]
  | mark =>
    simp only [doWork]
    split
    · rw [pitchMark_schedule]
    · rfl
  | pitchActions => exact absurd (h.whole _ (by simpa [workReady, wholeWork] using hready)) (by decide)
  | levelChange l => exact absurd (h.whole _ (levelChange_ready hready)) (levelChange_not_mem_advanceWork l)
  | detector l => rw [doWork, detectorAdvance_schedule]
  | posts => rw [doWork, serveDone_schedule]
  | drainCompletion => rw [doWork, completeDrain_schedule]

theorem QuietWalk.noExit (h : QuietWalk s left u) (hline : LineInv due back u) (hh : u.motion.h = s.motion.h + 1)
    (hready : workReady u left w = true) (hmark : s.motion.h + 1 ≠ u.motion.m) (hdrain : w ≠ .drainCompletion)
    (hdecision : ∀ d, entryAt slot (doWork fixed w u).1 = some d → exitDue d (doWork fixed w u).1 = false)
    (hdecisions : w = .decisions ∨ w = .decision → (doWork fixed w u).1 = u ∨ (doWork fixed w u).1 = takeDecision slot u) :
    NoExit (doWork fixed w u).1 := by
  have hactions : ActionsQuiet u.motion.h u.schedule := hh ▸ h.actions
  have hwf := hline.table.wf
  have hdecide (hw : w = .decisions ∨ w = .decision) : NoExit (doWork fixed w u).1 := by
    rcases hdecisions hw with heq | heq
    · rw [heq]
      exact h.exits
    · intro k d hd
      by_cases hk : k = slot
      · exact hdecision d (hk ▸ hd)
      · rw [heq] at hd ⊢
        rw [takeDecision_entryAt_other hk] at hd
        rw [exitDue_congr (takeDecision_epochUnit u slot) (by rw [takeDecision_motion])]
        exact h.exits k d hd
  cases w with
  | channel n => rw [hactions.channelWork (.inl rfl)]; exact h.exits
  | channelEvent n => rw [hactions.channelWork (.inr rfl)]; exact h.exits
  | decisions => exact hdecide (.inl rfl)
  | decision => exact hdecide (.inr rfl)
  | exits =>
    rw [doWork, takeExits, h.exits.leaving hwf]
    exact h.exits.of_entries (by simp) (by simp) fun k d hd => .inl (settlePosts_entries hd)
  | exit =>
    rw [doWork, takeNextExit, h.exits.leaving hwf]
    exact h.exits
  | mark =>
    rw [doWork, if_neg (by rw [hh]; exact hmark)]
    exact h.exits
  | pitchActions => exact absurd (h.whole _ (by simpa [workReady, wholeWork] using hready)) (by decide)
  | levelChange l => exact absurd (h.whole _ (levelChange_ready hready)) (levelChange_not_mem_advanceWork l)
  | detector l => exact h.exits.of_entries (by simp [doWork]) (by simp [doWork]) fun k d hd => detectorAdvance_entries hline.table l hd
  | posts => exact h.exits.of_entries (by simp [doWork]) (by simp [doWork]) fun k d hd => .inl (serveDone_entries hd)
  | drainCompletion => exact absurd rfl hdrain

/-- A decision at an advance with nothing else to do: the entry waits for it, or the channels that found room have their actions. -/
inductive CrowdedDecision (s : State) (slot : Slot) (e : Entry) (left : List AdvanceWork) (fixed : Option (List Slot)) (u : State) : Prop
  | waiting (d : Entry) (waits : WaitsForDecision s slot e left fixed u d) (schedule : u.schedule = s.schedule)
  | decided (d : Entry) (decided : DecidedAt s slot e
      (((verdictChannels e s).take (128 - s.schedule.length)).any fun n => (choiceAt s slot e n).2)
      (decide (128 - s.schedule.length < (verdictChannels e s).length)) u d)
    (schedule : u.schedule.Perm (s.schedule ++
      ((verdictChannels e s).take (128 - s.schedule.length)).map fun n => (choiceAt s slot e n).1))

theorem Waits.quiet {a : Action} {h : Word} (ha : Waits h a) : (∀ n, dueOn n h a = false) ∧ a.state ≠ .active (.position h) :=
  ⟨ha.notDue, fun hstate => by simpa [Action.isActive, hstate] using ha.pending⟩

theorem CrowdedDecision.step (h : CrowdedDecision s slot e left fixed u) (hquiet : QuietWalk s left u) (hwalk : DecisionWalk s slot u)
    (hadvance : AdvanceState s left u) (hline : LineInv due back u) (hready : workReady u left w = true) (hdrain : w ≠ .drainCompletion)
    (hmark : s.motion.h + 1 ≠ s.motion.m) (hstate : e.state = .tracked ∨ e.state = .held)
    (hreached : reached (s.motion.h + 1) (decisionPosition e s) = true)
    (hstays : reached (s.motion.h + 1) (exitPosition e s) = false) :
    CrowdedDecision s slot e (left.erase w ++ (doWork fixed w u).2) (fixDecisions fixed w u) (doWork fixed w u).1 ∧
      QuietWalk s (left.erase w ++ (doWork fixed w u).2) (doWork fixed w u).1 := by
  have hh := hadvance.h
  have hm : s.motion.h + 1 ≠ u.motion.m := by rw [hadvance.kept (.inl hmark)]; exact hmark
  have hwf := hline.table.wf
  have hafter : (doWork fixed w u).1.motion.h = s.motion.h + 1 := by
    by_cases hw : w = .mark
    · rw [hw, doWork, if_neg (by rw [hh]; exact hm), hh]
    · rw [(doWork_m fixed hw u).1, hh]
  have hwhole : ∀ x ∈ left.erase w ++ (doWork fixed w u).2, x ∈ advanceWork := by
    have hnone : (doWork fixed w u).2 = [] := by
      rcases doWork_follows fixed w u with hnone | ⟨rfl, _⟩
      · exact hnone
      · rw [doWork, if_neg (by rw [hh]; exact hm)]
    rw [hnone, List.append_nil]
    exact fun x hx => hquiet.whole x (List.mem_of_mem_erase hx)
  rcases h with ⟨d, hwaits, hschedule⟩ | ⟨d, hdecided, hschedule⟩
  · rcases hwaits.step (fixed := fixed) (w := w) hwalk hline hh hstate hreached with ⟨hnone, c, hc⟩ | ⟨hdue, hbank, heq⟩
    · have hsame := hquiet.schedule hh hwf hready hnone
      refine ⟨.waiting c hc (hsame.trans hschedule), hwhole, ?_, by rw [hsame]; exact hquiet.actions⟩
      refine hquiet.noExit (slot := slot) hline hh hready hm hdrain (fun x hx => ?_) fun hw => .inl (hnone hw)
      rw [Option.some.inj (hx.symm.trans hc.entry)]
      rcases hstate with h | h <;> simp [exitDue, hc.kept.same.1, h]
    · obtain ⟨hperm, c, hc⟩ := hwaits.decide hwalk hh hadvance.speed hdue (heq ▸ hbank)
      rw [hschedule] at hperm hc
      refine ⟨.decided c (heq ▸ hc) (heq ▸ hperm), hwhole, ?_, ?_⟩
      · refine hquiet.noExit (slot := slot) hline hh hready hm hdrain (fun x hx => ?_) fun _ => .inr heq
        rw [← heq] at hc
        rw [Option.some.inj (hx.symm.trans hc.entry)]
        exact hc.exitDue hafter hstays
      · rw [heq]
        intro a ha
        rcases List.mem_append.1 (hperm.mem_iff.1 ha) with hold | hnew
        · exact hquiet.actions a (hschedule ▸ hold)
        · obtain ⟨n, _, rfl⟩ := List.mem_map.1 hnew
          exact (choiceAt_spec s slot e n).2.2.quiet
  · obtain ⟨hnone, c, hc⟩ := hdecided.step (fixed := fixed) (w := w) hwalk hline hh hstays
    have hsame := hquiet.schedule hh hwf hready hnone
    refine ⟨.decided c hc (hsame ▸ hschedule), hwhole, ?_, by rw [hsame]; exact hquiet.actions⟩
    refine hquiet.noExit (slot := slot) hline hh hready hm hdrain (fun x hx => ?_) fun hw => .inl (hnone hw)
    rw [Option.some.inj (hx.symm.trans hc.entry)]
    exact hc.exitDue hafter hstays

/-! ### The placement as the statement has it -/

/-- R113: where a VERDICT action starts, and whether it has been moved there. -/
theorem verdictStart_eq (h d wanted : Word) :
    let start := if isAhead wanted d then wanted else d + 1
    verdictStart h d wanted = (if reached h start then h + 1 else start, !isAhead wanted d || reached h start) := by
  unfold verdictStart
  cases isAhead wanted d <;> simp <;> split <;> simp_all

theorem actionsQuiet_of_quietAt {h : Word} (hquiet : actionsQuietAt h s = true) : ActionsQuiet h s.schedule := by
  intro a ha
  have hone := List.all_eq_true.1 hquiet a ha
  simp only [Bool.and_eq_true, Bool.not_eq_true', Bool.and_eq_false_iff, decide_eq_false_iff_not] at hone
  refine ⟨fun n => ?_, hone.2⟩
  rw [← Bool.not_eq_true]
  intro hdue
  simp only [dueOn, Bool.and_eq_true, decide_eq_true_eq] at hdue
  exact hone.1.elim (fun hnot => hnot hdue.1.2) fun hnot => hnot hdue.2

theorem QuietWalk.start (hactions : actionsQuietAt (s.motion.h + 1) s = true)
    (hexits : ∀ x ∈ s.table.entries, x.2.state = .scheduled → reached (s.motion.h + 1) (exitPosition x.2 s) = false) :
    QuietWalk s advanceWork (stepForward s) where
  whole _ := id
  exits k d hd := by
    have hbank : bankOf d.bank (stepForward s) = bankOf d.bank s := by cases d.bank <;> rfl
    rw [exitDue, ((Retouched.refl d).positions hbank).2.2]
    by_cases hstate : d.state = .scheduled
    · rw [show (stepForward s).motion.h = s.motion.h + 1 from rfl, hexits (k, d) (findEntry_mem hd) hstate, Bool.and_false]
    · simp [hstate]
  actions := actionsQuiet_of_quietAt hactions

theorem WaitsForDecision.start (hs : LineSound s) (hmem : (slot, e) ∈ s.table.entries) :
    WaitsForDecision s slot e advanceWork none (stepForward s) e where
  entry := entryAt_of_mem hs.table.1 hmem
  kept := .refl e
  bank := by cases e.bank <;> rfl
  decision := .start slot

/-- Settles O20: with room the entry waits for its decision and then has all its actions (`RoomyDecision`); with the schedule full or
filling and nothing else to do, those of the first channels (`CrowdedDecision`). -/
theorem decisionPlacesTheVerdictActions : Obligations.DecisionPlacesTheVerdictActions := by
  intro first s slot e hs hmay hmem hstate hstays hreached halone cls prof serves d wanted beyond start passed moved action
  have hcls : cls = (settledVerdict e s).cls := by
    rw [settledVerdict]
    cases hv : e.verdict <;> simp only [cls, hv] <;> rfl
  have hserves (n : Channel) : serves n = true ↔ n ∈ verdictChannels e s := by
    rw [mem_verdictChannels, ← hcls]
    rfl
  have hchannels : (List.finRange 16).filter serves = verdictChannels e s :=
    List.filter_congr fun n _ => by rw [Bool.eq_iff_iff, hserves, mem_verdictChannels]
  have hchoice (n : Channel) : choiceAt s slot e n = (action n, moved n) := by
    have hnext : s.motion.h + 1 + 1 = s.motion.h + 2 := by rw [BitVec.add_assoc]; rfl
    have hstart := verdictStart_eq (s.motion.h + 1) d (wanted n)
    rw [hnext] at hstart
    have heq : choiceAt s slot e n = (newAction n (some slot) (verdictStart (s.motion.h + 1) d (wanted n)).1 (prof n) s,
        (verdictStart (s.motion.h + 1) d (wanted n)).2) := rfl
    rw [heq, hstart]
    rfl
  have ht : tracking s = true := (Bool.and_eq_true_iff.1 hmay).1
  have hwalk : DecisionWalk s slot (stepForward s) := ⟨.refl s, Alone.start fun x hx hne => halone x hx hne⟩
  have htracking {u : State} (hengine : u.engine = s.engine) : tracking u = true := by
    rw [tracking_congr (congrArg Engine.state hengine), ht]
  have hlive {d : Entry} (hd : Retouched e d) : isLive d = true := by rcases hstate with h | h <;> simp [isLive, hd.same.1, h]
  constructor
  · intro hplaces
    obtain ⟨left, fixed, u, t, hexec, _, _, hline, ⟨_, hroomy⟩, hend⟩ := advance_walk_sound hs hmay first
      (P := fun left fixed u => DecisionWalk s slot u ∧ RoomyDecision s slot e left fixed u)
      ⟨hwalk, .waiting e (.start hs hmem) (Room.start s)⟩
      fun left fixed w u hadvance hengine hline _ hready _ _ ⟨hwalk, h⟩ =>
        ⟨hwalk.step hadvance.h hline (htracking hengine),
          h.step hwalk hadvance hline hready hstate hreached hstays hplaces⟩
    rcases hroomy with ⟨d, hwaits, _⟩ | ⟨d, full, hdecided, hplaced, honly⟩
    · obtain ⟨hleft, _⟩ := hend.of_live hline.table hwaits.entry (hlive hwaits.kept)
      exact absurd hwaits.decision.1 (by simp [hleft])
    · obtain ⟨_, _, hat⟩ := hend.of_live hline.table hdecided.entry (by simp [isLive, hdecided.decided.same.1])
      refine ⟨t, d, hexec, hat, fun n hn => ?_, fun a ha hitem hmode => ?_, ?_⟩
      · have haction := hplaced n ((hserves n).1 hn)
        rw [hchoice] at haction
        rwa [hend.line.1]
      · rw [hend.line.1] at ha
        obtain ⟨hserved, heq⟩ := honly a ha hitem hmode
        rw [hchoice] at heq
        exact ⟨(hserves _).2 hserved, heq⟩
      · rw [hdecided.decided.placed.1, Bool.or_eq_true, List.any_eq_true]
        refine or_congr_right (exists_congr fun n => ?_)
        rw [hserves, hchoice]
  · intro hmark hactions hexits channels free
    obtain ⟨left, fixed, u, t, hexec, _, _, hline, ⟨_, hcrowded, _⟩, hend⟩ := advance_walk_sound hs hmay first
      (P := fun left fixed u => DecisionWalk s slot u ∧ CrowdedDecision s slot e left fixed u ∧ QuietWalk s left u)
      ⟨hwalk, .waiting e (.start hs hmem) rfl, .start hactions hexits⟩
      fun left fixed w u hadvance hengine hline _ hready hdrain _ ⟨hwalk, h, hquiet⟩ =>
        ⟨hwalk.step hadvance.h hline (htracking hengine),
          h.step hquiet hwalk hadvance hline hready hdrain hmark hstate hreached hstays⟩
    rcases hcrowded with ⟨d, hwaits, _⟩ | ⟨d, hdecided, hschedule⟩
    · obtain ⟨hleft, _⟩ := hend.of_live hline.table hwaits.entry (hlive hwaits.kept)
      exact absurd hwaits.decision.1 (by simp [hleft])
    · obtain ⟨_, _, hat⟩ := hend.of_live hline.table hdecided.entry (by simp [isLive, hdecided.decided.same.1])
      simp only [hchoice] at hdecided hschedule
      rw [← hchannels] at hdecided hschedule
      refine ⟨t, d, hexec, hat, by rw [hend.line.1]; exact hschedule, ?_, ?_⟩
      · rw [hdecided.decided.placed.2, Bool.or_eq_true, decide_eq_true_eq]
      · rw [hdecided.decided.placed.1, Bool.or_eq_true, List.any_eq_true]

end Sys2Proof.Machine
end

section
set_option Elab.async false
/-! PROOFS. What the commit attempt of a pitch mark finds: the work of the advance before it leaves COMMIT_DEFERRED, the entries bound to
the previous bank and the check of the shadow set as they were before the advance (R92 to R95). -/

namespace Sys2Proof.Machine

variable {s t u : State} {slot k : Slot} {e d : Entry} {l : Lane} {first left : List AdvanceWork} {fixed : Option (List Slot)}
  {w : AdvanceWork} {bank : Bank}

/-! ### COMMIT_DEFERRED -/

/-- COMMIT_DEFERRED is set or clear as it was. -/
def DeferredKept (s t : State) : Prop := stickySet .commitDeferred t = stickySet .commitDeferred s

theorem DeferredKept.of_interrupts (h : t.interrupts = s.interrupts) : DeferredKept s t := by rw [DeferredKept, stickySet, stickySet, h]

theorem DeferredKept.trans (h : DeferredKept s t) (h' : DeferredKept t u) : DeferredKept s u := Eq.trans h' h

theorem setFlag_deferredKept {f : Flag} (hf : f ≠ .commitDeferred) (s : State) : DeferredKept s (setFlag f s) := by
  rw [DeferredKept, stickySet_setFlag, decide_eq_false hf, Bool.or_false]

theorem offer_deferredKept (r : Report) (s : State) : DeferredKept s (offer r s) := by
  rw [DeferredKept, offer_stickySet]
  simp

theorem raise_deferredKept (code : ExceptionCode) (l : Option Lane) (tag : Option Half) (s : State) :
    DeferredKept s (raise code l tag s) :=
  (setFlag_deferredKept (by decide) s).trans (offer_deferredKept _ _)

theorem settleFirst_deferredKept (q : Action → Bool) (s : State) : DeferredKept s (settleFirst q s) := by
  rcases settleFirst_cases s q with ⟨_, heq⟩ | ⟨a, _, ⟨_, heq⟩ | ⟨_, _, heq⟩ | ⟨_, _, heq⟩ | ⟨_, _, heq⟩⟩ <;> rw [heq]
  · rfl
  · exact .of_interrupts (fire_interrupts s q a)
  · exact .of_interrupts (joinPulse_interrupts s q a)
  · unfold refuseNewcomer
    dsimp only
    split
    · exact raise_deferredKept _ _ _ _
    · exact .of_interrupts (by simp)
  · exact .of_interrupts (deferNewcomer_interrupts s q a)

theorem takeDue_deferredKept (n : Channel) (s : State) : DeferredKept s (takeDue n s) :=
  settleAll_keeps (DeferredKept s) _ (fun u hu => hu.trans (settleFirst_deferredKept _ u)) _ s rfl

theorem confirm_deferredKept (slot : Slot) (e : Entry) (length : Half) (overlength : Option Class) (s : State) :
    DeferredKept s (confirm slot e length overlength s) := by
  rw [confirm_eq]
  exact offer_deferredKept _ (modifyCounters e.lane (fun c => { c with confirmed := c.confirmed + 1 })
    (setEntry slot (confirmedEntry e (confirmTag e.lane s) length overlength) s))

theorem takeLeading_deferredKept (l : Lane) (ed : PendingEdge) (s : State) : DeferredKept s (takeLeading l ed s) := by
  unfold takeLeading
  split
  · exact raise_deferredKept _ _ _ s
  split
  · exact raise_deferredKept _ _ _ s
  split
  · exact raise_deferredKept _ _ _ s
  · exact .of_interrupts (by simp)

theorem takeTrailing_deferredKept (l : Lane) (ed : PendingEdge) (s : State) : DeferredKept s (takeTrailing l ed s) := by
  have hgap (v : State) (hv : DeferredKept s v) : DeferredKept s (openGap l ed.latched v) :=
    hv.trans (.of_interrupts (openGap_interrupts v l _))
  unfold takeTrailing
  dsimp only
  split
  · refine hgap _ ?_
    unfold measure
    dsimp only
    split
    · exact DeferredKept.trans (.of_interrupts (discardEntry_interrupts s _ _)) (raise_deferredKept _ _ _ _)
    · exact confirm_deferredKept _ _ _ _ s
  · exact hgap s rfl

theorem rawChange_deferredKept (l : Lane) (s : State) : DeferredKept s (rawChange l s) := by
  unfold rawChange
  split
  · rfl
  split
  · exact .of_interrupts rfl
  · unfold createEdge
    dsimp only
    split
    · unfold takeEdge
      dsimp only
      split
      · exact takeTrailing_deferredKept l _ (modifyDetector l _ s)
      · exact takeLeading_deferredKept l _ (modifyDetector l _ s)
    · exact .of_interrupts rfl

theorem detectorAdvance_deferredKept (l : Lane) (s : State) : DeferredKept s (detectorAdvance l s) := by
  unfold detectorAdvance
  dsimp only
  split
  · split
    · exact .of_interrupts rfl
    · rfl
  · split
    · exact confirm_deferredKept _ _ _ _ s
    · rfl
  · rfl

theorem placePitchActions_deferredKept (mark : Word) (s : State) : DeferredKept s (placePitchActions mark s) := by
  have key (channels : List Channel) : ∀ u : State, DeferredKept u (channels.foldl (fun s n => placePitchAction mark n s) u) := by
    induction channels with
    | nil => exact fun _ => rfl
    | cons n channels ih =>
      intro u
      refine DeferredKept.trans ?_ (ih (placePitchAction mark n u))
      unfold placePitchAction
      dsimp only
      split
      · exact raise_deferredKept _ _ _ u
      · exact .of_interrupts rfl
  exact key _ s

theorem foldl_takeExit_interrupts (l : List (Slot × Entry)) (s : State) :
    (l.foldl (fun s x => takeExit x.1 x.2 s) s).interrupts = s.interrupts := by
  induction l generalizing s with
  | nil => rfl
  | cons x l ih => exact (ih _).trans (takeExit_interrupts s x.1 x.2)

theorem doWork_deferredKept (hmark : w ≠ .mark) (hdrain : w ≠ .drainCompletion) (fixed : Option (List Slot)) (u : State) :
    DeferredKept u (doWork fixed w u).1 := by
  cases w with
  | mark => exact absurd rfl hmark
  | drainCompletion => exact absurd rfl hdrain
  | channel n =>
    simp only [doWork, channelAdvance]
    split
    · exact DeferredKept.trans (.of_interrupts (endPulse_interrupts u n)) (takeDue_deferredKept n _)
    · exact takeDue_deferredKept n u
  | channelEvent n =>
    simp only [doWork, channelEvent]
    split
    · exact .of_interrupts (endPulse_interrupts u n)
    · exact settleFirst_deferredKept _ u
  | detector l => exact detectorAdvance_deferredKept l u
  | decisions => exact .of_interrupts (takeDecisions_interrupts u _)
  | decision => exact .of_interrupts (takeDecisions_interrupts u _)
  | exits => exact .of_interrupts ((settlePosts_interrupts _).trans (foldl_takeExit_interrupts _ u))
  | exit => exact .of_interrupts (takeNextExit_interrupts u)
  | posts => exact .of_interrupts (postOutcomes_interrupts _ u)
  | pitchActions => exact placePitchActions_deferredKept _ u
  | levelChange l => exact rawChange_deferredKept l u

theorem WalkEnd.deferredKept (h : WalkEnd left u t) : DeferredKept u t := by
  have hstopped (v : State) : DeferredKept v (enterStopped v) :=
    DeferredKept.trans (t := setFlag .stoppedReached v) (setFlag_deferredKept (by decide) v)
      (.of_interrupts (by rw [enterStopped_interrupts, setFlag_interrupts]))
  rcases h with ⟨_, _, rfl⟩ | ⟨_, rfl⟩
  · refine DeferredKept.trans (.of_interrupts (settlePosts_interrupts u)) ?_
    rw [settleDrain_eq]
    split
    · rfl
    · exact hstopped _
  · exact (hstopped u).trans (.of_interrupts (settlePosts_interrupts _))

/-! ### The entries bound to a bank -/

theorem Effect.doneList_subset {sound : Prop} (h : Effect sound False s t) : t.table.doneList ⊆ s.table.doneList := by
  cases h with
  | doneList _ hposting => exact hposting.elim
  | post =>
    rcases postOutcome_cases s with ⟨_, heq⟩ | ⟨_, heq⟩ | ⟨k, rest, hlist, _, ⟨_, heq⟩ | ⟨x, _, heq⟩⟩ <;> rw [heq]
    · exact List.Subset.refl _
    · exact List.Subset.refl _
    all_goals
      rw [hlist]
      exact List.subset_cons_self _ _
  | offer r => rw [offer_table]; exact List.Subset.refl _
  | amend slot f hf => rw [modifyEntry_table]; exact List.Subset.refl _
  | _ => exact List.Subset.refl _

theorem Effects.doneList_subset {sound : Prop} (h : Effects sound False s t) : t.table.doneList ⊆ s.table.doneList :=
  h.keeps (P := fun s t => t.table.doneList ⊆ s.table.doneList) (fun _ => List.Subset.refl _) (fun _ _ _ h h' => List.Subset.trans h' h)
    fun _ _ => Effect.doneList_subset

/-- Only exits add to the DONE list. -/
theorem doWork_doneList (hwf : u.table.wf = true) (hexit : ∀ d, entryAt slot u = some d → exitDue d u = false)
    (hdone : slot ∉ u.table.doneList) (fixed : Option (List Slot)) (w : AdvanceWork) : slot ∉ (doWork fixed w u).1.table.doneList := by
  have hplain {v : State} (h : Effects False False u v) : slot ∉ v.table.doneList := fun hmem => hdone (h.doneList_subset hmem)
  have hleaving := not_mem_leavingEntries hwf hexit
  cases w with
  | channel n => exact hplain (channelAdvance_effects n u)
  | channelEvent n => exact hplain (channelEvent_effects n u)
  | detector l => exact hplain (detectorAdvance_effects l False.elim)
  | decisions => exact hplain (takeDecisions_effects _ u)
  | decision => exact hplain (takeDecisions_effects _ u)
  | exits =>
    intro hmem
    have hserved : Effects False False ((leavingEntries u).foldl (fun s x => takeExit x.1 x.2 s) u) (doWork fixed .exits u).1 :=
      (Effects.refl _).settlePosts
    have hlist := hserved.doneList_subset hmem
    rw [foldl_takeExit_doneList, List.mem_append] at hlist
    exact hlist.elim hdone hleaving
  | exit =>
    rcases takeNextExit_cases u with ⟨_, heq⟩ | ⟨x, rest, hlist, heq⟩ <;> rw [doWork, heq]
    · exact hdone
    · rw [takeExit_eq]
      intro hmem
      refine (List.mem_append.1 hmem).elim hdone fun hone => hleaving ?_
      rw [hlist]
      exact List.mem_singleton.1 hone ▸ List.mem_cons_self
  | posts => exact hplain (Effects.refl u).serveDone
  | mark =>
    simp only [doWork]
    split
    · exact hplain (pitchMark_effects u)
    · exact hdone
  | pitchActions => exact hplain (placePitchActions_effects _ u)
  | levelChange l => exact hplain (rawChange_effects l False.elim)
  | drainCompletion => exact hplain (Effects.refl u).completeDrain

/-- An entry that is live at the mark, bound to a bank. -/
def Binds (slot : Slot) (bank : Bank) (u : State) : Prop :=
  ∃ d, entryAt slot u = some d ∧ isLive d = true ∧ d.bank = bank ∧ reached u.motion.h (exitPosition d u) = false ∧
    slot ∉ u.table.doneList

theorem Binds.liveCount (h : Binds slot bank u) : 0 < liveCount bank u := by
  obtain ⟨d, hd, hlive, hbank, _⟩ := h
  refine List.countP_pos_iff.2 ⟨(slot, d), findEntry_mem hd, ?_⟩
  simp [hlive, hbank]

theorem Binds.step (h : Binds slot bank u) (hwf : u.table.wf = true) (hmark : w ≠ .mark) (hlevel : ∀ l, w ≠ .levelChange l)
    (fixed : Option (List Slot)) : Binds slot bank (doWork fixed w u).1 := by
  obtain ⟨d, hd, hlive, hbank, hexit, hdone⟩ := h
  obtain ⟨c, hc, hlasts⟩ := doWork_lasts fixed hwf hdone hd hlive hexit hlevel
  have hkept := doWork_bankOf (w := w) fixed hd hlive
  refine ⟨c, hc, hlasts.live, hlasts.bank.trans hbank, ?_, ?_⟩
  · rw [(positions_congr hlasts.bank hlasts.lane hlasts.leading hkept).2.2, (doWork_m fixed hmark u).1]
    exact hexit
  · exact doWork_doneList hwf (fun x hx => by rw [Option.some.inj (hx.symm.trans hd), exitDue, hexit, Bool.and_false]) hdone fixed w

/-- No live entry is bound to a bank. -/
def Unbound (bank : Bank) (u : State) : Prop := ∀ k d, entryAt k u = some d → isLive d = true → d.bank ≠ bank

theorem Unbound.liveCount (h : Unbound bank u) (hwf : u.table.wf = true) : liveCount bank u = 0 :=
  List.countP_eq_zero.2 fun x hx hcount => by
    simp only [Bool.and_eq_true, decide_eq_true_eq] at hcount
    exact h x.1 x.2 (entryAt_of_mem hwf hx) hcount.1 hcount.2

theorem unbound_of_liveCount (h : liveCount bank s = 0) : Unbound bank s := fun k d hd hlive hbank =>
  List.countP_eq_zero.1 h (k, d) (findEntry_mem hd) (by simp [hlive, hbank])

/-- Before a mark no entry joins a bank. -/
theorem Unbound.step (h : Unbound bank u) (hwf : u.table.wf = true) (hlevel : ∀ l, w ≠ .levelChange l) (fixed : Option (List Slot)) :
    Unbound bank (doWork fixed w u).1 := by
  intro k e he hlive
  have hsuccessor {lanes : Lane → Prop} {d : Entry} (hd : entryAt k u = some d) (hde : Succeeds lanes d e) : e.bank ≠ bank :=
    hde.bank ▸ h k d hd (hde.live hlive)
  rcases (doWork_ages fixed w hwf).entries k e he with ⟨d, hd, hde⟩ | ⟨hw | hw, _⟩
  · exact hsuccessor hd hde
  · subst hw
    rcases (detectorAdvance_ages (h := e.leading + 1) (bank := e.bank) (lanes := fun _ => True) hwf trivial).entries k e he with
      ⟨d, hd, hde⟩ | ⟨_, hnever, _⟩
    · exact hsuccessor hd hde
    · exact absurd hnever (by simp)
  · exact absurd hw (hlevel _)

end Sys2Proof.Machine
end

section
set_option Elab.async false
/-! PROOFS. The commit attempt of a pitch mark (Table 5-7): what the mark settles, in whatever order the work of the advance is taken
(R92 to R97), and that it stays settled. -/

namespace Sys2Proof.Machine

variable {s t u : State} {slot : Slot} {e : Entry} {left : List AdvanceWork} {fixed : Option (List Slot)} {w : AdvanceWork}
  {r : CommitResult} {code : CheckCode}

/-! ### The cases of Table 5-7 -/

theorem commitAttempt_of_not_due (hdue : attemptDue s = false) : commitAttempt s = s := by simp [commitAttempt, hdue]

theorem commitAttempt_of_frame (hdue : attemptDue s = true) (hframe : s.window.frameOpen = true) :
    commitAttempt s = deferCommit .deferredFrame s := by simp [commitAttempt, hdue, hframe]

theorem commitAttempt_of_bound (hdue : attemptDue s = true) (hframe : s.window.frameOpen = false)
    (hbound : 0 < liveCount s.epochUnit.current.other s) : commitAttempt s = deferCommit .deferredReferenced s := by
  simp [commitAttempt, hdue, hframe, hbound]

theorem commitAttempt_of_invalid (hdue : attemptDue s = true) (hframe : s.window.frameOpen = false)
    (hnone : liveCount s.epochUnit.current.other s = 0) (hinvalid : validate s.epochUnit.shadow s = some code) :
    commitAttempt s = rejectShadow code s := by simp [commitAttempt, hdue, hframe, hnone, hinvalid]

theorem commitAttempt_of_valid (hdue : attemptDue s = true) (hframe : s.window.frameOpen = false)
    (hnone : liveCount s.epochUnit.current.other s = 0) (hvalid : validate s.epochUnit.shadow s = none) :
    commitAttempt s = commit s := by simp [commitAttempt, hdue, hframe, hnone, hvalid]

/-- The mark of the state s commits its shadow set: an attempt is due, with no frame open, no live entry bound to the previous bank,
and a valid shadow set. -/
structure Commits (s : State) : Prop where
  due : attemptDue s = true
  frame : s.window.frameOpen = false
  unbound : liveCount s.epochUnit.current.other s = 0
  valid : validate s.epochUnit.shadow s = none

theorem Commits.attempt (h : Commits s) : commitAttempt s = commit s := commitAttempt_of_valid h.due h.frame h.unbound h.valid

/-- A commit attempt of s has been deferred by t, with the result r (R93, R94, R97). -/
structure Deferred (r : CommitResult) (s t : State) : Prop where
  unit : t.epochUnit = { s.epochUnit with deferral := true, lastResult := r }
  flag : stickySet .commitDeferred t = (stickySet .commitDeferred s || !s.epochUnit.deferral)

/-- The shadow set of s has been rejected by t with a check code (R95). -/
structure RejectedWith (code : CheckCode) (s t : State) : Prop where
  unit : t.epochUnit = { s.epochUnit with rejected := true, deferral := false, lastResult := .rejected, check := code }
  flag : stickySet .commitRejected t = true

/-- The shadow set of s has been committed by t, with its COMMIT record at the mark position offered (R96, R104). -/
structure CommittedAt (s t : State) : Prop where
  unit : t.epochUnit = { s.epochUnit with
    bankA := if s.epochUnit.current.other = .a then s.epochUnit.shadow else s.epochUnit.bankA,
    bankB := if s.epochUnit.current.other = .b then s.epochUnit.shadow else s.epochUnit.bankB,
    current := s.epochUnit.current.other, epoch := s.epochUnit.epoch + 1, pending := false, rejected := false, deferral := false,
    lastResult := .committed, check := { number := 0, index := 0 } }
  flag : stickySet .commitDone t = true
  record : Offered (.commit (s.epochUnit.epoch + 1) s.motion.m) s t

/-- What the mark of an advance from s has done to the epoch unit by t (Table 5-7). -/
structure AttemptSettled (s t : State) : Prop where
  idle : attemptDue s = false → t.epochUnit = s.epochUnit
  frame : attemptDue s = true → s.window.frameOpen = true → Deferred .deferredFrame s t
  bound : attemptDue s = true → s.window.frameOpen = false → ∀ k, Binds k s.epochUnit.current.other (stepForward s) →
    Deferred .deferredReferenced s t
  rejected : attemptDue s = true → s.window.frameOpen = false → liveCount s.epochUnit.current.other s = 0 →
    ∀ code, validate s.epochUnit.shadow s = some code → RejectedWith code s t
  committed : Commits s → CommittedAt s t

/-- Later work, which leaves the epoch unit and COMMIT_DEFERRED, leaves it settled. -/
theorem AttemptSettled.after (h : AttemptSettled s u) (hunit : t.epochUnit = u.epochUnit) (hdeferred : DeferredKept u t)
    (heffects : Effects True True u t) : AttemptSettled s t where
  idle hdue := hunit.trans (h.idle hdue)
  frame hdue hframe := ⟨hunit.trans (h.frame hdue hframe).unit, Eq.trans hdeferred (h.frame hdue hframe).flag⟩
  bound hdue hframe k hk := ⟨hunit.trans (h.bound hdue hframe k hk).unit, Eq.trans hdeferred (h.bound hdue hframe k hk).flag⟩
  rejected hdue hframe hnone code hcode :=
    ⟨hunit.trans (h.rejected hdue hframe hnone code hcode).unit,
      heffects.stickySet _ (h.rejected hdue hframe hnone code hcode).flag⟩
  committed hs := ⟨hunit.trans (h.committed hs).unit, heffects.stickySet _ (h.committed hs).flag, (h.committed hs).record.after heffects⟩

/-! ### Up to the mark, and at it -/

/-- Up to its mark an advance from s leaves what the commit attempt reads. -/
structure Unsettled (s u : State) : Prop where
  unit : u.epochUnit = s.epochUnit
  deferred : DeferredKept s u
  bound : ∀ k, Binds k s.epochUnit.current.other (stepForward s) → Binds k s.epochUnit.current.other u
  unbound : liveCount s.epochUnit.current.other s = 0 → Unbound s.epochUnit.current.other u

theorem Unsettled.start (s : State) : Unsettled s (stepForward s) := ⟨rfl, rfl, fun _ => id, unbound_of_liveCount (s := stepForward s)⟩

theorem Unsettled.step (h : Unsettled s u) (hwf : u.table.wf = true) (hmark : w ≠ .mark) (hdrain : w ≠ .drainCompletion)
    (hlevel : ∀ l, w ≠ .levelChange l) (fixed : Option (List Slot)) : Unsettled s (doWork fixed w u).1 where
  unit := (doWork_m fixed hmark u).2.trans h.unit
  deferred := h.deferred.trans (doWork_deferredKept hmark hdrain fixed u)
  bound k hk := (h.bound k hk).step hwf hmark hlevel fixed
  unbound hs := (h.unbound hs).step hwf hlevel fixed

/-- Through a whole advance: the settings the attempt reads, and what the mark has settled or is to settle. -/
structure MarkWalk (s : State) (left : List AdvanceWork) (u : State) : Prop where
  effects : Effects True True s u
  settings : SettingsKept s u
  window : u.window = s.window
  waiting : .mark ∈ left → Unsettled s u
  settled : .mark ∉ left → AttemptSettled s u

theorem MarkWalk.start (s : State) : MarkWalk s advanceWork (stepForward s) where
  effects := .then (.refl s) (.motion (stepForward s).motion ⟨rfl, rfl, rfl, rfl⟩)
  settings := .refl s
  window := rfl
  waiting _ := .start s
  settled hout := absurd (by decide) hout

theorem MarkWalk.due (h : MarkWalk s left u) (hin : .mark ∈ left) : attemptDue u = attemptDue s := by
  rw [attemptDue, attemptDue, (h.waiting hin).unit]

theorem MarkWalk.validate (h : MarkWalk s left u) (hin : .mark ∈ left) :
    validate u.epochUnit.shadow u = validate s.epochUnit.shadow s := by
  rw [(h.waiting hin).unit]
  exact validate_congr _ h.settings.1 h.settings.2.1

theorem MarkWalk.liveCount (h : MarkWalk s left u) (hwf : s.table.wf = true) (hin : .mark ∈ left)
    (hnone : liveCount s.epochUnit.current.other s = 0) : liveCount u.epochUnit.current.other u = 0 := by
  rw [(h.waiting hin).unit]
  exact ((h.waiting hin).unbound hnone).liveCount (h.effects.wf hwf)

/-- A mark that commits where it is the first work commits wherever it stands in the work. -/
theorem MarkWalk.commits (h : MarkWalk s left u) (hwf : s.table.wf = true) (hin : .mark ∈ left) (hs : Commits s) : Commits u where
  due := (h.due hin).trans hs.due
  frame := (congrArg Window.frameOpen h.window).trans hs.frame
  unbound := h.liveCount hwf hin hs.unbound
  valid := (h.validate hin).trans hs.valid

theorem deferCommit_deferred (hunit : u.epochUnit = s.epochUnit) (hdeferred : DeferredKept s u) : Deferred r s (deferCommit r u) := by
  unfold deferCommit
  dsimp only
  split
  · next h =>
    rw [hunit] at h
    exact ⟨by rw [hunit], by rw [h, Bool.not_true, Bool.or_false]; exact hdeferred⟩
  · next h =>
    refine ⟨by rw [← hunit]; rfl, ?_⟩
    rw [hunit] at h
    rw [stickySet_setFlag]
    simp [h]

theorem commit_committedAt (hunit : u.epochUnit = s.epochUnit) (hh : u.motion.h = s.motion.m) (heffects : Effects True True s u) :
    CommittedAt s (commit u) where
  unit := by
    rw [commit, offer_epochUnit, setFlag_epochUnit, EpochUnit.commit_eq, hunit]
    cases s.epochUnit.current <;> rfl
  flag := commit_commitDone u
  record := by
    have hoffered : Offered (.commit (s.epochUnit.epoch + 1) s.motion.m) (setFlag .commitDone { u with epochUnit := u.epochUnit.commit })
        (commit u) := by
      rw [commit, ← hh, ← hunit]
      exact offer_offered rfl _
    exact .before (.then (heffects.then (.epochUnit u.epochUnit.commit)) (.flag .commitDone)) hoffered

/-- The mark settles the commit attempt by what s holds. -/
theorem MarkWalk.attempt (h : MarkWalk s left u) (hwf : s.table.wf = true) (hin : .mark ∈ left) (hh : u.motion.h = s.motion.m) :
    AttemptSettled s (commitAttempt u) := by
  have hwaiting := h.waiting hin
  have hframe (b : Bool) (hb : s.window.frameOpen = b) : u.window.frameOpen = b := (congrArg Window.frameOpen h.window).trans hb
  have hdue {b : Bool} (hb : attemptDue s = b) : attemptDue u = b := (h.due hin).trans hb
  refine ⟨fun hd => ?_, fun hd hf => ?_, fun hd hf k hk => ?_, fun hd hf hnone code hcode => ?_, fun hs => ?_⟩
  · rw [commitAttempt_of_not_due (hdue hd), hwaiting.unit]
  · rw [commitAttempt_of_frame (hdue hd) (hframe _ hf)]
    exact deferCommit_deferred hwaiting.unit hwaiting.deferred
  · have hbound := (hwaiting.bound k hk).liveCount
    rw [commitAttempt_of_bound (hdue hd) (hframe _ hf) (by rwa [hwaiting.unit])]
    exact deferCommit_deferred hwaiting.unit hwaiting.deferred
  · rw [commitAttempt_of_invalid (hdue hd) (hframe _ hf) (h.liveCount hwf hin hnone) ((h.validate hin).trans hcode)]
    exact ⟨by rw [← hwaiting.unit]; rfl, (stickySet_setFlag _ _ _).trans (by simp)⟩
  · rw [(h.commits hwf hin hs).attempt]
    exact commit_committedAt hwaiting.unit hh h.effects

/-- Every piece of work but the mark leaves the attempt settled or to settle, and the mark settles it. -/
theorem MarkWalk.step (h : MarkWalk s left u) (hwf : s.table.wf = true) (hat : s.motion.h + 1 = s.motion.m)
    (hadvance : AdvanceState s left u) (hleft : Leftover left) (hready : workReady u left w = true) (hdrain : w ≠ .drainCompletion)
    (fixed : Option (List Slot)) : MarkWalk s (left.erase w ++ (doWork fixed w u).2) (doWork fixed w u).1 := by
  have hwfu := h.effects.wf hwf
  have hwork : Effects True True u (doWork fixed w u).1 := doWork_effects fixed w trivial fun _ => hwfu
  refine ⟨h.effects.trans hwork, h.settings.trans (doWork_settings fixed w u), (doWork_window fixed w u).trans h.window, ?_, ?_⟩
  · intro hin
    have hmark : w ≠ .mark := fun hw => mark_not_mem_follows hleft fixed u (hw ▸ hin)
    have hin : .mark ∈ left := (mark_mem_follows fixed hmark u).1 hin
    exact (h.waiting hin).step hwfu hmark hdrain (fun l hw => (hleft.beforeMark hin).2 l (levelChange_ready (hw ▸ hready))) fixed
  · intro hout
    by_cases hmark : w = .mark
    · subst hmark
      have hin : .mark ∈ left := by simpa [workReady, wholeWork] using hready
      have hh : u.motion.h = s.motion.m := hadvance.h.trans hat
      have hstep : (doWork fixed .mark u).1 = pitchMark u := by
        simp only [doWork, if_pos (show u.motion.h = u.motion.m by rw [hh, hadvance.kept (.inr hin)])]
      rw [hstep]
      have hsettled := h.attempt hwf hin hh
      exact hsettled.after rfl rfl (.then (.refl _) (.motion (pitchMark u).motion ⟨rfl, rfl, rfl, rfl⟩))
    · exact (h.settled (mt (mark_mem_follows fixed hmark u).2 hout)).after (doWork_m fixed hmark u).2
        (doWork_deferredKept hmark hdrain fixed u) hwork

/-! ### The entries that are bound at the start -/

theorem not_done_of_tableSound (hs : TableSound s) (hmem : (slot, e) ∈ s.table.entries) (hlive : isLive e = true) :
    slot ∉ s.table.doneList := by
  obtain ⟨hwf, _, hdone, _⟩ := hs
  intro hin
  obtain ⟨x, hx, rfl⟩ := List.mem_map.1 (hdone.mem_iff.1 hin)
  obtain ⟨hx, hnot⟩ := List.mem_filter.1 hx
  obtain rfl := Option.some.inj ((entryAt_of_mem hwf hmem).symm.trans (entryAt_of_mem hwf hx))
  simp [hlive] at hnot

theorem binds_of_bound (hs : TableSound s) {bank : Bank} (hbound : (s.table.entries.any fun x =>
    isLive x.2 && decide (x.2.bank = bank) && !reached (s.motion.h + 1) (exitPosition x.2 s)) = true) :
    ∃ k, Binds k bank (stepForward s) := by
  obtain ⟨x, hx, hbinds⟩ := List.any_eq_true.1 hbound
  simp only [Bool.and_eq_true, decide_eq_true_eq, Bool.not_eq_true'] at hbinds
  obtain ⟨⟨hlive, hbank⟩, hexit⟩ := hbinds
  have hkept : bankOf x.2.bank (stepForward s) = bankOf x.2.bank s := by cases x.2.bank <;> rfl
  refine ⟨x.1, x.2, entryAt_of_mem (s := stepForward s) hs.1 hx, hlive, hbank, ?_, not_done_of_tableSound hs hx hlive⟩
  rw [((Retouched.refl x.2).positions hkept).2.2]
  exact hexit

end Sys2Proof.Machine
end

section
set_option Elab.async false
/-! PROOFS. The detectors at a pitch mark that commits (R20): a lane whose active level changes takes a raw input change at that advance,
and the others stand, on lanes with no gap end and no overlength at it. -/

namespace Sys2Proof.Machine

variable {s t u : State} {slot : Slot} {e : Entry} {l : Lane} {left : List AdvanceWork} {fixed : Option (List Slot)} {w : AdvanceWork}

/-! ### A lane with nothing due -/

/-- No OPENING entry of a lane is beyond its max length at H (R34). -/
def Short (l : Lane) (u : State) : Prop :=
  ∀ k e, entryAt k u = some e → e.lane = l → e.state = .opening → (u.motion.h - e.leading).toNat ≤ (laneProfileOf e u).maxLength.toNat

/-- The gap of a detector does not end at a position (R33). -/
def GapOpen (h : Word) (d : Detector) : Prop := ∀ g, d.state = .gap → d.gap = some g → reached h (gapEnd g) = false

theorem detectorAdvance_quiet (hwf : u.table.wf = true) (hgap : GapOpen u.motion.h (detectorOf l u)) (hshort : Short l u) :
    detectorAdvance l u = u := by
  unfold detectorAdvance
  dsimp only
  split
  · next g hstate hsome => rw [if_neg (by simp [hgap g hstate hsome])]
  · next k x _ hopening =>
    obtain ⟨hat, hstate⟩ := openingEntry_entryAt hwf hopening
    rw [if_neg (Nat.not_lt.2 (hshort k x hat (openingEntry_spec hopening).2.1 hstate))]
  · rfl

/-- Its own work at an advance leaves the taken level and the pending edge of a detector. -/
theorem detectorAdvance_level (l : Lane) (u : State) : (detectorOf l (detectorAdvance l u)).edge = (detectorOf l u).edge ∧
    takenLevel (detectorOf l (detectorAdvance l u)).state = takenLevel (detectorOf l u).state := by
  unfold detectorAdvance
  dsimp only
  split
  · next hstate _ =>
    split
    · simp [hstate, takenLevel]
    · exact ⟨rfl, rfl⟩
  · next k x hstate hopening =>
    split
    · obtain rfl := (openingEntry_spec hopening).2.1
      rw [takeOverlength_eq, detectorOf_modifyDetector, if_pos rfl, hstate]
      exact ⟨congrArg (fun d : Detectors => d.lane[x.lane].edge) (offer_detectors _ _), rfl⟩
    · exact ⟨rfl, rfl⟩
  · exact ⟨rfl, rfl⟩

/-- Work of an advance makes no item overlength: an entry that opens has its leading position at H. -/
theorem Short.step (h : Short l u) (hwf : u.table.wf = true) (w : AdvanceWork) (fixed : Option (List Slot)) :
    Short l (doWork fixed w u).1 := by
  intro k e he hlane hopening
  rw [doWork_motion]
  rcases (doWork_ages fixed w hwf).entries k e he with ⟨d, hd, hde⟩ | ⟨_, hleading, _⟩
  · have hlive : isLive d = true := by simp [isLive, hde.opening hopening]
    have hkept := doWork_bankOf (w := w) fixed hd hlive
    rw [← hde.leading, (positions_congr hde.bank.symm hde.lane.symm hde.leading.symm hkept).1]
    exact h k d hd (hde.lane.trans hlane) (hde.opening hopening)
  · simp [hleading]

/-! ### An edge that is taken -/

theorem openGap_level (l : Lane) (trailing : Word) (u : State) : (detectorOf l (openGap l trailing u)).edge = (detectorOf l u).edge ∧
    takenLevel (detectorOf l (openGap l trailing u)).state = false := by
  rw [openGap, detectorOf_modifyDetector, if_pos rfl]
  dsimp only
  split <;> exact ⟨rfl, rfl⟩

theorem confirm_edge (slot : Slot) (e : Entry) (length : Half) (overlength : Option Class) (u : State) :
    (detectorOf l (confirm slot e length overlength u)).edge = (detectorOf l u).edge := by
  rw [confirm_eq, detectorOf_modifyDetector]
  split <;> simp [detectorOf, *]

theorem measure_edge (k : Lane) (slot : Slot) (e : Entry) (trailing : Word) (u : State) :
    (detectorOf l (measure k slot e trailing u)).edge = (detectorOf l u).edge := by
  unfold measure
  dsimp only
  split
  · simp [detectorOf]
  · exact confirm_edge slot e _ _ u

theorem takeTrailing_level (ed : PendingEdge) (u : State) : (detectorOf l (takeTrailing l ed u)).edge = (detectorOf l u).edge ∧
    takenLevel (detectorOf l (takeTrailing l ed u)).state = false := by
  unfold takeTrailing
  dsimp only
  refine ⟨(openGap_level l _ _).1.trans ?_, (openGap_level l _ _).2⟩
  split
  · exact measure_edge l _ _ _ u
  · rfl

theorem takeLeading_level (ed : PendingEdge) (u : State) : (detectorOf l (takeLeading l ed u)).edge = (detectorOf l u).edge ∧
    takenLevel (detectorOf l (takeLeading l ed u)).state = true := by
  unfold takeLeading
  split
  · rw [detectorOf_modifyDetector, if_pos rfl]
    exact ⟨by simp [detectorOf], rfl⟩
  split
  · rw [goTo, detectorOf_modifyDetector, if_pos rfl]
    exact ⟨by simp [detectorOf], rfl⟩
  split
  · rw [goTo, detectorOf_modifyDetector, if_pos rfl]
    exact ⟨by simp [detectorOf], rfl⟩
  · rw [detectorOf, openEntry_detectors, ← detectorOf, goTo, detectorOf_modifyDetector, if_pos rfl]
    exact ⟨rfl, rfl⟩

/-- An edge that is taken is no longer pending, and turns the taken level (R20, R23). -/
theorem takeEdge_level (l : Lane) (ed : PendingEdge) (u : State) : (detectorOf l (takeEdge l ed u)).edge = none ∧
    takenLevel (detectorOf l (takeEdge l ed u)).state = !takenLevel (detectorOf l u).state := by
  have hclear : (detectorOf l (modifyDetector l ({ · with edge := none }) u)).edge = none := by simp
  unfold takeEdge
  dsimp only
  split
  · next h =>
    obtain ⟨hedge, hlevel⟩ := takeTrailing_level (l := l) ed (modifyDetector l ({ · with edge := none }) u)
    exact ⟨hedge.trans hclear, by rw [hlevel, h]; rfl⟩
  · next h =>
    obtain ⟨hedge, hlevel⟩ := takeLeading_level (l := l) ed (modifyDetector l ({ · with edge := none }) u)
    exact ⟨hedge.trans hclear, by rw [hlevel, Bool.eq_false_iff.2 h]; rfl⟩

/-! ### The raw input change of a commit -/

/-- The commit of the shadow set of s changes the active level of an enabled lane. -/
def Relevels (s : State) (l : Lane) : Prop :=
  laneEnabled l s = true ∧ (currentBank s).lanes[l].activeHigh ≠ s.epochUnit.shadow.lanes[l].activeHigh

theorem relevels_iff : (s.detectors.enabled.getLsbD l.val &&
    (s.epochUnit.shadow.lanes[l].activeHigh != (currentBank s).lanes[l].activeHigh)) = true ↔ Relevels s l := by
  rw [Bool.and_eq_true, bne_iff_ne, ne_comm]
  rfl

/-- The detector of a lane after the raw input change that the commit of the shadow set of s makes: it drops a pending edge, creates
one with the debounce of the new bank, or takes the edge at once. -/
structure Releveled (s : State) (l : Lane) (d : Detector) : Prop where
  drops : (detectorOf l s).edge ≠ none → d = { detectorOf l s with edge := none }
  creates : (detectorOf l s).edge = none → s.epochUnit.shadow.lanes[l].debounce ≠ 0 → d = { detectorOf l s with
    edge := some { latched := s.motion.m, expires := s.motion.tick + s.epochUnit.shadow.lanes[l].debounce.toNat,
                   inGap := decide ((detectorOf l s).state = .gap) } }
  takes : (detectorOf l s).edge = none → s.epochUnit.shadow.lanes[l].debounce = 0 →
    d.edge = none ∧ takenLevel d.state = !takenLevel (detectorOf l s).state

theorem rawChange_releveled (hbank : currentBank u = s.epochUnit.shadow) (hd : detectorOf l u = detectorOf l s)
    (hact : (laneEnabled l u && tracking u) = true) (hh : u.motion.h = s.motion.m) (htick : u.motion.tick = s.motion.tick) :
    Releveled s l (detectorOf l (rawChange l u)) := by
  refine ⟨fun hedge => ?_, fun hedge hdebounce => ?_, fun hedge hdebounce => ?_⟩
  · rw [rawChange_of_edge hact (by rwa [hd]), detectorOf_modifyDetector, if_pos rfl, hd]
  · rw [rawChange_of_no_edge hact (by rwa [hd]), createEdge_debounced (by rwa [hbank]), detectorOf_modifyDetector, if_pos rfl,
      newEdge, hbank, hh, htick, hd]
  · rw [rawChange_of_no_edge hact (by rwa [hd]), createEdge_at_once (by rwa [hbank]), ← hd]
    exact takeEdge_level l _ u

/-- The lane's own work follows its raw input change with no effect that shows: no gap ends. -/
theorem Releveled.detectorAdvance (h : Releveled s l (detectorOf l u)) (hwf : u.table.wf = true)
    (hgap : GapOpen u.motion.h (detectorOf l s)) (hshort : Short l u) :
    Releveled s l (detectorOf l (Machine.detectorAdvance l u)) := by
  have hquiet (edge : Option PendingEdge) (hd : detectorOf l u = { detectorOf l s with edge := edge }) :
      Machine.detectorAdvance l u = u :=
    detectorAdvance_quiet hwf (by rw [hd]; exact hgap) hshort
  refine ⟨fun hedge => ?_, fun hedge hdebounce => ?_, fun hedge hdebounce => ?_⟩
  · rw [hquiet _ (h.drops hedge)]
    exact h.drops hedge
  · rw [hquiet _ (h.creates hedge hdebounce)]
    exact h.creates hedge hdebounce
  · obtain ⟨hkept, hlevel⟩ := detectorAdvance_level l u
    obtain ⟨hnone, hturned⟩ := h.takes hedge hdebounce
    exact ⟨hkept.trans hnone, hlevel.trans hturned⟩

/-- How the detector of a lane stands when a piece of work is taken, in an advance whose mark commits: as it was, with its raw input
change to come where the lane has one; or with that change taken. -/
inductive LaneStands (s : State) (l : Lane) (left : List AdvanceWork) (u : State) : Prop
  | stays (hd : detectorOf l u = detectorOf l s)
      (hlevel : .levelChange l ∈ left → (currentBank s).lanes[l].activeHigh ≠ s.epochUnit.shadow.lanes[l].activeHigh)
      (hwaits : Relevels s l → .mark ∈ left ∨ .levelChange l ∈ left)
  | changed (hrelevels : Relevels s l) (hmark : .mark ∉ left) (hlevel : .levelChange l ∉ left)
      (h : Releveled s l (detectorOf l u))

theorem LaneStands.start (s : State) (l : Lane) : LaneStands s l advanceWork (stepForward s) :=
  .stays rfl (fun h => absurd h (levelChange_not_mem_advanceWork l)) fun _ => .inl (by decide)

theorem CommittedAt.currentBank (h : CommittedAt s t) : currentBank t = s.epochUnit.shadow := by
  simp only [Machine.currentBank, bankOf, h.unit]
  cases s.epochUnit.current <;> rfl

/-- Work that gives a lane no level change leaves how the lane stands, where it leaves the detector as the lane's events do. -/
theorem LaneStands.kept (h : LaneStands s l left u) (hmark : w ≠ .mark) (hlevel : w ≠ .levelChange l)
    (hstays : detectorOf l u = detectorOf l s → detectorOf l (doWork fixed w u).1 = detectorOf l s)
    (hchanged : Releveled s l (detectorOf l u) → Releveled s l (detectorOf l (doWork fixed w u).1)) :
    LaneStands s l (left.erase w ++ (doWork fixed w u).2) (doWork fixed w u).1 := by
  have hin := mark_mem_follows (left := left) fixed hmark u
  have hlevelin : .levelChange l ∈ left.erase w ++ (doWork fixed w u).2 ↔ .levelChange l ∈ left :=
    mem_left_iff hlevel.symm fun hnew => hmark (levelChange_mem_follows.1 hnew).1
  rcases h with ⟨hd, hold, hwaits⟩ | ⟨hrelevels, hout, hnot, hreleveled⟩
  · exact .stays (hstays hd) (fun hmem => hold (hlevelin.1 hmem)) fun hs => (hwaits hs).imp hin.2 hlevelin.2
  · exact .changed hrelevels (mt hin.1 hout) (mt hlevelin.1 hnot) (hchanged hreleveled)

/-- The mark that commits gives a lane its level change where the active level changes. -/
theorem LaneStands.mark (h : LaneStands s l left u) (hcommits : Commits s) (hwalk : MarkWalk s left u) (hwf : s.table.wf = true)
    (hat : s.motion.h + 1 = s.motion.m) (hadvance : AdvanceState s left u) (hleft : Leftover left) (hin : .mark ∈ left)
    (fixed : Option (List Slot)) :
    LaneStands s l (left.erase .mark ++ (doWork fixed .mark u).2) (doWork fixed .mark u).1 := by
  have hh : u.motion.h = s.motion.m := hadvance.h.trans hat
  have hbefore : currentBank u = currentBank s := currentBank_congr (hwalk.waiting hin).unit
  have hafter : currentBank (pitchMark u) = s.epochUnit.shadow :=
    (currentBank_congr rfl).trans ((hwalk.attempt hwf hin hh).committed hcommits).currentBank
  have hnew : .levelChange l ∈ left.erase .mark ++ (doWork fixed .mark u).2 ↔
      (currentBank s).lanes[l].activeHigh ≠ s.epochUnit.shadow.lanes[l].activeHigh := by
    have hold : .levelChange l ∉ left.erase .mark := fun hmem => (hleft.beforeMark hin).2 l (List.mem_of_mem_erase hmem)
    rw [List.mem_append, or_iff_right hold, levelChange_mem_follows, mem_lanesWithNewLevel, hbefore, hafter]
    exact and_iff_right rfl |>.trans (and_iff_right (hh.trans (hadvance.kept (.inr hin)).symm))
  rcases h with ⟨hd, _, _⟩ | ⟨_, hout, _⟩
  · exact .stays ((doWork_detector fixed (by simp) (by simp) (by simp) u).trans hd) hnew.1 fun hs => .inr (hnew.2 hs.2)
  · exact absurd hin hout

/-- The level change of a lane is its raw input change, where it is enabled. -/
theorem LaneStands.levelChange (h : LaneStands s l left u) (hcommits : Commits s) (hwalk : MarkWalk s left u)
    (hat : s.motion.h + 1 = s.motion.m) (hadvance : AdvanceState s left u) (htracking : tracking u = true) (hleft : Leftover left)
    (hin : .levelChange l ∈ left) (fixed : Option (List Slot)) :
    LaneStands s l (left.erase (.levelChange l) ++ (doWork fixed (.levelChange l) u).2) (doWork fixed (.levelChange l) u).1 := by
  have hout : .mark ∉ left := fun hmark => (hleft.beforeMark hmark).2 l hin
  have henabled : laneEnabled l u = laneEnabled l s := by rw [laneEnabled, hwalk.settings.1, laneEnabled]
  have hgone := not_mem_left_self (w := .levelChange l) (fixed := fixed) (u := u) hleft (by simp [doWork])
  rcases h with ⟨hd, hlevel, _⟩ | ⟨_, _, hnot, _⟩
  · cases hlane : laneEnabled l s with
    | false =>
      refine .stays ?_ (fun hmem => absurd hmem hgone) fun hs => absurd hs.1 (by simp [hlane])
      rw [doWork, rawChange_idle (by rw [henabled, hlane, Bool.false_and])]
      exact hd
    | true =>
      refine .changed ⟨hlane, hlevel hin⟩ (mt (mark_mem_follows fixed (by simp) u).1 hout) hgone ?_
      exact rawChange_releveled ((hwalk.settled hout).committed hcommits).currentBank hd (by rw [henabled, hlane, htracking]; rfl)
        (hadvance.h.trans hat) (by rw [hadvance.motion])
  · exact absurd hin hnot

theorem LaneStands.step (h : LaneStands s l left u) (hcommits : Commits s) (hwalk : MarkWalk s left u) (hwf : s.table.wf = true)
    (hat : s.motion.h + 1 = s.motion.m) (hadvance : AdvanceState s left u) (htracking : tracking u = true) (hleft : Leftover left)
    (hready : workReady u left w = true) (hdrain : w ≠ .drainCompletion) (hgap : GapOpen (s.motion.h + 1) (detectorOf l s))
    (hshort : Short l u) (fixed : Option (List Slot)) :
    LaneStands s l (left.erase w ++ (doWork fixed w u).2) (doWork fixed w u).1 := by
  by_cases hmark : w = .mark
  · subst hmark
    exact h.mark hcommits hwalk hwf hat hadvance hleft (by simpa [workReady, wholeWork] using hready) fixed
  by_cases hlevel : w = .levelChange l
  · subst hlevel
    exact h.levelChange hcommits hwalk hat hadvance htracking hleft (levelChange_ready hready) fixed
  by_cases hdetector : w = .detector l
  · subst hdetector
    have hwfu := hwalk.effects.wf hwf
    rw [← hadvance.h] at hgap
    refine h.kept (by simp) (by simp) (fun hd => ?_) fun hreleveled => hreleveled.detectorAdvance hwfu hgap hshort
    rw [doWork, detectorAdvance_quiet hwfu (by rwa [hd]) hshort, hd]
  · have hd := doWork_detector (l := l) fixed hdetector hlevel hdrain u
    exact h.kept hmark hlevel hd.trans fun hreleveled => by rwa [hd]

/-! ### O15 -/

theorem gapOpen_of_lanesQuietAt {h : Word} (hquiet : lanesQuietAt h s = true) (l : Lane) : GapOpen h (detectorOf l s) := by
  intro g hstate hgap
  have hlane := List.all_eq_true.1 hquiet l (List.mem_finRange l)
  rw [hstate, hgap] at hlane
  simpa using hlane

theorem short_of_lanesQuietAt (hs : TableSound s) (hquiet : lanesQuietAt (s.motion.h + 1) s = true) (l : Lane) :
    Short l (stepForward s) := by
  intro k e he hlane hopening
  have hmem : (k, e) ∈ s.table.entries := findEntry_mem he
  have hlanequiet := List.all_eq_true.1 hquiet l (List.mem_finRange l)
  rw [(openingCount_eq_one hs hmem hlane hopening).2, openingEntry_eq hs hmem hlane hopening] at hlanequiet
  have hprofile : laneProfileOf e (stepForward s) = laneProfileOf e s :=
    ((Retouched.refl e).positions (by cases e.bank <;> rfl)).1
  rw [hprofile]
  simpa using hlanequiet

/-- The whole of O15 along an advance: the commit attempt, and the lanes of a mark that commits. -/
structure MarkAndLanes (s : State) (left : List AdvanceWork) (u : State) : Prop where
  mark : MarkWalk s left u
  lanes : Commits s → lanesQuietAt (s.motion.h + 1) s = true → ∀ l, LaneStands s l left u ∧ Short l u

theorem MarkAndLanes.start (hs : TableSound s) : MarkAndLanes s advanceWork (stepForward s) :=
  ⟨.start s, fun _ hquiet l => ⟨.start s l, short_of_lanesQuietAt hs hquiet l⟩⟩

theorem MarkAndLanes.step (h : MarkAndLanes s left u) (hwf : s.table.wf = true) (hat : s.motion.h + 1 = s.motion.m)
    (hadvance : AdvanceState s left u) (htracking : tracking u = true) (hleft : Leftover left) (hready : workReady u left w = true)
    (hdrain : w ≠ .drainCompletion) (fixed : Option (List Slot)) :
    MarkAndLanes s (left.erase w ++ (doWork fixed w u).2) (doWork fixed w u).1 where
  mark := h.mark.step hwf hat hadvance hleft hready hdrain fixed
  lanes hcommits hquiet l := by
    obtain ⟨hstands, hshort⟩ := h.lanes hcommits hquiet l
    exact ⟨hstands.step hcommits h.mark hwf hat hadvance htracking hleft hready hdrain (gapOpen_of_lanesQuietAt hquiet l) hshort fixed,
      hshort.step (h.mark.effects.wf hwf) w fixed⟩

theorem WalkEnd.epochUnit (h : WalkEnd left u t) : t.epochUnit = u.epochUnit ∧ t.motion = u.motion := by
  rcases h with ⟨_, _, rfl⟩ | ⟨_, rfl⟩ <;> simp

/-- A mark that is still to come at the end has been left to START by a drain that was completed first (R17). -/
theorem WalkEnd.mark_left (h : WalkEnd left u t) (hin : .mark ∈ left) : u.engine.state = .draining ∧ t.engine.state = .stopped := by
  rcases h with ⟨hlast, _⟩ | ⟨hdone, rfl⟩
  · simp [hlast] at hin
  · exact ⟨((drainDone_iff u).1 hdone).1, by simp⟩

/-- The lanes at the end of an advance whose mark has committed. -/
theorem LaneStands.of_end (h : LaneStands s l left u) (hend : WalkEnd left u t) (hrun : t.engine.state ≠ .stopped) :
    (¬ Relevels s l → detectorOf l t = detectorOf l s) ∧ (Relevels s l → Releveled s l (detectorOf l t)) := by
  obtain ⟨rfl, rfl⟩ := hend.of_running hrun
  rw [detectorOf, settlePosts_detectors, ← detectorOf]
  rcases h with ⟨hd, _, hwaits⟩ | ⟨hrelevels, _, _, hreleveled⟩
  · exact ⟨fun _ => hd, fun hs => absurd (hwaits hs) (by simp)⟩
  · exact ⟨fun hnot => absurd hrelevels hnot, fun _ => hreleveled⟩

/-- Settles O15: the mark is taken once in whatever order the work comes, on what the advance found, and what it settles stays; a lane
takes the level change of a commit once. -/
theorem pitchMarkSettlesTheCommitAttempt : Obligations.PitchMarkSettlesTheCommitAttempt := by
  intro first s hs hmay hat previous due bound
  have ht : tracking s = true := (Bool.and_eq_true_iff.1 hmay).1
  obtain ⟨left, fixed, u, t, hexec, hadvance, hengine, hwalk, hend⟩ := advance_walk (P := fun left _ u => MarkAndLanes s left u) hmay
    first (.start hs) fun left fixed w u hadvance hengine hleft hready hdrain _ h =>
      h.step hs.1 hat hadvance (by rw [tracking_congr (congrArg Engine.state hengine), ht]) hleft hready hdrain fixed
  obtain ⟨hunit, hmotion⟩ := hend.epochUnit
  refine ⟨t, hexec, ?_⟩
  by_cases hin : .mark ∈ left
  · obtain ⟨hdraining, hstopped⟩ := hend.mark_left hin
    exact .inl ⟨hengine ▸ hdraining, hstopped, by rw [hmotion, hadvance.kept (.inr hin)], hunit.trans (hadvance.unmarked hat hin)⟩
  have hsettled := (hwalk.mark.settled hin).after hunit hend.deferredKept hend.effects
  refine .inr ⟨?_, hsettled.idle, fun hdue hframe => ?_, fun hdue hframe hbound => ?_, fun hdue hframe hnone => ?_⟩
  · rw [hmotion, currentBank_congr hunit]
    exact hadvance.marked hat hin
  · obtain ⟨hunit, hflag⟩ := hsettled.frame hdue hframe
    exact ⟨hunit, hflag⟩
  · obtain ⟨k, hk⟩ := binds_of_bound hs hbound
    obtain ⟨hunit, hflag⟩ := hsettled.bound hdue hframe k hk
    exact ⟨hunit, hflag⟩
  · cases hvalid : validate s.epochUnit.shadow s with
    | some code =>
      obtain ⟨hunit, hflag⟩ := hsettled.rejected hdue hframe hnone code hvalid
      exact ⟨hunit, hflag⟩
    | none =>
      have hcommits : Commits s := ⟨hdue, hframe, hnone, hvalid⟩
      obtain ⟨hunit, hflag, hrecord⟩ := hsettled.committed hcommits
      refine ⟨hunit, hflag, hrecord, fun hrun hquiet l => ?_⟩
      obtain ⟨hstays, hreleveled⟩ := (hwalk.lanes hcommits hquiet l).1.of_end hend hrun
      exact ⟨fun hnot => hstays fun h => Bool.false_ne_true (hnot.symm.trans (relevels_iff.2 h)),
        fun h => (hreleveled (relevels_iff.1 h)).drops, fun h => (hreleveled (relevels_iff.1 h)).creates,
        fun h => (hreleveled (relevels_iff.1 h)).takes⟩

end Sys2Proof.Machine
end
